-- ==== Sys2Proof/Word.lean ====
section
/-! DEFINITION. The words the OBR24 moves: bytes, two-byte quantities and the 32-bit millisecond time. -/

namespace Sys2Proof

/-- One byte of a frame, of a payload or of the external memory. -/
abbrev Byte := BitVec 8

/-- A two-byte quantity (11 R189) or the CRC register (01 R3). -/
abbrev Half := BitVec 16

/-- Milliseconds since power-on, wrapping modulo 2^32 (00_scope.md, Conventions). -/
abbrev Time := BitVec 32

end Sys2Proof
end

