-- ==== Sys2Proof/Syntax.lean ====
section
/-! DEFINITION. The commands of the OBR24: one constructor of `Instr` per row of spec/opcode_table.json,
with the operands its rule speaks of. The table gives the rows no bits, so a command is plain syntax. -/

namespace Sys2Proof

/-- The four link ports (01). -/
inductive Port where
  | front | rear | pack | cockpit
  deriving DecidableEq, Repr

/-- The two motors, the isolatable units (04 R45). -/
inductive Motor where
  | front | rear
  deriving DecidableEq, Repr

/-- The units whose reports give an arrival notice (02 R29). -/
inductive Reporter where
  | front | rear | cockpit
  deriving DecidableEq, Repr

/-- The two switch inputs whose accepted state is read at expiries (02 R32). -/
inductive Switch where
  | brake | stand
  deriving DecidableEq, Repr

/-- What the receiver hands to the framer: a byte, or a framing error in place of one (01 R1). -/
inductive RxItem where
  | byte (b : Byte)
  | framingError
  deriving DecidableEq, Repr

/-- The six receive errors (01 R4). -/
inductive RxError where
  | crcMismatch
  | lengthMismatch
  | overlength
  | badEscape
  | framingError
  | breakInFrame
  deriving DecidableEq, Repr

/-- The end of a sequential read of the external memory (10 R176): a missing acknowledge, or bytes.
`altered` lists the addresses at which the bytes returned differ from what the memory holds, with the
byte returned instead; a sound memory alters nothing (log 9). -/
inductive BusRead where
  | noAcknowledge
  | returned (altered : List Host.Cell)
  deriving DecidableEq, Repr

/-- What brings a power-on about (00_scope.md: power-on includes a reset through RESET_N). -/
inductive ResetCause where
  | supply
  | resetN
  deriving DecidableEq, Repr

/-- The six bytes of a row as ROW_WRITE carries them (11 R196). -/
structure RowBytes where
  flags    : Byte
  confirm  : Byte
  heal     : Byte
  recur    : Byte
  floor    : Byte
  derate   : Byte
  deriving DecidableEq, Repr

/-- The commands. `seq` is the SEQ of the COMMAND frame (09 R153); argument bytes are as received (11 R192). -/
inductive Instr where
  /-- Power-on or RESET_N. `torn`: what a page transfer cut short left, from the first address of its page on
  (10 R187, R188), if anything. -/
  | powerOn (cause : ResetCause) (torn : Option (List Byte))
  /-- A delimiter closes the body `body` at a port (01 R3). -/
  | frameReceived (p : Port) (body : List Byte)
  /-- A receive error at a port (01 R4). -/
  | receiveError (p : Port) (e : RxError)
  /-- The containment controller takes an arrival notice (02 R29). -/
  | arrivalNotice (u : Reporter)
  /-- The freshness channel of a port expires (01 R9). -/
  | freshnessExpiry (p : Port)
  /-- A break is recognised at a port (01 R10). -/
  | lineBreak (p : Port)
  /-- The containment controller takes a link state notice (07 R106). -/
  | linkStateNotice (p : Port)
  /-- An idle transmitter takes a frame (01 R14). -/
  | transmitterTakeFrame (p : Port)
  /-- The filter accepts a change of BRAKE_SW or STAND_SW to a level (02 R31). -/
  | switchChangeAccepted (sw : Switch) (asserted : Bool)
  /-- An accepted rise of WAKE (07 R103). -/
  | wakeRising
  /-- An accepted fall of WAKE (07 R103, R109). -/
  | wakeFalling
  /-- ENVELOPE expires (08 R129). -/
  | envelopeExpiry
  /-- CHECK expires (06 R90). -/
  | checkExpiry
  /-- The monitor takes an isolation notice (06 R91). -/
  | isolationNotice (m : Motor) (entered : Bool)
  /-- RECORD_TICK expires (05 R72). -/
  | recordTickExpiry
  /-- GATHER expires (07 R107). -/
  | gatherExpiry
  /-- The controller takes the report that a gather batch was taken (07 R108). -/
  | gatherBatchTaken
  /-- HALT_RAMP expires (07 R121). -/
  | haltRampExpiry
  /-- SERVICE_IDLE expires (09 R172). -/
  | serviceIdleExpiry
  /-- The controller takes a containment announcement (05 R78). -/
  | containmentAnnouncement
  /-- The controller takes the end of LOADING (07 R104). -/
  | endOfLoading
  /-- The start-up read of the image ends (10 R179). -/
  | loadImageReadDone (r : BusRead)
  /-- The start-up read of the latch list ends (10 R180). -/
  | loadLatchListReadDone (r : BusRead)
  /-- The store controller takes a latch-list rewrite request (10 R178). -/
  | latchRewriteRequest
  /-- A page write of a SAVE ends, every byte acknowledged or not (10 R182). -/
  | savePageWriteDone (acknowledged : Bool)
  /-- STORE_WAIT expires (10 R182, R185). -/
  | storeWaitExpiry
  /-- The read-back of a SAVE ends (10 R183). -/
  | saveReadbackDone (r : BusRead)
  /-- The page write of a LATCH_WRITE ends (10 R185). -/
  | latchPageWriteDone (acknowledged : Bool)
  /-- The read of a RELOAD ends (10 R184). -/
  | reloadReadDone (r : BusRead)
  /-- The service controller takes the end report of a SAVE or RELOAD (09 R162). -/
  | storeEndReport
  | queryRecords (seq start : Byte)
  | queryLink (seq unit : Byte)
  | queryRow (seq kind : Byte)
  | queryParam (seq number : Byte)
  | queryEnvelope (seq : Byte)
  /-- A COMMAND whose code names no command (09 R153). -/
  | unknownCommand (seq code : Byte)
  | serviceEnter (seq : Byte)
  | rowWrite (seq kind : Byte) (row : RowBytes)
  | paramWrite (seq number : Byte) (value : Half)
  | storeSave (seq : Byte)
  | storeReload (seq : Byte)
  | recordClear (seq slot : Byte)
  | sweepStart (seq start unit kind mode count : Byte)
  | sweepResume (seq : Byte)
  | sweepCancel (seq : Byte)
  | overridePush (seq isolateFront isolateRear floor inhibit : Byte)
  | overridePop (seq : Byte)
  | serviceLeave (seq : Byte)
  /-- A running sweep examines the slot at its cursor (05 R85). -/
  | sweepExamination
  /-- The framer of a port takes a byte or a framing error (01 R2). -/
  | byteReceived (p : Port) (item : RxItem)
  /-- The receive line of a port returns high after a break (01 R1). -/
  | breakEnd (p : Port)
  /-- One 1 ms step of the time base, with the sampled switch levels, high being true (03 R35, 02 R31). -/
  | timeBaseStep (brake stand wake : Bool)
  deriving DecidableEq, Repr

end Sys2Proof
end

