-- ==== Sys2Proof/Config.lean ====
section
/-! DEFINITION. The sizes and marker bytes the manual fixes, and the one byte value the model chooses (log 8). -/

namespace Sys2Proof.Config

/-- Slots of the fault table (05 R63). -/
def slotCount : Nat := 40

/-- Places of the cockpit reply FIFO (01 R15). -/
def fifoPlaces : Nat := 4

/-- Entries the override stack can hold (07 R116). -/
def overridePlaces : Nat := 8

/-- Records one QUERY_RECORDS reply carries at most (09 R155). -/
def recordsPerReply : Nat := 4

/-- Entries of the latch list (05 R81, 10 R176). -/
def latchPlaces : Nat := 8

/-- The largest body (01 R2). -/
def bodyMax : Nat := 45

/-- The largest payload (01 R3). -/
def payloadMax : Nat := 40

/-- Claims one report can list (01 R5, 11 R191). -/
def claimsMax : Nat := 6

/-- Consecutive samples that change an accepted switch state (02 R31). -/
def filterSamples : Nat := 5

/-- Accepted frames in an unbroken sequence that bring a link UP (01 R8). -/
def joinFrames : Nat := 3

/-- 16-bit counters saturate here (01 R11, 05 R77). -/
def counterMax : Nat := 65535

/-- The delimiter byte (01 section 1.2). -/
def delimiter : Byte := 0xA5#8

/-- The escape byte (01 section 1.2). -/
def escape : Byte := 0xA6#8

/-- What follows the escape byte for an escaped delimiter (01 R2). -/
def escapedDelimiter : Byte := 0x25#8

/-- What follows the escape byte for an escaped escape byte (01 R2). -/
def escapedEscape : Byte := 0x26#8

/-- Bytes of the external memory (10 R176). -/
def memorySize : Nat := 2048

/-- Bytes of a page (10 R176). -/
def pageSize : Nat := 32

/-- Length of the configuration image, at address 0 (11 R196). -/
def imageLength : Nat := 232

/-- The format version of the image (11 R196). -/
def imageVersion : Nat := 1

/-- Address of the latch list (11 R198). -/
def latchBase : Nat := 512

/-- Length of the latch list (11 R198). -/
def latchLength : Nat := 27

/-- The 7-bit bus address of the external memory (10 R176). -/
def memoryDevice : BitVec 7 := 0x50#7

/-- Milliseconds of internal writing after a page transfer (10 R176, R188). -/
def pageWriteTime : Nat := 6

/-- What a byte of the external memory reads as when nothing has written it.
DESIGN CHOICE (log 8): the manual gives no value. Unsafe. -/
def erased : Byte := 0xFF#8

end Sys2Proof.Config
end

