-- ==== Sys2Proof/Machine/Types.lean ====
section
/-! DEFINITION. The sets of names and the records of which the state is made (the manual's tables of state). -/

namespace Sys2Proof.Machine

open Sys2Proof

/-! ## Names (11 R189 gives their codes; Machine/Catalogue.lean holds the code functions) -/

/-- The five units (04 R45). -/
inductive FaultUnit where
  | front | rear | pack | cockpit | core
  deriving DecidableEq, Repr

/-- The 28 fault kinds, in code order (04 R45). -/
inductive Kind where
  | linkLost | linkNoise | linkFrozen | obsRange | curBalance
  | speedSplit | brakeThrottle | standMoving | isolationFail | storeFault
  | phaseOvercurrent | phaseOpen | rotorSensorLost | inverterOvertemp | motorOvertemp
  | busOvervolt | gateDriveFault | inverterSupplyLow | cellUndervolt | cellOvervolt
  | packOvertemp | packCold | contactorWeld | insulationLow | cellImbalance
  | throttleImplausible | brakeSensorFault | controlSwitchStuck
  deriving DecidableEq, Repr

/-- The drive levels, from least to most restrictive (00_scope.md, Level order). -/
inductive Level where
  | full | derate | limp | walk | halt
  deriving DecidableEq, Repr

/-- The heal policies (04 R49). -/
inductive Policy where
  | auto | key | workshop
  deriving DecidableEq, Repr

/-- The chip states (07 R102). -/
inductive Chip where
  | loading | standby | drive | service | shutdown
  deriving DecidableEq, Repr

/-- The link states (01 section 1.5). -/
inductive LinkState where
  | down | joining | up | silent
  deriving DecidableEq, Repr

/-- The framer states (01 R2). -/
inductive Framer where
  | hunt | body | escaped
  deriving DecidableEq, Repr

/-- The lifecycle states of a record (05 R63). -/
inductive RecordState where
  | pending | active | clearing | latched | dormant
  deriving DecidableEq, Repr

/-- Gate status of an inverter (02 R17). -/
inductive Gate where
  | blocked | switching
  deriving DecidableEq, Repr

/-- Contactor state of the pack (02 R17). -/
inductive Contactor where
  | opened | precharge | closed
  deriving DecidableEq, Repr

/-- The ride profiles (02 R22). -/
inductive Profile where
  | eco | tour | sport
  deriving DecidableEq, Repr

/-- Causes a STORE_FAULT carries (04 R46). -/
inductive StoreCause where
  | noMemory | imageCrc | imageInvalid | latchesInvalid | saveVerify
  deriving DecidableEq, Repr

/-- Check classes of a failed validation (11 R189). -/
inductive CheckClass where
  | paramRange | paramRelation | rowRange | rowRelation
  deriving DecidableEq, Repr

/-- The first failure of a validation: its class and its index (04 R62). -/
structure Failure where
  cls   : CheckClass
  index : Nat
  deriving DecidableEq, Repr

/-- Result codes of replies (09 section 9.1). -/
inductive Result where
  | ok | unknownCommand | badArgument | refusedState | notParked | moving | demandHeld | busy
  | lockedRow | stillLive | noRecord | stackFull | stackEmpty | invalid | storeFailed
  deriving DecidableEq, Repr

/-! ## Reaction rows and parameters (04) -/

/-- A reaction row: the ten fields of R49. -/
structure Row where
  enabled      : Bool
  confirm      : Nat     -- N_c
  heal         : Nat     -- N_h
  policy       : Policy
  recur        : Nat     -- K
  floor        : Level
  derate       : Nat
  isolate      : Bool
  regenInhibit : Bool
  packOpen     : Bool
  deriving DecidableEq, Repr

/-- One row per fault kind (R49). -/
structure Rows where
  linkLost : Row
  linkNoise : Row
  linkFrozen : Row
  obsRange : Row
  curBalance : Row
  speedSplit : Row
  brakeThrottle : Row
  standMoving : Row
  isolationFail : Row
  storeFault : Row
  phaseOvercurrent : Row
  phaseOpen : Row
  rotorSensorLost : Row
  inverterOvertemp : Row
  motorOvertemp : Row
  busOvervolt : Row
  gateDriveFault : Row
  inverterSupplyLow : Row
  cellUndervolt : Row
  cellOvervolt : Row
  packOvertemp : Row
  packCold : Row
  contactorWeld : Row
  insulationLow : Row
  cellImbalance : Row
  throttleImplausible : Row
  brakeSensorFault : Row
  controlSwitchStuck : Row
  deriving DecidableEq, Repr

/-- The names of the 29 parameters, in number order (R56). -/
inductive Param where
  | frontShare | thermStart | thermStop | slewUp | envPeriod | checkPeriod | freshMotor
  | freshPack | freshCkpt | gatherTime | haltRamp | limpPct | walkPct | limpSpeed
  | walkSpeed | ecoPct | tourPct | sportPct | ecoSpeed | tourSpeed | sportSpeed
  | brakeLineRegen | balAbs | balRel | splitAbs | splitRel | isoCurrent | dormantWindow
  | serviceIdle
  deriving DecidableEq, Repr

/-- The values of the 29 parameters (R56). -/
structure Params where
  frontShare : Nat
  thermStart : Nat
  thermStop : Nat
  slewUp : Nat
  envPeriod : Nat
  checkPeriod : Nat
  freshMotor : Nat
  freshPack : Nat
  freshCkpt : Nat
  gatherTime : Nat
  haltRamp : Nat
  limpPct : Nat
  walkPct : Nat
  limpSpeed : Nat
  walkSpeed : Nat
  ecoPct : Nat
  tourPct : Nat
  sportPct : Nat
  ecoSpeed : Nat
  tourSpeed : Nat
  sportSpeed : Nat
  brakeLineRegen : Nat
  balAbs : Nat
  balRel : Nat
  splitAbs : Nat
  splitRel : Nat
  isoCurrent : Nat
  dormantWindow : Nat
  serviceIdle : Nat
  deriving DecidableEq, Repr

/-- A working or committed copy: every row and every parameter (R58). -/
structure Copy where
  params : Params
  rows   : Rows
  deriving DecidableEq, Repr

/-! ## Supervision timers (03) -/

/-- The eleven channels, in channel order (R43). -/
inductive Chan where
  | freshFront | freshRear | freshPack | freshCkpt | envelope | check | haltRamp | recordTick
  | gather | serviceIdle | storeWait
  deriving DecidableEq, Repr

/-- Channel states (R34). -/
inductive ChanState where
  | stopped | armed | running
  deriving DecidableEq, Repr

/-- Channel modes (R34). -/
inductive ChanMode where
  | oneShot | reload
  deriving DecidableEq, Repr

/-- What a channel holds (R34); mode, tick and reload source are fixed per channel. -/
structure Channel where
  state : ChanState
  count : Nat
  phase : Nat
  deriving DecidableEq, Repr

/-- The bank of eleven channels (R43). -/
structure Timers where
  freshFront  : Channel
  freshRear   : Channel
  freshPack   : Channel
  freshCkpt   : Channel
  envelope    : Channel
  check       : Channel
  haltRamp    : Channel
  recordTick  : Channel
  gather      : Channel
  serviceIdle : Channel
  storeWait   : Channel
  deriving DecidableEq, Repr

/-! ## Observations and switch inputs (02) -/

/-- The record of FRONT or REAR (R17). -/
structure MotorRecord where
  dcCurrent    : Int
  phaseCurrent : Nat
  speed        : Nat
  motorTemp    : Int
  inverterTemp : Int
  busVoltage   : Nat
  cDrive       : Nat
  cRegen       : Nat
  gate         : Gate
  claims       : List Kind
  fresh        : Bool
  arrival      : Time
  deriving DecidableEq, Repr

/-- The record of PACK (R17). -/
structure PackRecord where
  voltage     : Nat
  current     : Int
  iDis        : Nat
  iChg        : Nat
  soc         : Nat
  minCell     : Nat
  maxCellTemp : Int
  contactor   : Contactor
  claims      : List Kind
  fresh       : Bool
  arrival     : Time
  deriving DecidableEq, Repr

/-- The record of COCKPIT (R17). -/
structure CockpitRecord where
  demand  : Nat
  brake   : Nat
  profile : Profile
  claims  : List Kind
  fresh   : Bool
  arrival : Time
  deriving DecidableEq, Repr

/-- The four observation records (R17). -/
structure Observations where
  front   : MotorRecord
  rear    : MotorRecord
  pack    : PackRecord
  cockpit : CockpitRecord
  deriving DecidableEq, Repr

/-- The filter of one switch input (R31): accepted state (true is ASSERTED) and run count. -/
structure SwitchFilter where
  asserted : Bool
  run      : Nat
  deriving DecidableEq, Repr

/-- The three switch inputs (R31). -/
structure Switches where
  brake : SwitchFilter
  stand : SwitchFilter
  wake  : SwitchFilter
  deriving DecidableEq, Repr

/-! ## The fault table (05) -/

/-- The value a record carries: a number in its kind's unit, or a STORE_FAULT cause (04 R46). -/
inductive EvidenceValue where
  | number (n : Int)
  | cause (c : StoreCause)
  deriving DecidableEq, Repr

/-- A fault record (R63); its slot is its place in the table. -/
structure FaultRecord where
  unit           : FaultUnit
  kind           : Kind
  state          : RecordState
  run            : Nat
  occurrences    : Nat
  policy         : Policy
  escalated      : Bool
  firstConfirmed : Option Time
  lastEvidence   : Time
  value          : Option EvidenceValue
  age            : Nat
  mark           : Bool
  deriving DecidableEq, Repr

/-- Sweep states (R83). -/
inductive SweepState where
  | idle | running | suspended
  deriving DecidableEq, Repr

/-- Sweep modes (R83). -/
inductive SweepMode where
  | all | stopAtLive
  deriving DecidableEq, Repr

/-- How a sweep ended, or absent (R83, R86). -/
inductive SweepOutcome where
  | absent | countDone | endOfTable | hitLive | cancelled | abandoned
  deriving DecidableEq, Repr

/-- The sweep state (R83); a filter of none is "any". -/
structure Sweep where
  state      : SweepState
  unitFilter : Option FaultUnit
  kindFilter : Option Kind
  mode       : SweepMode
  cursor     : Nat
  remaining  : Nat
  cleared    : Nat
  outcome    : SweepOutcome
  deriving DecidableEq, Repr

/-- The fault table (R63, R77, R83). -/
structure FaultTable where
  slots     : List (Option FaultRecord)
  tableFull : Bool
  lost      : Nat
  sweep     : Sweep
  deriving DecidableEq, Repr

/-- One delivery to the fault table (04 R45, R47). -/
inductive Delivery where
  | evidence (u : FaultUnit) (k : Kind) (v : Option EvidenceValue)
  | clean (u : FaultUnit) (k : Kind)
  deriving DecidableEq, Repr

/-- An entry of the latch list (05 R81). -/
structure LatchEntry where
  unit        : FaultUnit
  kind        : Kind
  occurrences : Nat
  deriving DecidableEq, Repr

/-! ## Cross-check monitor (06) -/

/-- Watch set and grace flags (R89). -/
structure Monitor where
  watchFront : Bool
  watchRear  : Bool
  graceFront : Bool
  graceRear  : Bool
  deriving DecidableEq, Repr

/-! ## Containment controller (07) -/

/-- A target or applied state (R102). -/
structure Drive where
  level        : Level
  derate       : Nat
  isoFront     : Bool
  isoRear      : Bool
  regenInhibit : Bool
  packOpen     : Bool
  deriving DecidableEq, Repr

/-- An entry of the override stack (R116). -/
structure Override where
  isoFront     : Bool
  isoRear      : Bool
  floor        : Level
  regenInhibit : Bool
  deriving DecidableEq, Repr

/-- What the containment controller holds (R102). The head of `overrides` is the top entry;
`ramp` is true while the HALT ramp is IN_PROGRESS; a line is true while high. -/
structure Control where
  chip        : Chip
  awake       : Bool
  gatherDone  : Bool
  target      : Drive
  applied     : Drive
  ramp        : Bool
  overrides   : List Override
  permitFront : Bool
  permitRear  : Bool
  packOpen    : Bool
  warn        : Bool
  deriving DecidableEq, Repr

/-! ## Envelope computer (08) -/

/-- The stage values of one budget for both motors (R134 to R138). -/
structure Split where
  budget     : Nat
  shareFront : Nat
  shareRear  : Nat
  limFront   : Nat   -- M_F
  limRear    : Nat   -- M_R
  fitFront   : Nat   -- D_F
  fitRear    : Nat   -- D_R
  aimFront   : Nat   -- E_F
  aimRear    : Nat   -- E_R
  ceilFront  : Nat   -- P_F or Q_F
  ceilRear   : Nat   -- P_R or Q_R
  deriving DecidableEq, Repr

/-- The last-computation record (R151). -/
structure LastComputation where
  chip     : Chip
  profile  : Profile
  level    : Level
  isoFront : Bool
  isoRear  : Bool
  p        : Nat
  vCeil    : Nat     -- V_c
  kFront   : Nat
  kRear    : Nat
  drive    : Split   -- budget B, ceilings P
  regen    : Split   -- budget G, ceilings Q
  d        : Nat
  b        : Nat
  v        : Nat
  cmdFront : Nat
  cmdRear  : Nat
  regFront : Nat
  regRear  : Nat
  valid    : Bool
  deriving DecidableEq, Repr

/-- What the envelope computer holds (R128). -/
structure Envelope where
  pFront : Nat
  pRear  : Nat
  qFront : Nat
  qRear  : Nat
  last   : LastComputation
  deriving DecidableEq, Repr

/-! ## Grants, replies and ports (08 R147 to R149, 01) -/

/-- A MOTOR_GRANT (08 R147). -/
structure MotorGrant where
  level      : Level
  isolated   : Bool
  driveCeil  : Nat
  regenCeil  : Nat
  driveCmd   : Nat
  regenCmd   : Nat
  speedCeil  : Nat
  deriving DecidableEq, Repr

/-- A PACK_GRANT (08 R148). -/
structure PackGrant where
  level         : Level
  expectedDrive : Nat
  expectedRegen : Nat
  packOpen      : Bool
  deriving DecidableEq, Repr

/-- A COCKPIT_STATUS (08 R149). -/
structure CockpitStatus where
  chip      : Chip
  applied   : Level
  target    : Level
  isoFront  : Bool
  isoRear   : Bool
  speedCeil : Nat
  contained : Nat
  tableFull : Bool
  unsaved   : Bool
  storeBusy : Bool
  lead      : Option (FaultUnit × Kind)
  depth     : Nat
  sweep     : SweepState
  outcome   : SweepOutcome
  cleared   : Nat
  cursor    : Nat
  remaining : Nat
  deriving DecidableEq, Repr

/-- A grant in a grant slot (01 R13). -/
inductive Grant where
  | motor (g : MotorGrant)
  | pack (g : PackGrant)
  | status (g : CockpitStatus)
  deriving DecidableEq, Repr

/-- A reply in the cockpit reply FIFO: the payloads of its untaken parts, in part order (11 R195). -/
structure Reply where
  untaken : List (List Byte)
  deriving DecidableEq, Repr

/-- The counters of a port (01 R11). -/
structure Counters where
  good      : Nat
  bad       : Nat
  protocol  : Nat
  malformed : Nat
  repeats   : Nat
  gaps      : Nat
  breaks    : Nat
  replaced  : Nat
  dropped   : Nat
  deriving DecidableEq, Repr

/-- What a port holds (01). `txLine` is the frame its transmitter last began, as sent (log 12). -/
structure LinkPort where
  framer   : Framer
  body     : List Byte
  inBreak  : Bool
  link     : LinkState
  seqRef   : Option Byte
  joinRun  : Nat
  counters : Counters
  grant    : Option Grant
  txSeq    : Byte
  txLine   : List Byte
  deriving DecidableEq, Repr

/-- The four ports. -/
structure Ports where
  front   : LinkPort
  rear    : LinkPort
  pack    : LinkPort
  cockpit : LinkPort
  deriving DecidableEq, Repr

/-! ## Service and configuration store (09, 10) -/

/-- The deferred reply (09 R152): the command and its SEQ. -/
inductive Deferred where
  | save (seq : Byte)
  | reload (seq : Byte)
  deriving DecidableEq, Repr

/-- The outcome of an image test (10 R179). -/
inductive ImageOutcome where
  | valid (c : Copy)
  | noMemory
  | crc
  | invalid (f : Failure)
  deriving DecidableEq, Repr

/-- The outcome of a latch-list test (10 R180). -/
inductive LatchOutcome where
  | valid (entries : List LatchEntry)
  | noMemory
  | invalid
  deriving DecidableEq, Repr

/-- The outcome a SAVE or RELOAD reports at its end (09 R163, R164). -/
inductive StoreEnd where
  | ok
  | failed
  | invalid (f : Failure)
  deriving DecidableEq, Repr

/-- The operation in progress and the step it has reached (10 R177). -/
inductive StoreOp where
  | none
  | loadImage
  | loadLatches (image : ImageOutcome)
  | savePage (page : Nat)
  | saveWait (page : Nat)
  | saveReadback
  | reloadRead
  | latchPage
  | latchWait
  deriving DecidableEq, Repr

/-- A transaction on the I2C pair (10 R176): a page write of data, or a sequential read of `count` bytes, each
from a memory address up. -/
inductive BusTransaction where
  | pageWrite (address : Nat) (data : List Byte)
  | sequentialRead (address count : Nat)
  deriving DecidableEq, Repr

/-- What the controller sends in a transaction (10 R176): the 7-bit bus address, then bytes. -/
structure BusSent where
  device : BitVec 7
  bytes  : List Byte
  deriving DecidableEq, Repr

/-- What the configuration store controller holds (10 R177; `replaced` 04 R58). `refused`: the transaction in
progress was begun while the memory was writing, so it is not acknowledged (10 R176, R188; log 11). -/
structure Store where
  op            : StoreOp
  latchPending  : Bool
  savePending   : Bool
  reloadPending : Bool
  busy          : Bool
  imageBuffer   : List Byte
  latchBuffer   : List Byte
  replaced      : Bool
  refused       : Bool
  deriving DecidableEq, Repr

/-- An event one block has handed to another that has not been taken yet (log 3). -/
inductive Owed where
  /-- An arrival notice, with the demand or speed it carries (02 R29). -/
  | arrival (u : Reporter) (carried : Nat)
  /-- A link state notice (07 R106). -/
  | linkState (p : Port)
  /-- A containment announcement (05 R78). -/
  | announcement
  /-- An isolation notice (06 R91). -/
  | isolation (m : Motor) (entered : Bool)
  /-- A latch-list rewrite request (05 R80). -/
  | latchRequest
  /-- The report that a gather batch was taken; not current once STANDBY was entered again (07 R108). -/
  | gatherBatch (current : Bool)
  /-- The end of LOADING (10 R181). -/
  | endOfLoading
  /-- The end report of a SAVE or RELOAD (10 R183, R184). -/
  | storeEnd (e : StoreEnd)
  /-- An expiry; not in force once its owner issued an operation to the channel (03 R41). -/
  | expiry (c : Chan) (inForce : Bool)
  /-- An accepted change of BRAKE_SW or STAND_SW (02 R32). -/
  | switchChange (sw : Switch) (asserted : Bool)
  /-- An accepted change of WAKE (02 R32). -/
  | wakeChange (asserted : Bool)
  /-- A COMMAND handed on to the service controller (01 R15). -/
  | command (i : Instr)
  deriving DecidableEq, Repr

end Sys2Proof.Machine
end

