-- ==== Sys2Proof/Machine/Catalogue.lean ====
section
/-! DEFINITION. The catalogue of chapter 4 (kinds, allowed pairs, built-in rows, parameters and ranges),
the channel assignment of chapter 3, and the codes of chapter 11 (R189). -/

namespace Sys2Proof.Machine

open Sys2Proof

/-! ## Kinds and units (04 R45) -/

/-- The kinds in code order (R45). -/
def Kind.all : List Kind :=
  [.linkLost, .linkNoise, .linkFrozen, .obsRange, .curBalance, .speedSplit,
   .brakeThrottle, .standMoving, .isolationFail, .storeFault, .phaseOvercurrent, .phaseOpen,
   .rotorSensorLost, .inverterOvertemp, .motorOvertemp, .busOvervolt, .gateDriveFault, .inverterSupplyLow,
   .cellUndervolt, .cellOvervolt, .packOvertemp, .packCold, .contactorWeld, .insulationLow,
   .cellImbalance, .throttleImplausible, .brakeSensorFault, .controlSwitchStuck]

/-- The code of a kind (R45). -/
def Kind.code : Kind → Nat
  | .linkLost => 0
  | .linkNoise => 1
  | .linkFrozen => 2
  | .obsRange => 3
  | .curBalance => 4
  | .speedSplit => 5
  | .brakeThrottle => 6
  | .standMoving => 7
  | .isolationFail => 8
  | .storeFault => 9
  | .phaseOvercurrent => 10
  | .phaseOpen => 11
  | .rotorSensorLost => 12
  | .inverterOvertemp => 13
  | .motorOvertemp => 14
  | .busOvervolt => 15
  | .gateDriveFault => 16
  | .inverterSupplyLow => 17
  | .cellUndervolt => 18
  | .cellOvervolt => 19
  | .packOvertemp => 20
  | .packCold => 21
  | .contactorWeld => 22
  | .insulationLow => 23
  | .cellImbalance => 24
  | .throttleImplausible => 25
  | .brakeSensorFault => 26
  | .controlSwitchStuck => 27

/-- The kind a code names, if any (R45). -/
def Kind.ofCode (n : Nat) : Option Kind := Kind.all[n]?

/-- The code of a unit (R45). -/
def FaultUnit.code : FaultUnit → Nat
  | .front => 0 | .rear => 1 | .pack => 2 | .cockpit => 3 | .core => 4

/-- The unit a code names, if any (R45). -/
def FaultUnit.ofCode : Nat → Option FaultUnit
  | 0 => some .front | 1 => some .rear | 2 => some .pack | 3 => some .cockpit | 4 => some .core
  | _ => none

end Sys2Proof.Machine

namespace Sys2Proof

open Machine

/-- The unit of a link port. -/
def Port.unit : Port → FaultUnit
  | .front => .front | .rear => .rear | .pack => .pack | .cockpit => .cockpit

end Sys2Proof

namespace Sys2Proof.Machine

open Sys2Proof

/-- The port of a unit that has a link (02 R17: CORE has none). -/
def FaultUnit.port : FaultUnit → Option Port
  | .front => some .front | .rear => some .rear | .pack => some .pack | .cockpit => some .cockpit
  | .core => none

end Sys2Proof.Machine

namespace Sys2Proof

open Machine

/-- The ports in the order FRONT, REAR, PACK, COCKPIT. -/
def Port.all : List Port := [.front, .rear, .pack, .cockpit]

/-- The unit of a motor. -/
def Motor.unit : Motor → FaultUnit
  | .front => .front | .rear => .rear

end Sys2Proof

namespace Sys2Proof.Machine

open Sys2Proof

/-- The allowed pairs of unit and kind: the table of R45. -/
def allowedPair (u : FaultUnit) (k : Kind) : Bool :=
  match k with
  | .linkLost | .linkNoise | .linkFrozen | .obsRange => u != .core
  | .curBalance => u == .front || u == .rear || u == .core
  | .speedSplit | .storeFault => u == .core
  | .brakeThrottle | .standMoving => u == .cockpit
  | .isolationFail | .phaseOvercurrent | .phaseOpen | .rotorSensorLost | .inverterOvertemp
  | .motorOvertemp | .busOvervolt | .gateDriveFault | .inverterSupplyLow => u == .front || u == .rear
  | .cellUndervolt | .cellOvervolt | .packOvertemp | .packCold | .contactorWeld | .insulationLow
  | .cellImbalance => u == .pack
  | .throttleImplausible | .brakeSensorFault | .controlSwitchStuck => u == .cockpit

/-- Whether a kind is claimed by a master; the others are detected (R45). -/
def Kind.isClaimed (k : Kind) : Bool := decide (10 ≤ k.code)

/-- The claimable kinds of a unit in ascending code order (02 R24, 04 R45). -/
def claimable (u : FaultUnit) : List Kind := Kind.all.filter fun k => k.isClaimed && allowedPair u k

/-- Whether evidence of a kind carries a value (R46). -/
def Kind.carriesValue : Kind → Bool
  | .obsRange | .curBalance | .speedSplit | .brakeThrottle | .standMoving | .isolationFail
  | .storeFault => true
  | _ => false

/-- The locked kinds (R51). -/
def Kind.isLocked : Kind → Bool
  | .isolationFail | .storeFault | .phaseOvercurrent | .gateDriveFault | .contactorWeld => true
  | _ => false

/-! ## Levels and the other codes (11 R189) -/

/-- The place of a level in the order of restrictiveness, which is its code too (00_scope.md, 11 R189). -/
def Level.rank : Level → Nat
  | .full => 0 | .derate => 1 | .limp => 2 | .walk => 3 | .halt => 4

/-- The level a code names, if any. -/
def Level.ofCode : Nat → Option Level
  | 0 => some .full | 1 => some .derate | 2 => some .limp | 3 => some .walk | 4 => some .halt
  | _ => none

/-- The more restrictive of two levels (00_scope.md, Level order). -/
def Level.max (a b : Level) : Level := if a.rank < b.rank then b else a

def Chip.code : Chip → Nat
  | .loading => 0 | .standby => 1 | .drive => 2 | .service => 3 | .shutdown => 4

def LinkState.code : LinkState → Nat
  | .down => 0 | .joining => 1 | .up => 2 | .silent => 3

def RecordState.code : RecordState → Nat
  | .pending => 0 | .active => 1 | .clearing => 2 | .latched => 3 | .dormant => 4

def Policy.code : Policy → Nat
  | .auto => 0 | .key => 1 | .workshop => 2

def Policy.ofCode : Nat → Option Policy
  | 0 => some .auto | 1 => some .key | 2 => some .workshop
  | _ => none

def Gate.code : Gate → Nat
  | .blocked => 0 | .switching => 1

def Gate.ofCode : Nat → Option Gate
  | 0 => some .blocked | 1 => some .switching
  | _ => none

def Contactor.code : Contactor → Nat
  | .opened => 0 | .precharge => 1 | .closed => 2

def Contactor.ofCode : Nat → Option Contactor
  | 0 => some .opened | 1 => some .precharge | 2 => some .closed
  | _ => none

def Profile.code : Profile → Nat
  | .eco => 0 | .tour => 1 | .sport => 2

def Profile.ofCode : Nat → Option Profile
  | 0 => some .eco | 1 => some .tour | 2 => some .sport
  | _ => none

def SweepState.code : SweepState → Nat
  | .idle => 0 | .running => 1 | .suspended => 2

def SweepMode.ofCode : Nat → Option SweepMode
  | 0 => some .all | 1 => some .stopAtLive
  | _ => none

def SweepOutcome.code : SweepOutcome → Nat
  | .absent => 0 | .countDone => 1 | .endOfTable => 2 | .hitLive => 3 | .cancelled => 4
  | .abandoned => 5

def StoreCause.code : StoreCause → Nat
  | .noMemory => 0 | .imageCrc => 1 | .imageInvalid => 2 | .latchesInvalid => 3 | .saveVerify => 4

def CheckClass.code : CheckClass → Nat
  | .paramRange => 0 | .paramRelation => 1 | .rowRange => 2 | .rowRelation => 3

def Result.code : Result → Nat
  | .ok => 0 | .unknownCommand => 1 | .badArgument => 2 | .refusedState => 3 | .notParked => 4
  | .moving => 5 | .demandHeld => 6 | .busy => 7 | .lockedRow => 8 | .stillLive => 9
  | .noRecord => 10 | .stackFull => 11 | .stackEmpty => 12 | .invalid => 13 | .storeFailed => 14

/-! ## Rows (04 R49 to R51) -/

/-- The row of a kind. -/
def Rows.get (r : Rows) : Kind → Row
  | .linkLost => r.linkLost
  | .linkNoise => r.linkNoise
  | .linkFrozen => r.linkFrozen
  | .obsRange => r.obsRange
  | .curBalance => r.curBalance
  | .speedSplit => r.speedSplit
  | .brakeThrottle => r.brakeThrottle
  | .standMoving => r.standMoving
  | .isolationFail => r.isolationFail
  | .storeFault => r.storeFault
  | .phaseOvercurrent => r.phaseOvercurrent
  | .phaseOpen => r.phaseOpen
  | .rotorSensorLost => r.rotorSensorLost
  | .inverterOvertemp => r.inverterOvertemp
  | .motorOvertemp => r.motorOvertemp
  | .busOvervolt => r.busOvervolt
  | .gateDriveFault => r.gateDriveFault
  | .inverterSupplyLow => r.inverterSupplyLow
  | .cellUndervolt => r.cellUndervolt
  | .cellOvervolt => r.cellOvervolt
  | .packOvertemp => r.packOvertemp
  | .packCold => r.packCold
  | .contactorWeld => r.contactorWeld
  | .insulationLow => r.insulationLow
  | .cellImbalance => r.cellImbalance
  | .throttleImplausible => r.throttleImplausible
  | .brakeSensorFault => r.brakeSensorFault
  | .controlSwitchStuck => r.controlSwitchStuck

/-- The rows with the row of one kind replaced (R57: the ten fields as one). -/
def Rows.set (r : Rows) (k : Kind) (x : Row) : Rows :=
  match k with
  | .linkLost => { r with linkLost := x }
  | .linkNoise => { r with linkNoise := x }
  | .linkFrozen => { r with linkFrozen := x }
  | .obsRange => { r with obsRange := x }
  | .curBalance => { r with curBalance := x }
  | .speedSplit => { r with speedSplit := x }
  | .brakeThrottle => { r with brakeThrottle := x }
  | .standMoving => { r with standMoving := x }
  | .isolationFail => { r with isolationFail := x }
  | .storeFault => { r with storeFault := x }
  | .phaseOvercurrent => { r with phaseOvercurrent := x }
  | .phaseOpen => { r with phaseOpen := x }
  | .rotorSensorLost => { r with rotorSensorLost := x }
  | .inverterOvertemp => { r with inverterOvertemp := x }
  | .motorOvertemp => { r with motorOvertemp := x }
  | .busOvervolt => { r with busOvervolt := x }
  | .gateDriveFault => { r with gateDriveFault := x }
  | .inverterSupplyLow => { r with inverterSupplyLow := x }
  | .cellUndervolt => { r with cellUndervolt := x }
  | .cellOvervolt => { r with cellOvervolt := x }
  | .packOvertemp => { r with packOvertemp := x }
  | .packCold => { r with packCold := x }
  | .contactorWeld => { r with contactorWeld := x }
  | .insulationLow => { r with insulationLow := x }
  | .cellImbalance => { r with cellImbalance := x }
  | .throttleImplausible => { r with throttleImplausible := x }
  | .brakeSensorFault => { r with brakeSensorFault := x }
  | .controlSwitchStuck => { r with controlSwitchStuck := x }

/-- The built-in rows (R50). Where the manual's table shows no value, N_h is 1 and the derate percent 100. -/
def Rows.builtin : Rows where
  linkLost := ⟨true, 1, 20, .auto, 3, .limp, 100, true, false, false⟩
  linkNoise := ⟨true, 3, 50, .auto, 0, .derate, 70, false, false, false⟩
  linkFrozen := ⟨true, 5, 10, .auto, 2, .limp, 100, true, false, false⟩
  obsRange := ⟨true, 3, 20, .auto, 0, .derate, 60, false, false, false⟩
  curBalance := ⟨true, 4, 25, .auto, 3, .derate, 50, true, false, false⟩
  speedSplit := ⟨true, 10, 50, .auto, 3, .limp, 100, false, false, false⟩
  brakeThrottle := ⟨true, 5, 5, .auto, 0, .limp, 100, false, false, false⟩
  standMoving := ⟨true, 20, 20, .key, 0, .derate, 100, false, false, false⟩
  isolationFail := ⟨true, 3, 1, .workshop, 0, .halt, 100, true, true, true⟩
  storeFault := ⟨true, 1, 1, .workshop, 0, .limp, 100, false, false, false⟩
  phaseOvercurrent := ⟨true, 1, 1, .key, 2, .limp, 100, true, false, false⟩
  phaseOpen := ⟨true, 2, 40, .key, 0, .limp, 100, true, false, false⟩
  rotorSensorLost := ⟨true, 2, 40, .auto, 3, .limp, 100, true, false, false⟩
  inverterOvertemp := ⟨true, 3, 100, .auto, 0, .derate, 60, false, false, false⟩
  motorOvertemp := ⟨true, 3, 100, .auto, 0, .derate, 60, false, false, false⟩
  busOvervolt := ⟨true, 2, 20, .auto, 4, .derate, 100, false, true, false⟩
  gateDriveFault := ⟨true, 1, 1, .workshop, 0, .limp, 100, true, false, false⟩
  inverterSupplyLow := ⟨true, 5, 50, .auto, 0, .derate, 70, false, false, false⟩
  cellUndervolt := ⟨true, 3, 50, .auto, 0, .walk, 100, false, false, false⟩
  cellOvervolt := ⟨true, 2, 50, .auto, 2, .derate, 100, false, true, false⟩
  packOvertemp := ⟨true, 3, 100, .auto, 0, .limp, 100, false, true, false⟩
  packCold := ⟨true, 3, 100, .auto, 0, .derate, 50, false, true, false⟩
  contactorWeld := ⟨true, 1, 1, .workshop, 0, .derate, 100, false, false, false⟩
  insulationLow := ⟨true, 5, 200, .key, 0, .halt, 100, false, false, true⟩
  cellImbalance := ⟨true, 10, 100, .auto, 0, .derate, 80, false, false, false⟩
  throttleImplausible := ⟨true, 2, 20, .key, 0, .walk, 100, false, false, false⟩
  brakeSensorFault := ⟨true, 2, 20, .auto, 3, .limp, 100, false, true, false⟩
  controlSwitchStuck := ⟨true, 10, 10, .auto, 0, .derate, 100, false, false, false⟩

/-- A row's fields lie in the ranges of R49 (the three enumerated fields and the flags always do). -/
def Row.inRange (r : Row) : Bool :=
  decide (1 ≤ r.confirm) && decide (r.confirm ≤ 15) && decide (1 ≤ r.heal) && decide (r.heal ≤ 255)
    && decide (r.recur ≤ 15) && decide (10 ≤ r.derate) && decide (r.derate ≤ 100)

/-! ## Parameters (04 R56) -/

/-- The parameters in number order (R56). -/
def Param.all : List Param :=
  [.frontShare, .thermStart, .thermStop, .slewUp, .envPeriod, .checkPeriod,
   .freshMotor, .freshPack, .freshCkpt, .gatherTime, .haltRamp, .limpPct,
   .walkPct, .limpSpeed, .walkSpeed, .ecoPct, .tourPct, .sportPct,
   .ecoSpeed, .tourSpeed, .sportSpeed, .brakeLineRegen, .balAbs, .balRel,
   .splitAbs, .splitRel, .isoCurrent, .dormantWindow, .serviceIdle]

/-- The number of a parameter (R56). -/
def Param.number : Param → Nat
  | .frontShare => 0
  | .thermStart => 1
  | .thermStop => 2
  | .slewUp => 3
  | .envPeriod => 4
  | .checkPeriod => 5
  | .freshMotor => 6
  | .freshPack => 7
  | .freshCkpt => 8
  | .gatherTime => 9
  | .haltRamp => 10
  | .limpPct => 11
  | .walkPct => 12
  | .limpSpeed => 13
  | .walkSpeed => 14
  | .ecoPct => 15
  | .tourPct => 16
  | .sportPct => 17
  | .ecoSpeed => 18
  | .tourSpeed => 19
  | .sportSpeed => 20
  | .brakeLineRegen => 21
  | .balAbs => 22
  | .balRel => 23
  | .splitAbs => 24
  | .splitRel => 25
  | .isoCurrent => 26
  | .dormantWindow => 27
  | .serviceIdle => 28

/-- The parameter a number names, if any (R56). -/
def Param.ofNumber (n : Nat) : Option Param := Param.all[n]?

/-- The lower end of a parameter's range (R56). -/
def Param.low : Param → Nat
  | .frontShare => 0
  | .thermStart => 60
  | .thermStop => 65
  | .slewUp => 1
  | .envPeriod => 5
  | .checkPeriod => 10
  | .freshMotor => 10
  | .freshPack => 20
  | .freshCkpt => 20
  | .gatherTime => 500
  | .haltRamp => 50
  | .limpPct => 10
  | .walkPct => 5
  | .limpSpeed => 30
  | .walkSpeed => 10
  | .ecoPct => 10
  | .tourPct => 10
  | .sportPct => 10
  | .ecoSpeed => 50
  | .tourSpeed => 50
  | .sportSpeed => 50
  | .brakeLineRegen => 0
  | .balAbs => 1
  | .balRel => 1
  | .splitAbs => 5
  | .splitRel => 1
  | .isoCurrent => 1
  | .dormantWindow => 10
  | .serviceIdle => 30

/-- The upper end of a parameter's range (R56). -/
def Param.high : Param → Nat
  | .frontShare => 100
  | .thermStart => 180
  | .thermStop => 200
  | .slewUp => 50
  | .envPeriod => 20
  | .checkPeriod => 100
  | .freshMotor => 200
  | .freshPack => 500
  | .freshCkpt => 500
  | .gatherTime => 10000
  | .haltRamp => 1000
  | .limpPct => 100
  | .walkPct => 50
  | .limpSpeed => 300
  | .walkSpeed => 80
  | .ecoPct => 100
  | .tourPct => 100
  | .sportPct => 100
  | .ecoSpeed => 600
  | .tourSpeed => 600
  | .sportSpeed => 600
  | .brakeLineRegen => 1000
  | .balAbs => 50
  | .balRel => 50
  | .splitAbs => 100
  | .splitRel => 50
  | .isoCurrent => 30
  | .dormantWindow => 6000
  | .serviceIdle => 600

/-- A value lies in a parameter's range (R56, R57). -/
def Param.inRange (p : Param) (v : Nat) : Bool := decide (p.low ≤ v) && decide (v ≤ p.high)

/-- The value of a parameter. -/
def Params.get (c : Params) : Param → Nat
  | .frontShare => c.frontShare
  | .thermStart => c.thermStart
  | .thermStop => c.thermStop
  | .slewUp => c.slewUp
  | .envPeriod => c.envPeriod
  | .checkPeriod => c.checkPeriod
  | .freshMotor => c.freshMotor
  | .freshPack => c.freshPack
  | .freshCkpt => c.freshCkpt
  | .gatherTime => c.gatherTime
  | .haltRamp => c.haltRamp
  | .limpPct => c.limpPct
  | .walkPct => c.walkPct
  | .limpSpeed => c.limpSpeed
  | .walkSpeed => c.walkSpeed
  | .ecoPct => c.ecoPct
  | .tourPct => c.tourPct
  | .sportPct => c.sportPct
  | .ecoSpeed => c.ecoSpeed
  | .tourSpeed => c.tourSpeed
  | .sportSpeed => c.sportSpeed
  | .brakeLineRegen => c.brakeLineRegen
  | .balAbs => c.balAbs
  | .balRel => c.balRel
  | .splitAbs => c.splitAbs
  | .splitRel => c.splitRel
  | .isoCurrent => c.isoCurrent
  | .dormantWindow => c.dormantWindow
  | .serviceIdle => c.serviceIdle

/-- The parameters with one value replaced (R57). -/
def Params.set (c : Params) (p : Param) (v : Nat) : Params :=
  match p with
  | .frontShare => { c with frontShare := v }
  | .thermStart => { c with thermStart := v }
  | .thermStop => { c with thermStop := v }
  | .slewUp => { c with slewUp := v }
  | .envPeriod => { c with envPeriod := v }
  | .checkPeriod => { c with checkPeriod := v }
  | .freshMotor => { c with freshMotor := v }
  | .freshPack => { c with freshPack := v }
  | .freshCkpt => { c with freshCkpt := v }
  | .gatherTime => { c with gatherTime := v }
  | .haltRamp => { c with haltRamp := v }
  | .limpPct => { c with limpPct := v }
  | .walkPct => { c with walkPct := v }
  | .limpSpeed => { c with limpSpeed := v }
  | .walkSpeed => { c with walkSpeed := v }
  | .ecoPct => { c with ecoPct := v }
  | .tourPct => { c with tourPct := v }
  | .sportPct => { c with sportPct := v }
  | .ecoSpeed => { c with ecoSpeed := v }
  | .tourSpeed => { c with tourSpeed := v }
  | .sportSpeed => { c with sportSpeed := v }
  | .brakeLineRegen => { c with brakeLineRegen := v }
  | .balAbs => { c with balAbs := v }
  | .balRel => { c with balRel := v }
  | .splitAbs => { c with splitAbs := v }
  | .splitRel => { c with splitRel := v }
  | .isoCurrent => { c with isoCurrent := v }
  | .dormantWindow => { c with dormantWindow := v }
  | .serviceIdle => { c with serviceIdle := v }

/-- The built-in parameters (R56). -/
def Params.builtin : Params where
  frontShare := 40
  thermStart := 110
  thermStop := 150
  slewUp := 2
  envPeriod := 10
  checkPeriod := 20
  freshMotor := 25
  freshPack := 100
  freshCkpt := 50
  gatherTime := 2000
  haltRamp := 200
  limpPct := 40
  walkPct := 15
  limpSpeed := 150
  walkSpeed := 60
  ecoPct := 60
  tourPct := 85
  sportPct := 100
  ecoSpeed := 250
  tourSpeed := 350
  sportSpeed := 450
  brakeLineRegen := 300
  balAbs := 6
  balRel := 8
  splitAbs := 20
  splitRel := 15
  isoCurrent := 5
  dormantWindow := 600
  serviceIdle := 120

/-- The built-in rows and parameters (R50, R58). -/
def Copy.builtin : Copy := ⟨Params.builtin, Rows.builtin⟩

/-! ## Channels (03 R43) -/

/-- The channels in channel order (R43). -/
def Chan.all : List Chan :=
  [.freshFront, .freshRear, .freshPack, .freshCkpt, .envelope, .check, .haltRamp, .recordTick,
   .gather, .serviceIdle, .storeWait]

/-- The fixed mode of a channel (R43). -/
def Chan.mode : Chan → ChanMode
  | .envelope | .check | .recordTick => .reload
  | .freshFront | .freshRear | .freshPack | .freshCkpt | .haltRamp | .gather | .serviceIdle
  | .storeWait => .oneShot

/-- Steps of the time base in one tick of a channel (R43). -/
def Chan.tick : Chan → Nat
  | .recordTick | .serviceIdle => 100
  | .freshFront | .freshRear | .freshPack | .freshCkpt | .envelope | .check | .haltRamp | .gather
  | .storeWait => 1

/-- The reload value of a channel: its reload source read from the working parameters (R42, R43). -/
def Chan.reloadValue (c : Params) : Chan → Nat
  | .freshFront | .freshRear => c.freshMotor
  | .freshPack => c.freshPack
  | .freshCkpt => c.freshCkpt
  | .envelope => c.envPeriod
  | .check => c.checkPeriod
  | .haltRamp => c.haltRamp
  | .recordTick => 1
  | .gather => c.gatherTime
  | .serviceIdle => c.serviceIdle * 10
  | .storeWait => 6

end Sys2Proof.Machine

namespace Sys2Proof

open Machine

/-- The freshness channel of a port (R43). -/
def Port.channel : Port → Chan
  | .front => .freshFront | .rear => .freshRear | .pack => .freshPack | .cockpit => .freshCkpt

end Sys2Proof

namespace Sys2Proof.Machine

open Sys2Proof

/-- A channel of the bank. -/
def Timers.get (t : Timers) : Chan → Channel
  | .freshFront => t.freshFront | .freshRear => t.freshRear | .freshPack => t.freshPack
  | .freshCkpt => t.freshCkpt | .envelope => t.envelope | .check => t.check
  | .haltRamp => t.haltRamp | .recordTick => t.recordTick | .gather => t.gather
  | .serviceIdle => t.serviceIdle | .storeWait => t.storeWait

/-- The bank with one channel replaced. -/
def Timers.set (t : Timers) (c : Chan) (x : Channel) : Timers :=
  match c with
  | .freshFront => { t with freshFront := x }
  | .freshRear => { t with freshRear := x }
  | .freshPack => { t with freshPack := x }
  | .freshCkpt => { t with freshCkpt := x }
  | .envelope => { t with envelope := x }
  | .check => { t with check := x }
  | .haltRamp => { t with haltRamp := x }
  | .recordTick => { t with recordTick := x }
  | .gather => { t with gather := x }
  | .serviceIdle => { t with serviceIdle := x }
  | .storeWait => { t with storeWait := x }

/-! ## Ports -/

/-- One of the four ports. -/
def Ports.get (t : Ports) : Port → LinkPort
  | .front => t.front | .rear => t.rear | .pack => t.pack | .cockpit => t.cockpit

/-- The ports with one replaced. -/
def Ports.set (t : Ports) (p : Port) (x : LinkPort) : Ports :=
  match p with
  | .front => { t with front := x }
  | .rear => { t with rear := x }
  | .pack => { t with pack := x }
  | .cockpit => { t with cockpit := x }

/-- A 16-bit counter increased by one, saturating (00_scope.md, Counters; 01 R11). -/
def bump (n : Nat) : Nat := if n < Config.counterMax then n + 1 else Config.counterMax

/-- A quantity increased by one, saturating at `top`. -/
def bumpTo (top n : Nat) : Nat := if n < top then n + 1 else top

end Sys2Proof.Machine
end

