-- ==== Sys2Proof/Machine/Bytes.lean ====
section
/-! DEFINITION. Byte order, signed quantities, the CRC and the frame on the line (01 R3, R12, 11 R189). -/

namespace Sys2Proof.Machine

open Sys2Proof

/-- The low byte of a number. -/
def byteOf (n : Nat) : Byte := BitVec.ofNat 8 n

/-- Two bytes, high byte first (11 R189). -/
def be16 (n : Nat) : List Byte := [byteOf (n / 256), byteOf n]

/-- Two bytes of a signed quantity, two's complement (11 R189). -/
def be16Signed (i : Int) : List Byte := be16 (i % 65536).toNat

/-- Four bytes of a time, high byte first (11 R189). -/
def be32 (t : Time) : List Byte :=
  [byteOf (t.toNat / 16777216), byteOf (t.toNat / 65536), byteOf (t.toNat / 256), byteOf t.toNat]

/-- The byte at an offset; 0 beyond the end, where no field of a checked payload lies. -/
def byteAt (l : List Byte) (i : Nat) : Byte := l.getD i 0#8

/-- The unsigned byte at an offset. -/
def u8At (l : List Byte) (i : Nat) : Nat := (byteAt l i).toNat

/-- The unsigned two-byte quantity at an offset (11 R189). -/
def u16At (l : List Byte) (i : Nat) : Nat := u8At l i * 256 + u8At l (i + 1)

/-- The signed two-byte quantity at an offset (11 R189). -/
def s16At (l : List Byte) (i : Nat) : Int :=
  if u16At l i < 32768 then (u16At l i : Int) else (u16At l i : Int) - 65536

/-- 1 for yes and 0 for no (11 R189). -/
def flagByte (b : Bool) : Byte := if b then 1#8 else 0#8

/-- A flag as the bit of weight `w` (11 R189). -/
def flagBit (w : Nat) (b : Bool) : Nat := if b then w else 0

/-- A raw temperature byte (11 R189). -/
def tempByte (t : Int) : Byte := byteOf (t + 40).toNat

/-! ## CRC (01 R3) -/

/-- The CRC register after one data bit (R3). -/
def crcBit (r : Half) (d : Bool) : Half :=
  if r.getLsbD 15 = d then r <<< 1 else (r <<< 1) ^^^ 0x8005#16

/-- The CRC register after one byte, most significant bit first (R3). -/
def crcByte (r : Half) (b : Byte) : Half :=
  [7, 6, 5, 4, 3, 2, 1, 0].foldl (fun x i => crcBit x (b.getLsbD i)) r

/-- The CRC of a run of bytes (R3). -/
def crc (l : List Byte) : Half := l.foldl crcByte 0xFFFF#16

/-- The CRC of a run of bytes as two bytes, high byte first (R3). -/
def crcBytes (l : List Byte) : List Byte := be16 (crc l).toNat

/-! ## Frames sent (01 R12) -/

/-- The body of a frame: KIND, SEQ, LEN, payload and CRC (01 section 1.3). -/
def frameBody (kind seq : Byte) (payload : List Byte) : List Byte :=
  let head := kind :: seq :: byteOf payload.length :: payload
  head ++ crcBytes head

/-- One body byte as sent (R12). -/
def escapeByte (b : Byte) : List Byte :=
  if b = Config.delimiter then [Config.escape, Config.escapedDelimiter]
  else if b = Config.escape then [Config.escape, Config.escapedEscape]
  else [b]

/-- A frame as sent: opening delimiter, escaped body, closing delimiter (R12). -/
def frameOnLine (kind seq : Byte) (payload : List Byte) : List Byte :=
  Config.delimiter :: (frameBody kind seq payload).flatMap escapeByte ++ [Config.delimiter]

end Sys2Proof.Machine
end

