-- ==== Sys2Proof/Machine/FaultTable.lean ====
section
/-! DEFINITION. The fault table (chapter 5): what a delivery, an ageing tick, a key cycle, a freeing, the
latch list and the sweep do to its slots. Every event answers the table after it, whether it is announced
to the containment controller (R78) and whether it requests a latch-list rewrite (R80). -/

namespace Sys2Proof.Machine

open Sys2Proof

/-- What one event at the fault table leaves (R78, R80). -/
structure TableOut where
  table    : FaultTable
  announce : Bool
  request  : Bool
  deriving DecidableEq, Repr

/-! ## Records -/

/-- A record is contained while ACTIVE, CLEARING or LATCHED (R63). -/
def FaultRecord.contained (r : FaultRecord) : Bool :=
  match r.state with
  | .active | .clearing | .latched => true
  | .pending | .dormant => false

/-- The policy in effect set from the row, for a record that is not escalated (R52, R66, R70). -/
def FaultRecord.withRowPolicy (row : Row) (r : FaultRecord) : FaultRecord :=
  if r.escalated then r else { r with policy := row.policy }

/-- Confirmation (R69): occurrence, first confirmed time, escalation, ACTIVE with run 0. -/
def FaultRecord.confirm (row : Row) (now : Time) (r : FaultRecord) : FaultRecord :=
  let occ := bumpTo 15 r.occurrences
  let esc := decide (0 < row.recur) && decide (row.recur ≤ occ)
  { r with
    occurrences := occ
    firstConfirmed := some (r.firstConfirmed.getD now)
    escalated := r.escalated || esc
    policy := if esc then .workshop else r.policy
    state := .active
    run := 0 }

/-- Whether a PENDING record meets its row's N_c, so that evidence confirms it (R68, R69, R52). -/
def FaultRecord.meetsConfirm (row : Row) (r : FaultRecord) : Bool := decide (row.confirm ≤ r.run)

/-- A PENDING record after its evidence: confirmed if its run has reached N_c (R68). -/
def FaultRecord.confirmIfMet (row : Row) (now : Time) (r : FaultRecord) : FaultRecord :=
  if r.meetsConfirm row then r.confirm row now else r

/-- The record as evidence finds and renews it, before a confirmation is tested (R66, R68). -/
def FaultRecord.renewed (row : Row) (now : Time) (v : Option EvidenceValue) (r : FaultRecord) :
    FaultRecord :=
  let r1 := { r.withRowPolicy row with
    lastEvidence := now
    value := if r.kind.carriesValue then v else none }
  match r.state with
  | .active => r1
  | .clearing | .latched => { r1 with state := .active, run := 0 }
  | .pending => { r1 with run := bumpTo 255 r.run, age := 0 }
  | .dormant => { r1 with state := .pending, run := 1, age := 0 }

/-- Whether evidence confirms an existing record (R68). -/
def FaultRecord.confirmedBy (row : Row) (now : Time) (v : Option EvidenceValue) (r : FaultRecord) : Bool :=
  match r.state with
  | .pending | .dormant => (r.renewed row now v).meetsConfirm row
  | .active | .clearing | .latched => false

/-- An existing record after evidence (R66, R68). -/
def FaultRecord.onEvidence (row : Row) (now : Time) (v : Option EvidenceValue) (r : FaultRecord) :
    FaultRecord :=
  if r.confirmedBy row now v then (r.renewed row now v).confirm row now else r.renewed row now v

/-- The record evidence makes, before a confirmation is tested (R67). -/
def FaultRecord.made (row : Row) (now : Time) (u : FaultUnit) (k : Kind) (v : Option EvidenceValue) :
    FaultRecord where
  unit := u
  kind := k
  state := .pending
  run := 1
  occurrences := 0
  policy := row.policy
  escalated := false
  firstConfirmed := none
  lastEvidence := now
  value := if k.carriesValue then v else none
  age := 0
  mark := false

/-- Entry into DORMANT; under a disabled row the record is freed instead (R71, R54). -/
def FaultRecord.enterDormant (row : Row) (r : FaultRecord) : Option FaultRecord :=
  if row.enabled then some { r with state := .dormant, run := 0, age := 0 } else none

/-- The record as a clean observation finds it: its policy set from the row unless it is LATCHED (R70, R52). -/
def FaultRecord.beforeClean (row : Row) (r : FaultRecord) : FaultRecord :=
  if r.state = .latched then r else r.withRowPolicy row

/-- A record after a clean observation, none when it is freed (R70). -/
def FaultRecord.onClean (row : Row) (r : FaultRecord) : Option FaultRecord :=
  let r1 := r.beforeClean row
  match r.state with
  | .pending => if 0 < r.occurrences then r1.enterDormant row else none
  | .active =>
    match r1.policy with
    | .auto =>
      if row.heal ≤ 1 then r1.enterDormant row else some { r1 with state := .clearing, run := 1 }
    | .key | .workshop => some { r1 with state := .latched, run := 0 }
  | .clearing =>
    match r1.policy with
    | .auto =>
      if row.heal ≤ bumpTo 255 r.run then r1.enterDormant row
      else some { r1 with run := bumpTo 255 r.run }
    | .key | .workshop => some { r1 with state := .latched, run := 0 }
  | .latched | .dormant => some r1

/-- A record after one RECORD_TICK, none when it is freed (R72). -/
def FaultRecord.onTick (c : Copy) (r : FaultRecord) : Option FaultRecord :=
  let age := bumpTo Config.counterMax r.age
  match r.state with
  | .dormant => if c.params.dormantWindow ≤ age then none else some { r with age := age }
  | .pending =>
    if c.params.dormantWindow ≤ age then
      if 0 < r.occurrences then r.enterDormant (c.rows.get r.kind) else none
    else some { r with age := age }
  | .active | .clearing | .latched => some r

/-- A record after a key cycle, none when it is freed (R73). -/
def FaultRecord.onKeyCycle (c : Copy) (r : FaultRecord) : Option FaultRecord :=
  if r.state = .latched ∧ r.policy = .key then r.enterDormant (c.rows.get r.kind) else some r

/-- A record after a change of the rows: a PENDING or DORMANT record of a kind that goes from enabled to
disabled is freed (R54, R59). -/
def FaultRecord.onRowChange (old new : Rows) (r : FaultRecord) : Option FaultRecord :=
  if (r.state = .pending ∨ r.state = .dormant) ∧ (old.get r.kind).enabled = true
      ∧ (new.get r.kind).enabled = false then none
  else some r

/-! ## The slots -/

/-- A slot holds the record of a pair (R63: unit and kind are the key). -/
def holdsPair (u : FaultUnit) (k : Kind) : Option FaultRecord → Bool
  | some r => r.unit == u && r.kind == k
  | none => false

/-- What the containment controller is told of: whether a slot's record is contained, and LATCHED (R78). -/
def slotView : Option FaultRecord → Bool × Bool
  | some r => (r.contained, r.state == .latched)
  | none => (false, false)

/-- The record of a pair, if the table holds one (R63). -/
def FaultTable.recordOf (t : FaultTable) (u : FaultUnit) (k : Kind) : Option FaultRecord :=
  (t.slots.find? (holdsPair u k)).join

/-- The records of the table in slot order. -/
def FaultTable.records (t : FaultTable) : List FaultRecord := t.slots.filterMap id

/-- The contained records in slot order: the containment set (R78). -/
def FaultTable.contained (t : FaultTable) : List FaultRecord := t.records.filter FaultRecord.contained

/-- The slot of a pair's record overwritten. -/
def FaultTable.put (t : FaultTable) (u : FaultUnit) (k : Kind) (r : FaultRecord) : FaultTable :=
  { t with slots := t.slots.map fun o => if holdsPair u k o then some r else o }

/-- Every record changed by `f`, none freeing it; a freed slot clears TABLE_FULL (R75). -/
def FaultTable.update (t : FaultTable) (f : FaultRecord → Option FaultRecord) : FaultTable :=
  { t with
    slots := t.slots.map fun o => o.bind f
    tableFull := t.tableFull && t.slots.all fun o => o.isNone || (o.bind f).isSome }

/-- Whether `f` frees a record whose policy in effect is WORKSHOP (R75, R80). -/
def FaultTable.freesWorkshop (t : FaultTable) (f : FaultRecord → Option FaultRecord) : Bool :=
  t.records.any fun r => r.policy == .workshop && (f r).isNone

/-- Whether an event from `t` to `t'` is announced (R78). -/
def announces (t t' : FaultTable) : Bool :=
  t.tableFull != t'.tableFull || t.slots.map slotView != t'.slots.map slotView

/-- An event that changes records by `f` and requests a rewrite for the WORKSHOP records it frees. -/
def FaultTable.updateEvent (t : FaultTable) (f : FaultRecord → Option FaultRecord) : TableOut :=
  ⟨t.update f, announces t (t.update f), t.freesWorkshop f⟩

/-- A confirmation while the sweep is RUNNING suspends it (R87). -/
def Sweep.onConfirmation (w : Sweep) : Sweep :=
  if w.state = .running then { w with state := .suspended } else w

/-- How long ago a record's last evidence was, modulo 2^32 (R63). -/
def FaultRecord.evidenceAge (now : Time) (r : FaultRecord) : Nat := (now - r.lastEvidence).toNat

/-- How long ago a record was first confirmed, modulo 2^32 (R63). -/
def FaultRecord.confirmedAge (now : Time) (r : FaultRecord) : Nat :=
  (now - r.firstConfirmed.getD now).toNat

/-- The slot, with its distance, of the oldest last evidence among records that satisfy `p`, ties to the
lowest slot (R76): `best` is the choice among the slots before slot `i`. -/
def oldestFrom (now : Time) (p : FaultRecord → Bool) :
    List (Option FaultRecord) → Nat → Option (Nat × Nat) → Option (Nat × Nat)
  | [], _, best => best
  | none :: rest, i, best => oldestFrom now p rest (i + 1) best
  | some r :: rest, i, best =>
    let d := r.evidenceAge now
    let better :=
      match best with
      | some (_, d') => decide (d' < d)
      | none => true
    oldestFrom now p rest (i + 1) (if p r && better then some (i, d) else best)

/-- The slot whose record is evicted for a new one: the oldest DORMANT record, else the oldest PENDING
record with occurrences 0, else none (R76). -/
def FaultTable.evictSlot (t : FaultTable) (now : Time) : Option Nat :=
  match oldestFrom now (fun r => r.state == .dormant) t.slots 0 none with
  | some (i, _) => some i
  | none =>
    (oldestFrom now (fun r => r.state == .pending && r.occurrences == 0) t.slots 0 none).map (·.1)

/-- The lowest-numbered empty slot (R67). -/
def FaultTable.emptySlot (t : FaultTable) : Option Nat := t.slots.findIdx? Option.isNone

/-- The record in a slot. -/
def FaultTable.slot (t : FaultTable) (i : Nat) : Option FaultRecord := (t.slots[i]?).join

/-- The table with a record placed in a slot; if the slot held one, that one is freed, which clears
TABLE_FULL (R75, R76). -/
def FaultTable.place (t : FaultTable) (i : Nat) (r : FaultRecord) : FaultTable :=
  { t with
    slots := t.slots.set i (some r)
    tableFull := t.tableFull && (t.slot i).isNone }

/-- Whether the record evicted from a slot had the policy WORKSHOP (R75). -/
def FaultTable.evictsWorkshop (t : FaultTable) (i : Nat) : Bool :=
  match t.slot i with
  | some r => r.policy == .workshop
  | none => false

/-- The slot a new record takes: the lowest empty one, else the one freed by an eviction (R67, R76). -/
def FaultTable.slotForNew (t : FaultTable) (now : Time) : Option Nat :=
  match t.emptySlot with
  | some i => some i
  | none => t.evictSlot now

/-- Evidence or a latch-list entry that finds no slot is lost (R77). -/
def FaultTable.lose (t : FaultTable) : FaultTable := { t with tableFull := true, lost := bump t.lost }

/-- Whether the policy in effect changes to or from WORKSHOP (R52, R80). -/
def crossesWorkshop (old new : Policy) : Bool := (old == .workshop) != (new == .workshop)

/-! ## Deliveries (R66 to R71) -/

/-- Evidence for a pair that holds a record, under an enabled row (R66, R68, R69). -/
def FaultTable.evidenceFor (t : FaultTable) (row : Row) (now : Time) (v : Option EvidenceValue)
    (r : FaultRecord) : TableOut :=
  let r' := r.onEvidence row now v
  let confirmed := r.confirmedBy row now v
  let t1 := t.put r.unit r.kind r'
  let t2 := if confirmed then { t1 with sweep := t1.sweep.onConfirmation } else t1
  ⟨t2, announces t t2, crossesWorkshop r.policy r'.policy || (confirmed && r'.policy == .workshop)⟩

/-- Evidence for a pair without a record, under an enabled row (R67, R69, R76, R77). -/
def FaultTable.evidenceNew (t : FaultTable) (row : Row) (now : Time) (u : FaultUnit) (k : Kind)
    (v : Option EvidenceValue) : TableOut :=
  let r := FaultRecord.made row now u k v
  let confirmed := r.meetsConfirm row
  let r' := r.confirmIfMet row now
  match t.slotForNew now with
  | some i =>
    let t1 := t.place i r'
    let t2 := if confirmed then { t1 with sweep := t1.sweep.onConfirmation } else t1
    ⟨t2, announces t t2, t.evictsWorkshop i || (confirmed && r'.policy == .workshop)⟩
  | none => ⟨t.lose, announces t t.lose, false⟩

/-- Evidence reaching the fault table (R66, R54). -/
def FaultTable.evidence (t : FaultTable) (c : Copy) (now : Time) (u : FaultUnit) (k : Kind)
    (v : Option EvidenceValue) : TableOut :=
  if (c.rows.get k).enabled then
    match t.recordOf u k with
    | some r => t.evidenceFor (c.rows.get k) now v r
    | none => t.evidenceNew (c.rows.get k) now u k v
  else ⟨t, false, false⟩

/-- A clean observation reaching the fault table (R70). -/
def FaultTable.clean (t : FaultTable) (c : Copy) (u : FaultUnit) (k : Kind) : TableOut :=
  match t.recordOf u k with
  | none => ⟨t, false, false⟩
  | some r =>
    let row := c.rows.get k
    let t' := t.update fun q => if holdsPair u k (some q) then q.onClean row else some q
    ⟨t', announces t t',
      crossesWorkshop r.policy (r.beforeClean row).policy
        || ((r.beforeClean row).policy == .workshop && (r.onClean row).isNone)⟩

/-- One delivery (R45, R66, R70). -/
def FaultTable.deliver (t : FaultTable) (c : Copy) (now : Time) : Delivery → TableOut
  | .evidence u k v => t.evidence c now u k v
  | .clean u k => t.clean c u k

/-! ## Ageing, key cycle, disabled rows, freeing (R72 to R75, R54) -/

/-- A RECORD_TICK expiry (R72). -/
def FaultTable.tick (t : FaultTable) (c : Copy) : TableOut := t.updateEvent (FaultRecord.onTick c)

/-- A key cycle (R73). -/
def FaultTable.keyCycle (t : FaultTable) (c : Copy) : TableOut := t.updateEvent (FaultRecord.onKeyCycle c)

/-- The freeing of the PENDING and DORMANT records of rows that become disabled (R54, R59). -/
def FaultTable.rowChange (t : FaultTable) (old new : Rows) : TableOut :=
  t.updateEvent (FaultRecord.onRowChange old new)

/-- The freeing of the record in a slot (R75). -/
def FaultTable.free (t : FaultTable) (i : Nat) : TableOut :=
  let t' := { t with
    slots := t.slots.set i none
    tableFull := t.tableFull && (t.slot i).isNone }
  ⟨t', announces t t', t.evictsWorkshop i⟩

/-! ## The latch list and the suspect view (R65, R79, R81) -/

/-- The record a latch-list entry makes (R65). -/
def LatchEntry.record (now : Time) (e : LatchEntry) : FaultRecord where
  unit := e.unit
  kind := e.kind
  state := .latched
  run := 0
  occurrences := e.occurrences
  policy := .workshop
  escalated := true
  firstConfirmed := some now
  lastEvidence := now
  value := none
  age := 0
  mark := false

/-- An existing record that a latch-list entry names (R65). -/
def FaultRecord.restored (now : Time) (e : LatchEntry) (r : FaultRecord) : FaultRecord :=
  { r with
    state := .latched
    policy := .workshop
    escalated := true
    run := 0
    age := 0
    occurrences := max r.occurrences e.occurrences
    firstConfirmed := some (r.firstConfirmed.getD now) }

/-- The table after one entry of the latch list (R65). -/
def FaultTable.restoreEntry (now : Time) (t : FaultTable) (e : LatchEntry) : FaultTable :=
  match t.recordOf e.unit e.kind with
  | some r => t.put e.unit e.kind (r.restored now e)
  | none =>
    match t.slotForNew now with
    | some i => t.place i (e.record now)
    | none => t.lose

/-- The bringing back of the latch list, one event in list order; it requests no rewrite (R65, R80; log 19). -/
def FaultTable.restore (t : FaultTable) (now : Time) (es : List LatchEntry) : TableOut :=
  let t' := es.foldl (FaultTable.restoreEntry now) t
  ⟨t', !es.isEmpty || announces t t', false⟩

/-- Insertion by distance, greatest first, after equals (R81: oldest first, ties to the lower slot). -/
def insertOldest (x : Nat × LatchEntry) : List (Nat × LatchEntry) → List (Nat × LatchEntry)
  | [] => [x]
  | y :: ys => if y.1 < x.1 then x :: y :: ys else y :: insertOldest x ys

/-- The records a snapshot selects (R81). -/
def FaultTable.workshopContained (t : FaultTable) : List FaultRecord :=
  t.contained.filter fun r => r.policy == .workshop

/-- The snapshot a LATCH_WRITE takes: contained WORKSHOP records, oldest first confirmed time first, cut
to eight (R81). -/
def FaultTable.snapshot (t : FaultTable) (now : Time) : List LatchEntry :=
  let keyed := t.workshopContained.map fun r =>
    (r.confirmedAge now, (⟨r.unit, r.kind, r.occurrences⟩ : LatchEntry))
  ((keyed.foldl (fun l x => insertOldest x l) []).take Config.latchPlaces).map (·.2)

/-- The suspect view of a motor unit (R79). -/
def FaultTable.suspect (t : FaultTable) (u : FaultUnit) : Bool :=
  t.records.any fun r => r.unit == u && r.kind != .curBalance && r.state != .dormant

/-! ## The sweep (R83 to R88) -/

/-- The power-on sweep state (R83). -/
def Sweep.initial : Sweep := ⟨.idle, none, none, .all, 0, 0, 0, .absent⟩

/-- The power-on fault table (R64). -/
def FaultTable.initial : FaultTable := ⟨List.replicate Config.slotCount none, false, 0, Sweep.initial⟩

/-- A record matches the filters of a sweep (R84). -/
def Sweep.matchesRecord (w : Sweep) (r : FaultRecord) : Bool :=
  (match w.unitFilter with
    | none => true
    | some u => r.unit == u) &&
  (match w.kindFilter with
    | none => true
    | some k => r.kind == k)

/-- Every record given a sweep mark. -/
def FaultTable.markAll (t : FaultTable) (m : Bool) : FaultTable :=
  { t with slots := t.slots.map (Option.map fun r => { r with mark := m }) }

/-- The start of a sweep (R84). -/
def FaultTable.sweepStart (t : FaultTable) (uf : Option FaultUnit) (kf : Option Kind) (mode : SweepMode)
    (start count : Nat) : FaultTable :=
  { t.markAll true with
    sweep := { t.sweep with
      state := .running, unitFilter := uf, kindFilter := kf, mode := mode, cursor := start,
      remaining := count, cleared := 0 } }

/-- The end of a sweep with an outcome (R86). -/
def FaultTable.endSweep (t : FaultTable) (o : SweepOutcome) : FaultTable :=
  { t.markAll false with sweep := { t.sweep with state := .idle, outcome := o } }

/-- The abandonment of a sweep at a leave; an IDLE sweep is left as it is (R86, 09 R171). -/
def FaultTable.abandonSweep (t : FaultTable) : FaultTable :=
  if t.sweep.state = .idle then t else t.endSweep .abandoned

/-- What an examination makes of a slot (R85). -/
inductive Examination where
  | frees | passes | live
  deriving DecidableEq, Repr

/-- How an examination finds a slot (R85). -/
def Sweep.examines (w : Sweep) : Option FaultRecord → Examination
  | none => .passes
  | some r =>
    if r.mark && w.matchesRecord r then
      match r.state with
      | .latched | .dormant => .frees
      | .pending | .active | .clearing =>
        match w.mode with
        | .all => .passes
        | .stopAtLive => .live
    else .passes

/-- The end tests after an examination that freed or passed (R85, R86): the counts moved, and the sweep
ended if the count or the table is at its end. -/
def FaultTable.advance (t : FaultTable) : FaultTable :=
  let t1 := { t with sweep := { t.sweep with
    remaining := t.sweep.remaining - 1, cursor := t.sweep.cursor + 1 } }
  if t1.sweep.remaining = 0 then t1.endSweep .countDone
  else if Config.slotCount ≤ t1.sweep.cursor then t1.endSweep .endOfTable
  else t1

/-- One examination of a RUNNING sweep (R85, R86). -/
def FaultTable.examine (t : FaultTable) : TableOut :=
  match t.sweep.examines (t.slot t.sweep.cursor) with
  | .live => ⟨t.endSweep .hitLive, false, false⟩
  | .passes => ⟨t.advance, false, false⟩
  | .frees =>
    let out := t.free t.sweep.cursor
    let t1 := { out.table with sweep := { out.table.sweep with cleared := out.table.sweep.cleared + 1 } }
    ⟨t1.advance, out.announce, out.request⟩

/-! ## Readings (R82, 07 R127) -/

/-- The records in slots `i` and up, with their slots. -/
def slotsFrom : List (Option FaultRecord) → Nat → List (Nat × FaultRecord)
  | [], _ => []
  | none :: rest, i => slotsFrom rest (i + 1)
  | some r :: rest, i => (i, r) :: slotsFrom rest (i + 1)

/-- The first four records at or above a start slot, with their slots (09 R155). -/
def FaultTable.recordsFrom (t : FaultTable) (start : Nat) : List (Nat × FaultRecord) :=
  (slotsFrom (t.slots.drop start) start).take Config.recordsPerReply

/-- The next slot to ask after a QUERY_RECORDS reply (09 R155). -/
def nextSlot (found : List (Nat × FaultRecord)) : Nat :=
  match found[Config.recordsPerReply - 1]? with
  | some (i, _) => i + 1
  | none => Config.slotCount

/-- Whether the table holds a LATCHED record (07 R126). -/
def FaultTable.anyLatched (t : FaultTable) : Bool := t.records.any fun r => r.state == .latched

/-- The better of the lead record so far and the next contained record in slot order (07 R127): the most
restrictive floor, then the earliest first confirmed time, then the lowest slot. -/
def betterLead (c : Copy) (now : Time) : Option FaultRecord → FaultRecord → Option FaultRecord
  | none, r => some r
  | some b, r =>
    let fb := (c.rows.get b.kind).floor.rank
    let fr := (c.rows.get r.kind).floor.rank
    if fb < fr ∨ (fb = fr ∧ b.confirmedAge now < r.confirmedAge now) then some r else some b

/-- The lead record of COCKPIT_STATUS (07 R127). -/
def FaultTable.lead (t : FaultTable) (c : Copy) (now : Time) : Option FaultRecord :=
  t.contained.foldl (betterLead c now) none

end Sys2Proof.Machine
end

