-- ==== Sys2Proof/Machine/State.lean ====
section
/-! DEFINITION. The state of the OBR24 and its value right after power-on or RESET_N. -/

namespace Sys2Proof.Machine

open Sys2Proof

/-- The reasons a step could stop the block with a fault. The manual names none: every failure it
describes is a state of the block (log 29), so this type has no constructor. Safe: no step stops. -/
inductive Fault where
  deriving DecidableEq, Repr

/-- The reasons a step could refuse a command. -/
inductive Refusal where
  /-- Raised by `exec` alone, for a command without a meaning; no arm raises it. Safe: the step stops. -/
  | notModelled (mnemonic : String)
  deriving DecidableEq, Repr

/-- The content of the external memory (10 R176): (address, byte) pairs in the form `Memory.wf` of
Machine/Ops.lean states; an unlisted address reads as `Config.erased` (log 8). -/
abbrev Memory := List Host.Cell

/-- Everything the manual gives the OBR24, its external memory, what its blocks owe each other (`owed`,
log 3) and the queue of commands that wait (`pending`, log 1). -/
structure State where
  now        : Time
  ports      : Ports
  replies    : List Reply
  obs        : Observations
  switches   : Switches
  timers     : Timers
  working    : Copy
  committed  : Copy
  unsaved    : Bool
  table      : FaultTable
  monitor    : Monitor
  control    : Control
  envelope   : Envelope
  deferred   : Option Deferred
  store      : Store
  memory     : Memory
  memoryBusy : Nat
  owed       : List Owed
  pending    : List Instr
  deriving DecidableEq, Repr

/-- A port at power-on (01 R16; `inBreak` log 14, `txLine` log 12). -/
def LinkPort.initial : LinkPort where
  framer := .hunt
  body := []
  inBreak := false
  link := .down
  seqRef := none
  joinRun := 0
  counters := ⟨0, 0, 0, 0, 0, 0, 0, 0, 0⟩
  grant := none
  txSeq := 0#8
  txLine := []

/-- A motor record at power-on (02 R18). -/
def MotorRecord.initial : MotorRecord where
  dcCurrent := 0
  phaseCurrent := 0
  speed := 0
  motorTemp := 25
  inverterTemp := 25
  busVoltage := 0
  cDrive := 0
  cRegen := 0
  gate := .blocked
  claims := []
  fresh := false
  arrival := 0#32

/-- The pack record at power-on (02 R18). -/
def PackRecord.initial : PackRecord where
  voltage := 0
  current := 0
  iDis := 0
  iChg := 0
  soc := 0
  minCell := 0
  maxCellTemp := 25
  contactor := .opened
  claims := []
  fresh := false
  arrival := 0#32

/-- The cockpit record at power-on (02 R18). -/
def CockpitRecord.initial : CockpitRecord where
  demand := 0
  brake := 0
  profile := .eco
  claims := []
  fresh := false
  arrival := 0#32

/-- A channel at power-on (03 R34). -/
def Channel.initial : Channel := ⟨.stopped, 0, 0⟩

/-- A freshness channel once its port has armed it at power-on (03 R34, 01 R16). -/
def Channel.initialArmed : Channel := ⟨.armed, 0, 0⟩

/-- The target and applied state at power-on (07 R102). -/
def Drive.initial : Drive := ⟨.halt, 100, false, false, false, false⟩

/-- The containment controller at power-on (07 R102). -/
def Control.initial : Control where
  chip := .loading
  awake := false
  gatherDone := false
  target := Drive.initial
  applied := Drive.initial
  ramp := false
  overrides := []
  permitFront := false
  permitRear := false
  packOpen := false
  warn := true

/-- Stage values of 0. -/
def Split.zero : Split := ⟨0, 0, 0, 0, 0, 0, 0, 0, 0, 0, 0⟩

/-- The last-computation record at power-on: every value 0, the valid flag no (08 R128, R151). -/
def LastComputation.initial : LastComputation where
  chip := .loading
  profile := .eco
  level := .full
  isoFront := false
  isoRear := false
  p := 0
  vCeil := 0
  kFront := 0
  kRear := 0
  drive := Split.zero
  regen := Split.zero
  d := 0
  b := 0
  v := 0
  cmdFront := 0
  cmdRear := 0
  regFront := 0
  regRear := 0
  valid := false

/-- The configuration store controller at power-on (10 R177): a LOAD begun at once. -/
def Store.initial : Store where
  op := .loadImage
  latchPending := false
  savePending := false
  reloadPending := false
  busy := false
  imageBuffer := []
  latchBuffer := []
  replaced := false
  refused := false

/-- The machine right after power-on with a memory that nothing has written and an empty queue. -/
def State.reset : State where
  now := 0#32
  ports := ⟨LinkPort.initial, LinkPort.initial, LinkPort.initial, LinkPort.initial⟩
  replies := []
  obs := ⟨MotorRecord.initial, MotorRecord.initial, PackRecord.initial, CockpitRecord.initial⟩
  switches := ⟨⟨false, 0⟩, ⟨false, 0⟩, ⟨false, 0⟩⟩
  timers :=
    ⟨Channel.initialArmed, Channel.initialArmed, Channel.initialArmed, Channel.initialArmed,
     Channel.initial, Channel.initial, Channel.initial, Channel.initial, Channel.initial,
     Channel.initial, Channel.initial⟩
  working := Copy.builtin
  committed := Copy.builtin
  unsaved := false
  table := FaultTable.initial
  monitor := ⟨false, false, false, false⟩
  control := Control.initial
  envelope := ⟨0, 0, 0, 0, LastComputation.initial⟩
  deferred := none
  store := Store.initial
  memory := []
  memoryBusy := 0
  owed := []
  pending := []

end Sys2Proof.Machine
end

