-- ==== Sys2Proof/Machine/Ops.lean ====
section
/-! DEFINITION. The named operations over the state: the external memory, the timer bank, what the blocks
owe each other, deliveries to the fault table, the ports' counters and the cockpit reply FIFO. -/

namespace Sys2Proof.Machine

open Sys2Proof

/-! ## External memory (10 R176) -/

/-- One byte of the external memory. -/
def Memory.read : Memory → Nat → Byte
  | [], _ => Config.erased
  | (x, b) :: rest, a => if a = x then b else Memory.read rest a

/-- A cell listed in front of a memory, unless it holds what an unlisted byte reads as. -/
def Memory.cons (a : Nat) (v : Byte) (rest : Memory) : Memory :=
  if v = Config.erased then rest else (a, v) :: rest

/-- One byte written, in canonical form. -/
def Memory.write : Memory → Nat → Byte → Memory
  | [], a, v => Memory.cons a v []
  | (x, b) :: rest, a, v =>
    if a < x then Memory.cons a v ((x, b) :: rest)
    else if a = x then Memory.cons a v rest
    else (x, b) :: Memory.write rest a v

/-- Consecutive bytes written from an address up (a page write, R176). -/
def Memory.writeAll : Memory → Nat → List Byte → Memory
  | m, _, [] => m
  | m, a, b :: bs => Memory.writeAll (Memory.write m a b) (a + 1) bs

/-- `n` consecutive bytes from an address up (a sequential read, R176). -/
def Memory.readAll (m : Memory) : Nat → Nat → List Byte
  | _, 0 => []
  | a, n + 1 => Memory.read m a :: Memory.readAll m (a + 1) n

/-- Canonical form above a bound: addresses strictly rising from at least `low`, below 2048, no byte equal
to what an unlisted one reads as. -/
def Memory.wfFrom : Nat → Memory → Bool
  | _, [] => true
  | low, (x, b) :: rest =>
    decide (low ≤ x) && decide (x < Config.memorySize) && (b != Config.erased) && Memory.wfFrom (x + 1) rest

/-- Canonical form of the external memory. -/
def Memory.wf (m : Memory) : Bool := Memory.wfFrom 0 m

/-- The byte a read returns at an address of which a list may say otherwise (log 9). -/
def returnedByte (m : Memory) (a : Nat) : List Host.Cell → Byte
  | [] => m.read a
  | (x, b) :: rest => if a = x then b else returnedByte m a rest

/-- The bytes of a sequential read of `n` bytes from an address: what the memory holds, but for the
alterations of the transaction (10 R176; log 9). -/
def returnedBytes (m : Memory) (altered : List Host.Cell) : Nat → Nat → List Byte
  | _, 0 => []
  | a, n + 1 => returnedByte m a altered :: returnedBytes m altered (a + 1) n

/-! ## What the blocks owe each other (log 3) -/

/-- Events owed after those owed already. -/
def State.owe (s : State) (es : List Owed) : State := { s with owed := s.owed ++ es }

/-- Whether an event that satisfies `f` is owed. -/
def State.owes (s : State) (f : Owed → Bool) : Bool := s.owed.any f

/-- The state once the first owed event that satisfies `f` is taken. -/
def State.took (s : State) (f : Owed → Bool) : State := { s with owed := s.owed.eraseP f }

/-- The owed arrival notices of a unit. -/
def Owed.isArrival (u : Reporter) : Owed → Bool
  | .arrival u' _ => u' == u
  | _ => false

/-- The owed expiries of a channel. -/
def Owed.isExpiry (c : Chan) : Owed → Bool
  | .expiry c' _ => c' == c
  | _ => false

/-- The owed gather batch reports. -/
def Owed.isGatherBatch : Owed → Bool
  | .gatherBatch _ => true
  | _ => false

/-- The owed end reports of the store. -/
def Owed.isStoreEnd : Owed → Bool
  | .storeEnd _ => true
  | _ => false

/-- An expiry of a channel is put out of force (03 R41). -/
def Owed.voided (c : Chan) : Owed → Owed
  | .expiry c' f => .expiry c' (f && c' != c)
  | e => e

/-- Gather batch reports belong to an earlier gather from now on (07 R108). -/
def Owed.gatherOver : Owed → Owed
  | .gatherBatch _ => .gatherBatch false
  | e => e

/-! ## Timers (03) -/

/-- ARM (R37). -/
def Channel.arm (x : Channel) : Channel := { x with state := .armed, phase := 0 }

/-- START, and RESTART, which has the same effect (R38, R39). -/
def Channel.start (v : Nat) (_ : Channel) : Channel := ⟨.running, v, 0⟩

/-- STOP (R40). -/
def Channel.stop (x : Channel) : Channel := { x with state := .stopped, phase := 0 }

/-- A channel after its expiry (R36). -/
def Channel.expired (w : Params) (c : Chan) : Channel :=
  match c.mode with
  | .oneShot => ⟨.stopped, 0, 0⟩
  | .reload => ⟨.running, c.reloadValue w, 0⟩

/-- The tick phase has completed a tick at this step (R35). -/
def Channel.ticks (c : Chan) (x : Channel) : Bool := decide (c.tick ≤ x.phase + 1)

/-- A RUNNING channel expires at this step: its count reaches 0 (R35, R36). -/
def Channel.expires (c : Chan) (x : Channel) : Bool :=
  x.state == .running && x.ticks c && decide (x.count ≤ 1)

/-- A channel after one step of the time base (R35, R36). -/
def Channel.step (w : Params) (c : Chan) (x : Channel) : Channel :=
  if x.state = .running then
    if x.expires c then Channel.expired w c
    else if x.ticks c then { x with count := x.count - 1, phase := 0 }
    else { x with phase := x.phase + 1 }
  else x

/-- The bank after one step of the time base (R35). -/
def Timers.step (w : Params) (t : Timers) : Timers where
  freshFront := t.freshFront.step w .freshFront
  freshRear := t.freshRear.step w .freshRear
  freshPack := t.freshPack.step w .freshPack
  freshCkpt := t.freshCkpt.step w .freshCkpt
  envelope := t.envelope.step w .envelope
  check := t.check.step w .check
  haltRamp := t.haltRamp.step w .haltRamp
  recordTick := t.recordTick.step w .recordTick
  gather := t.gather.step w .gather
  serviceIdle := t.serviceIdle.step w .serviceIdle
  storeWait := t.storeWait.step w .storeWait

/-- The expiries that one step of the time base delivers, in channel order (R36). -/
def Timers.expiries (t : Timers) : List Owed :=
  (Chan.all.filter fun c => (t.get c).expires c).map fun c => .expiry c true

/-- An owner's operation on its channel: it takes effect, and expiries of the channel that the owner has
not taken yet lose their force (R41). -/
def State.operate (s : State) (c : Chan) (f : Channel → Channel) : State :=
  { s with timers := s.timers.set c (f (s.timers.get c)), owed := s.owed.map (Owed.voided c) }

/-- ARM issued to a channel (R37). -/
def State.arm (s : State) (c : Chan) : State := s.operate c Channel.arm

/-- START or RESTART issued to a channel: the count is loaded from the working copy (R38, R39, R42). -/
def State.start (s : State) (c : Chan) : State :=
  s.operate c (Channel.start (c.reloadValue s.working.params))

/-- STOP issued to a channel (R40). -/
def State.stop (s : State) (c : Chan) : State := s.operate c Channel.stop

/-- Whether an expiry command of a channel has an expiry in force to take: the oldest expiry owed decides;
with none owed, a RUNNING channel runs out now (R36, R41; log 4). -/
def State.expiryInForce (s : State) (c : Chan) : Bool :=
  match s.owed.find? (Owed.isExpiry c) with
  | some e => e == .expiry c true
  | none => (s.timers.get c).state == .running

/-- The state once an expiry command of a channel has taken the oldest expiry owed; with none owed, a
RUNNING channel has run out and moved as R36 gives (log 4). -/
def State.afterExpiry (s : State) (c : Chan) : State :=
  { s with
    timers :=
      if s.owes (Owed.isExpiry c) then s.timers
      else if (s.timers.get c).state = .running then
        s.timers.set c (Channel.expired s.working.params c)
      else s.timers
    owed := s.owed.eraseP (Owed.isExpiry c) }

/-! ## Deliveries to the fault table (05) -/

/-- What a fault table event owes its neighbours (R78, R80). -/
def TableOut.owes (o : TableOut) : List Owed :=
  (if o.announce then [.announcement] else []) ++ (if o.request then [.latchRequest] else [])

/-- A fault table event taken: the table after it, its announcement and its request owed. -/
def State.tableEvent (s : State) (o : TableOut) : State :=
  { s with table := o.table, owed := s.owed ++ o.owes }

/-- One delivery to the fault table (R66, R70). -/
def State.deliver (s : State) (d : Delivery) : State :=
  s.tableEvent (s.table.deliver s.working s.now d)

/-- Deliveries taken one after another (log 6). -/
def State.deliverAll (s : State) (ds : List Delivery) : State := ds.foldl State.deliver s

/-! ## Ports and the cockpit reply FIFO (01) -/

/-- The port of a link. -/
def State.port (s : State) (p : Port) : LinkPort := s.ports.get p

/-- A port changed. -/
def State.updPort (s : State) (p : Port) (f : LinkPort → LinkPort) : State :=
  { s with ports := s.ports.set p (f (s.ports.get p)) }

/-- One counter of a port changed. -/
def LinkPort.count (f : Counters → Counters) (x : LinkPort) : LinkPort :=
  { x with counters := f x.counters }

/-- The replies-dropped counter increased by a number, saturating (R11). -/
def LinkPort.dropReplies (n : Nat) (x : LinkPort) : LinkPort :=
  { x with counters := { x.counters with dropped := min Config.counterMax (x.counters.dropped + n) } }

/-- Whether a reply placed now is dropped: the FIFO holds four, or the cockpit link is DOWN (R15). -/
def State.replyDropped (s : State) : Bool :=
  decide (Config.fifoPlaces ≤ s.replies.length) || s.ports.cockpit.link == .down

/-- A reply placed in the cockpit reply FIFO, or dropped and counted (R15). -/
def State.placeReply (s : State) (r : Reply) : State :=
  { s with
    replies := if s.replyDropped then s.replies else s.replies ++ [r]
    ports :=
      if s.replyDropped then s.ports.set .cockpit (s.ports.cockpit.dropReplies 1) else s.ports }

/-! ## Readings of the observation records and of the drive -/

/-- The record of a motor. -/
def Observations.motor (o : Observations) : Motor → MotorRecord
  | .front => o.front
  | .rear => o.rear

/-- The records with that of a motor replaced. -/
def Observations.setMotor (o : Observations) (m : Motor) (x : MotorRecord) : Observations :=
  match m with
  | .front => { o with front := x }
  | .rear => { o with rear := x }

/-- A motor record as given to readers (02 R27). -/
def MotorRecord.view (r : MotorRecord) : MotorRecord :=
  if r.fresh then r else { r with cDrive := 0, cRegen := 0 }

/-- The cockpit record as given to readers (02 R27). -/
def CockpitRecord.view (r : CockpitRecord) : CockpitRecord :=
  if r.fresh then r else { r with demand := 0, brake := 0 }

/-- The record of a port's unit becomes stale (02 R26). -/
def Observations.stale (o : Observations) : Port → Observations
  | .front => { o with front := { o.front with fresh := false } }
  | .rear => { o with rear := { o.rear with fresh := false } }
  | .pack => { o with pack := { o.pack with fresh := false } }
  | .cockpit => { o with cockpit := { o.cockpit with fresh := false } }

/-- Whether a motor is in the isolated set of a target or applied state. -/
def Drive.isolated (d : Drive) : Motor → Bool
  | .front => d.isoFront
  | .rear => d.isoRear

end Sys2Proof.Machine
end

