-- ==== Sys2Proof/Machine/Operands.lean ====
section
/-! DEFINITION. The operand forms of chapter 11: rows (R196, R197), command arguments (R192), reports (R191),
the image (R196) and the latch list (R198, R199), decoded and encoded. -/

namespace Sys2Proof.Machine

open Sys2Proof

/-! ## Rows (R196, R197) -/

/-- The six bytes of a row (R196), in order. -/
def rowBytesList (b : RowBytes) : List Byte := [b.flags, b.confirm, b.heal, b.recur, b.floor, b.derate]

/-- A row as six bytes (R196). -/
def Row.encode (r : Row) : RowBytes where
  flags := byteOf (flagBit 1 r.enabled + flagBit 2 r.isolate + flagBit 4 r.regenInhibit
    + flagBit 8 r.packOpen + 16 * r.policy.code)
  confirm := byteOf r.confirm
  heal := byteOf r.heal
  recur := byteOf r.recur
  floor := byteOf r.floor.rank
  derate := byteOf r.derate

/-- The row that six bytes spell, none when a code names no value (R197). -/
def Row.ofBytes (b : RowBytes) : Option Row :=
  match Policy.ofCode (b.flags.toNat / 16), Level.ofCode b.floor.toNat with
  | some pol, some floor =>
    some {
      enabled := b.flags.getLsbD 0
      isolate := b.flags.getLsbD 1
      regenInhibit := b.flags.getLsbD 2
      packOpen := b.flags.getLsbD 3
      policy := pol
      confirm := b.confirm.toNat
      heal := b.heal.toNat
      recur := b.recur.toNat
      floor := floor
      derate := b.derate.toNat }
  | _, _ => none

/-- The row that six bytes hold, none when a field fails its range test (R197, R49). -/
def Row.decode (b : RowBytes) : Option Row := (Row.ofBytes b).filter Row.inRange

/-- The six bytes at an offset, as a row's. -/
def rowBytesAt (l : List Byte) (i : Nat) : RowBytes :=
  ⟨byteAt l i, byteAt l (i + 1), byteAt l (i + 2), byteAt l (i + 3), byteAt l (i + 4), byteAt l (i + 5)⟩

/-! ## Command arguments (R192) -/

/-- A boolean argument: 0 or 1 (R192). -/
def boolArg (b : Byte) : Option Bool :=
  if b = 0#8 then some false else if b = 1#8 then some true else none

/-- A unit filter of SWEEP_START: a unit code, or 255 for any (R192). -/
def unitFilterArg (b : Byte) : Option (Option FaultUnit) :=
  if b = 255#8 then some none else (FaultUnit.ofCode b.toNat).map some

/-- A kind filter of SWEEP_START: a kind code, or 255 for any (R192). -/
def kindFilterArg (b : Byte) : Option (Option Kind) :=
  if b = 255#8 then some none else (Kind.ofCode b.toNat).map some

/-- The LEN of a command by its code, none for a code that names no command (R192). -/
def commandLength (code : Byte) : Option Nat :=
  match code.toNat with
  | 0x01 | 0x02 | 0x03 | 0x04 => some 2
  | 0x05 | 0x10 => some 1
  | 0x11 => some 8
  | 0x12 => some 4
  | 0x13 | 0x14 => some 1
  | 0x15 => some 2
  | 0x16 => some 6
  | 0x17 | 0x18 => some 1
  | 0x19 => some 5
  | 0x1A | 0x1B => some 1
  | _ => none

/-- The command a COMMAND payload spells (R192): the code and its arguments. -/
def commandOf (seq : Byte) (l : List Byte) : Instr :=
  match (byteAt l 0).toNat with
  | 0x01 => .queryRecords seq (byteAt l 1)
  | 0x02 => .queryLink seq (byteAt l 1)
  | 0x03 => .queryRow seq (byteAt l 1)
  | 0x04 => .queryParam seq (byteAt l 1)
  | 0x05 => .queryEnvelope seq
  | 0x10 => .serviceEnter seq
  | 0x11 => .rowWrite seq (byteAt l 1) (rowBytesAt l 2)
  | 0x12 => .paramWrite seq (byteAt l 1) (BitVec.ofNat 16 (u16At l 2))
  | 0x13 => .storeSave seq
  | 0x14 => .storeReload seq
  | 0x15 => .recordClear seq (byteAt l 1)
  | 0x16 => .sweepStart seq (byteAt l 1) (byteAt l 2) (byteAt l 3) (byteAt l 4) (byteAt l 5)
  | 0x17 => .sweepResume seq
  | 0x18 => .sweepCancel seq
  | 0x19 => .overridePush seq (byteAt l 1) (byteAt l 2) (byteAt l 3) (byteAt l 4)
  | 0x1A => .overridePop seq
  | 0x1B => .serviceLeave seq
  | _ => .unknownCommand seq (byteAt l 0)

/-! ## Frames received (01 R3, R5, 11 R190, R191) -/

/-- The receive error that the end-of-frame checks find in a body, if any (01 R3). -/
def bodyError (body : List Byte) : Option RxError :=
  let n := body.length
  if 5 ≤ n ∧ u8At body 2 ≤ Config.payloadMax ∧ n = u8At body 2 + 5 then
    if crcBytes (body.take (n - 2)) = body.drop (n - 2) then none else some .crcMismatch
  else some .lengthMismatch

/-- The KIND of a body. -/
def bodyKind (body : List Byte) : Nat := u8At body 0

/-- The SEQ of a body. -/
def bodySeq (body : List Byte) : Byte := byteAt body 1

/-- The payload of a body: LEN bytes after KIND, SEQ and LEN (01 section 1.3). -/
def bodyPayload (body : List Byte) : List Byte := (body.drop 3).take (u8At body 2)

/-- The frame kinds the ports accept (01 R5, 11 R190). -/
inductive FrameKind where
  | motorReport | packReport | demand | command
  deriving DecidableEq, Repr

/-- The kind of a frame on a port, none for a protocol error (01 R5, 11 R190). -/
def acceptedKind (p : Port) (kind : Nat) : Option FrameKind :=
  match p, kind with
  | .front, 0x10 => some .motorReport
  | .rear, 0x10 => some .motorReport
  | .pack, 0x11 => some .packReport
  | .cockpit, 0x12 => some .demand
  | .cockpit, 0x13 => some .command
  | _, _ => none

/-- The structure check: a frame of an accepted kind is malformed (01 R5, 11 R191, R192). -/
def malformed (k : FrameKind) (l : List Byte) : Bool :=
  match k with
  | .motorReport =>
    decide (l.length < 13) || decide (Config.claimsMax < u8At l 12) || decide (l.length ≠ 13 + u8At l 12)
  | .packReport =>
    decide (l.length < 12) || decide (Config.claimsMax < u8At l 11) || decide (l.length ≠ 12 + u8At l 11)
  | .demand => decide (l.length ≠ 6)
  | .command =>
    match l with
    | [] => true
    | code :: _ =>
      match commandLength code with
      | some n => decide (l.length ≠ n)
      | none => false

/-! ## The configuration image (R196, 10 R176) -/

/-- The parameters given by a function of their names. -/
def Params.ofFun (f : Param → Nat) : Params where
  frontShare := f .frontShare
  thermStart := f .thermStart
  thermStop := f .thermStop
  slewUp := f .slewUp
  envPeriod := f .envPeriod
  checkPeriod := f .checkPeriod
  freshMotor := f .freshMotor
  freshPack := f .freshPack
  freshCkpt := f .freshCkpt
  gatherTime := f .gatherTime
  haltRamp := f .haltRamp
  limpPct := f .limpPct
  walkPct := f .walkPct
  limpSpeed := f .limpSpeed
  walkSpeed := f .walkSpeed
  ecoPct := f .ecoPct
  tourPct := f .tourPct
  sportPct := f .sportPct
  ecoSpeed := f .ecoSpeed
  tourSpeed := f .tourSpeed
  sportSpeed := f .sportSpeed
  brakeLineRegen := f .brakeLineRegen
  balAbs := f .balAbs
  balRel := f .balRel
  splitAbs := f .splitAbs
  splitRel := f .splitRel
  isoCurrent := f .isoCurrent
  dormantWindow := f .dormantWindow
  serviceIdle := f .serviceIdle

/-- The rows given by a function of their kinds. -/
def Rows.ofFun (f : Kind → Row) : Rows where
  linkLost := f .linkLost
  linkNoise := f .linkNoise
  linkFrozen := f .linkFrozen
  obsRange := f .obsRange
  curBalance := f .curBalance
  speedSplit := f .speedSplit
  brakeThrottle := f .brakeThrottle
  standMoving := f .standMoving
  isolationFail := f .isolationFail
  storeFault := f .storeFault
  phaseOvercurrent := f .phaseOvercurrent
  phaseOpen := f .phaseOpen
  rotorSensorLost := f .rotorSensorLost
  inverterOvertemp := f .inverterOvertemp
  motorOvertemp := f .motorOvertemp
  busOvervolt := f .busOvervolt
  gateDriveFault := f .gateDriveFault
  inverterSupplyLow := f .inverterSupplyLow
  cellUndervolt := f .cellUndervolt
  cellOvervolt := f .cellOvervolt
  packOvertemp := f .packOvertemp
  packCold := f .packCold
  contactorWeld := f .contactorWeld
  insulationLow := f .insulationLow
  cellImbalance := f .cellImbalance
  throttleImplausible := f .throttleImplausible
  brakeSensorFault := f .brakeSensorFault
  controlSwitchStuck := f .controlSwitchStuck

/-- The image without its CRC: header, parameters, rows (R196). -/
def imageHead (c : Copy) : List Byte :=
  be16 Config.imageVersion ++ be16 Config.imageLength
    ++ Param.all.flatMap (fun p => be16 (c.params.get p))
    ++ Kind.all.flatMap (fun k => rowBytesList (c.rows.get k).encode)

/-- The image of a copy, as a SAVE composes it (R196, R197). -/
def encodeImage (c : Copy) : List Byte := imageHead c ++ crcBytes (imageHead c)

/-- Parameter n of an image, at 4 + 2n (R196). -/
def imageParam (img : List Byte) (p : Param) : Nat := u16At img (4 + 2 * p.number)

/-- The row of kind c in an image, at 62 + 6c, none if a field fails its range (R196, R197). -/
def imageRow (img : List Byte) (k : Kind) : Option Row := Row.decode (rowBytesAt img (62 + 6 * k.code))

/-- The copy an image holds; a row with a code that names no value, from which no copy is taken, stands as
built-in. -/
def imageCopy (img : List Byte) : Copy where
  params := Params.ofFun (imageParam img)
  rows := Rows.ofFun fun k => (Row.ofBytes (rowBytesAt img (62 + 6 * k.code))).getD (Rows.builtin.get k)

/-- The CRC over offsets 0..229 equals the stored one (10 R179). -/
def imageCrcGood (img : List Byte) : Bool := crcBytes (img.take 230) == (img.drop 230).take 2

/-- Version 1 and the length version 1 defines (10 R179). -/
def imageHeaderGood (img : List Byte) : Bool :=
  u16At img 0 == Config.imageVersion && u16At img 2 == Config.imageLength

/-! ## The latch list (R198, R199) -/

/-- An entry as three bytes (R199). -/
def LatchEntry.encode (e : LatchEntry) : List Byte :=
  [byteOf e.unit.code, byteOf e.kind.code, byteOf e.occurrences]

/-- The latch list without its CRC: count, entries, the rest filled with 255 (R199). -/
def latchHead (es : List LatchEntry) : List Byte :=
  byteOf es.length :: (es.flatMap LatchEntry.encode ++ List.replicate (3 * (Config.latchPlaces - es.length)) 255#8)

/-- The 27 bytes of a latch list (R199). -/
def encodeLatches (es : List LatchEntry) : List Byte := latchHead es ++ crcBytes (latchHead es)

/-- The entry in a position of a latch list, none if it fails its test (10 R180, R199). -/
def latchEntryAt (l : List Byte) (i : Nat) : Option LatchEntry :=
  match FaultUnit.ofCode (u8At l (1 + 3 * i)), Kind.ofCode (u8At l (2 + 3 * i)) with
  | some u, some k =>
    let n := u8At l (3 + 3 * i)
    if allowedPair u k = true ∧ 1 ≤ n ∧ n ≤ 15 then some ⟨u, k, n⟩ else none
  | _, _ => none

/-- The entries of the first `n` positions from position `i`, none if one fails its test (10 R180). -/
def latchEntries (l : List Byte) : Nat → Nat → Option (List LatchEntry)
  | _, 0 => some []
  | i, n + 1 =>
    match latchEntryAt l i, latchEntries l (i + 1) n with
    | some e, some es => some (e :: es)
    | _, _ => none

/-- The tests of a latch list that was read: CRC, count, entries (10 R180). -/
def testLatches (l : List Byte) : LatchOutcome :=
  if crcBytes (l.take 25) = (l.drop 25).take 2 then
    if u8At l 0 ≤ Config.latchPlaces then
      match latchEntries l 0 (u8At l 0) with
      | some es => .valid es
      | none => .invalid
    else .invalid
  else .invalid

end Sys2Proof.Machine
end

