-- ==== Sys2Proof/Machine/Checks.lean ====
section
/-! DEFINITION. The cross-check monitor (chapter 6): the five comparisons, their verdicts, the watch set and
its grace flags. -/

namespace Sys2Proof.Machine

open Sys2Proof

/-! ## Current balance (R92 to R94) -/

/-- The residual of the current balance (R92). -/
def balanceResidual (o : Observations) : Nat :=
  (o.pack.current - (o.front.dcCurrent + o.rear.dcCurrent)).natAbs

/-- The tolerance of the current balance (R92). -/
def balanceTolerance (c : Params) (o : Observations) : Nat :=
  max c.balAbs (o.pack.current.natAbs * c.balRel / 100)

/-- The unit a failing balance is charged to, by the suspect view of FRONT and REAR (R93). -/
def balanceCharge (suspectFront suspectRear : Bool) : FaultUnit :=
  if suspectFront && !suspectRear then .front
  else if suspectRear && !suspectFront then .rear
  else .core

/-- The deliveries of the current balance (R92 to R94). -/
def balanceVerdict (c : Params) (o : Observations) (t : FaultTable) : List Delivery :=
  if o.pack.fresh && o.front.fresh && o.rear.fresh then
    if balanceTolerance c o < balanceResidual o then
      [.evidence (balanceCharge (t.suspect .front) (t.suspect .rear)) .curBalance
        (some (.number (min (balanceResidual o) 400 : Nat)))]
    else [.clean .front .curBalance, .clean .rear .curBalance, .clean .core .curBalance]
  else []

/-! ## Speed split (R95) -/

/-- The delivery of the speed split (R95). -/
def splitVerdict (c : Params) (o : Observations) : List Delivery :=
  let vmax := max o.front.speed o.rear.speed
  let d := vmax - min o.front.speed o.rear.speed
  if o.front.fresh && o.rear.fresh && decide (50 ≤ vmax) then
    if max c.splitAbs (vmax * c.splitRel / 100) < d then
      [.evidence .core .speedSplit (some (.number (d : Nat)))]
    else [.clean .core .speedSplit]
  else []

/-! ## Rider inputs (R96, R97) -/

/-- The delivery of the brake/throttle conflict (R96). -/
def brakeVerdict (o : Observations) (brake : Bool) : List Delivery :=
  if o.cockpit.fresh then
    if brake && decide (100 < o.cockpit.demand) then
      [.evidence .cockpit .brakeThrottle (some (.number (o.cockpit.demand : Nat)))]
    else [.clean .cockpit .brakeThrottle]
  else []

/-- The largest wheel speed of the fresh motor records (R97). -/
def freshMaxSpeed (o : Observations) : Nat :=
  max (if o.front.fresh then o.front.speed else 0) (if o.rear.fresh then o.rear.speed else 0)

/-- The delivery of the stand check (R97). -/
def standVerdict (o : Observations) (stand : Bool) : List Delivery :=
  if o.front.fresh || o.rear.fresh then
    if stand && decide (100 ≤ freshMaxSpeed o) then
      [.evidence .cockpit .standMoving (some (.number (freshMaxSpeed o : Nat)))]
    else [.clean .cockpit .standMoving]
  else []

/-! ## The isolation-failure watch (R98) -/

/-- A motor's record fails the watch (R98). -/
def failsWatch (c : Params) (r : MotorRecord) : Bool :=
  decide (c.isoCurrent < r.dcCurrent.natAbs) || r.gate == .switching

/-- The delivery of the watch for a motor, given whether it is in the watch set and its grace flag (R98). -/
def watchVerdict (c : Params) (u : FaultUnit) (r : MotorRecord) (watched grace : Bool) : List Delivery :=
  if watched && !grace && r.fresh then
    if failsWatch c r then [.evidence u .isolationFail (some (.number r.dcCurrent))]
    else [.clean u .isolationFail]
  else []

/-- The monitor after a check: the grace of every watched motor is consumed (R98). -/
def Monitor.afterCheck (m : Monitor) : Monitor :=
  { m with graceFront := m.graceFront && !m.watchFront, graceRear := m.graceRear && !m.watchRear }

/-- The deliveries of a check, in order, from the inputs read at its expiry (R90). -/
def State.checkVerdicts (s : State) : List Delivery :=
  let c := s.working.params
  balanceVerdict c s.obs s.table ++ splitVerdict c s.obs
    ++ brakeVerdict s.obs s.switches.brake.asserted ++ standVerdict s.obs s.switches.stand.asserted
    ++ watchVerdict c .front s.obs.front s.monitor.watchFront s.monitor.graceFront
    ++ watchVerdict c .rear s.obs.rear s.monitor.watchRear s.monitor.graceRear

/-- A CHECK expiry taken in force (R90, R98). -/
def State.check (s : State) : State :=
  State.deliverAll { s with monitor := s.monitor.afterCheck } s.checkVerdicts

/-- CHECK_EXPIRY (R90). -/
def execCheckExpiry (s : State) : Host.Outcome State Fault Refusal :=
  .next (if s.expiryInForce .check then (s.afterExpiry .check).check else s.afterExpiry .check)

/-- The monitor after an isolation notice (R91). -/
def Monitor.notice (mon : Monitor) (m : Motor) (entered : Bool) : Monitor :=
  match m with
  | .front => { mon with watchFront := entered, graceFront := entered }
  | .rear => { mon with watchRear := entered, graceRear := entered }

/-- ISOLATION_NOTICE (R91). -/
def execIsolationNotice (m : Motor) (entered : Bool) (s : State) : Host.Outcome State Fault Refusal :=
  .next { s.took (· == .isolation m entered) with monitor := s.monitor.notice m entered }

/-- RECORD_TICK_EXPIRY (05 R72). -/
def execRecordTickExpiry (s : State) : Host.Outcome State Fault Refusal :=
  .next (if s.expiryInForce .recordTick then
      (s.afterExpiry .recordTick).tableEvent (s.table.tick s.working)
    else s.afterExpiry .recordTick)

end Sys2Proof.Machine
end

