-- ==== Sys2Proof/Machine/Envelope.lean ====
section
/-! DEFINITION. The envelope computer (chapter 8): the staged computation, the commands and the grants. -/

namespace Sys2Proof.Machine

open Sys2Proof

/-! ## Level percent and speed ceiling (R130, R132) -/

/-- The profile's percent (R130). -/
def profilePct (c : Params) : Profile → Nat
  | .eco => c.ecoPct | .tour => c.tourPct | .sport => c.sportPct

/-- The profile's speed (R130). -/
def profileSpeed (c : Params) : Profile → Nat
  | .eco => c.ecoSpeed | .tour => c.tourSpeed | .sport => c.sportSpeed

/-- The level percent p (R132). -/
def levelPercent (c : Params) (prof : Profile) (a : Drive) : Nat :=
  match a.level with
  | .full => profilePct c prof
  | .derate => profilePct c prof * a.derate / 100
  | .limp => min (profilePct c prof) c.limpPct
  | .walk => min (profilePct c prof) c.walkPct
  | .halt => 0

/-- The speed ceiling of the level (R132). -/
def levelSpeed (c : Params) (prof : Profile) (a : Drive) : Nat :=
  match a.level with
  | .full | .derate => profileSpeed c prof
  | .limp => min (profileSpeed c prof) c.limpSpeed
  | .walk => c.walkSpeed
  | .halt => 0

/-- The speed ceiling V_c, lowered to WALK_SPEED in SERVICE (R132). -/
def speedCeiling (c : Params) (prof : Profile) (a : Drive) (chip : Chip) : Nat :=
  if chip = .service then min (levelSpeed c prof a) c.walkSpeed else levelSpeed c prof a

/-! ## Ceilings (R133 to R139) -/

/-- FRONT's share of a budget (R134). -/
def shareFront (c : Params) (a : Drive) (budget : Nat) : Nat :=
  if a.isoFront then 0 else if a.isoRear then budget else budget * c.frontShare / 100

/-- REAR's share of a budget (R134). -/
def shareRear (c : Params) (a : Drive) (budget : Nat) : Nat :=
  if a.isoRear then 0 else if a.isoFront then budget else budget - budget * c.frontShare / 100

/-- The thermal factor k (R135). -/
def thermalFactor (c : Params) (t : Int) : Nat :=
  if t ≤ (c.thermStart : Int) then 1000
  else if (c.thermStop : Int) ≤ t then 0
  else (1000 * ((c.thermStop : Int) - t) / ((c.thermStop : Int) - (c.thermStart : Int))).toNat

/-- The motor limit M of a motor, from a capability (R136). -/
def motorLimit (isolated fresh : Bool) (capability k : Nat) : Nat :=
  if isolated || !fresh then 0 else capability * k / 1000

/-- The slew stage (R138). -/
def slew (c : Params) (target old : Nat) : Nat :=
  if target ≤ old then target else min target (old + c.slewUp)

/-- The stages of one budget from the shares and limits on (R137, R138). -/
def fitShares (c : Params) (budget shF shR limF limR oldF oldR : Nat) : Split :=
  let fitF := min limF shF
  let fitR := min limR shR
  let aimF := min limF (fitF + (shR - fitR))
  let aimR := min limR (fitR + (shF - fitF))
  { budget := budget
    shareFront := shF
    shareRear := shR
    limFront := limF
    limRear := limR
    fitFront := fitF
    fitRear := fitR
    aimFront := aimF
    aimRear := aimR
    ceilFront := slew c aimF oldF
    ceilRear := slew c aimR oldR }

/-- The stages of one budget (R134 to R138). -/
def splitStages (c : Params) (a : Drive) (budget limF limR oldF oldR : Nat) : Split :=
  fitShares c budget (shareFront c a budget) (shareRear c a budget) limF limR oldF oldR

/-- The drive budget B (R133). -/
def driveBudget (o : Observations) (p : Nat) : Nat := o.pack.iDis * p / 100

/-- The regeneration budget G (R139). -/
def regenBudget (o : Observations) (a : Drive) : Nat :=
  if a.regenInhibit then 0
  else match a.level with
    | .full | .derate | .limp => o.pack.iChg
    | .walk | .halt => 0

/-! ## Commands (R140 to R144) -/

/-- The speed v (R140). -/
def tractionSpeed (o : Observations) : Nat :=
  if o.front.fresh && !o.rear.fresh then o.front.speed
  else if o.rear.fresh && !o.front.fresh then o.rear.speed
  else max o.front.speed o.rear.speed

/-- The brake demand b (R141). -/
def brakeDemand (c : Params) (o : Observations) (brake : Bool) : Nat :=
  max o.cockpit.view.brake (if brake then c.brakeLineRegen else 0)

/-- The stand interlock acts (R142). -/
def standInterlock (chip : Chip) (stand : Bool) (v : Nat) : Bool :=
  chip != .service && stand && decide (v < 30)

/-- The drive demand d (R142). -/
def driveDemand (o : Observations) (chip : Chip) (brake stand : Bool) (b v : Nat) : Nat :=
  if !o.cockpit.fresh || decide (0 < b) || brake || standInterlock chip stand v then 0
  else o.cockpit.demand

/-- The speed taper on a drive command (R143, step 2). -/
def taper (vCeil v cmd : Nat) : Nat :=
  if vCeil ≤ v then 0 else if vCeil < v + 20 then cmd * (vCeil - v) / 20 else cmd

/-- A drive command (R143). -/
def driveCommand (d ceiling vCeil v : Nat) : Nat := taper vCeil v (d * ceiling / 1000)

/-- A regeneration command (R144). -/
def regenCommand (b ceiling : Nat) : Nat := b * ceiling / 1000

/-! ## The computation (R129, R151) -/

/-- The inputs of one computation: parameters, records, switches, chip state, applied state, slew state. -/
structure EnvelopeInputs where
  params  : Params
  obs     : Observations
  brake   : Bool
  stand   : Bool
  chip    : Chip
  applied : Drive
  slew    : Envelope
  deriving DecidableEq, Repr

/-- What the computer reads at its expiry (R130). -/
def State.envelopeInputs (s : State) : EnvelopeInputs where
  params := s.working.params
  obs := s.obs
  brake := s.switches.brake.asserted
  stand := s.switches.stand.asserted
  chip := s.control.chip
  applied := s.control.applied
  slew := s.envelope

/-- The drive stages of a computation (R133 to R138). -/
def driveStages (i : EnvelopeInputs) : Split :=
  let k := thermalFactor i.params
  splitStages i.params i.applied
    (driveBudget i.obs (levelPercent i.params i.obs.cockpit.profile i.applied))
    (motorLimit i.applied.isoFront i.obs.front.fresh i.obs.front.view.cDrive (k i.obs.front.motorTemp))
    (motorLimit i.applied.isoRear i.obs.rear.fresh i.obs.rear.view.cDrive (k i.obs.rear.motorTemp))
    i.slew.pFront i.slew.pRear

/-- The regeneration stages of a computation (R139). -/
def regenStages (i : EnvelopeInputs) : Split :=
  let k := thermalFactor i.params
  splitStages i.params i.applied (regenBudget i.obs i.applied)
    (motorLimit i.applied.isoFront i.obs.front.fresh i.obs.front.view.cRegen (k i.obs.front.motorTemp))
    (motorLimit i.applied.isoRear i.obs.rear.fresh i.obs.rear.view.cRegen (k i.obs.rear.motorTemp))
    i.slew.qFront i.slew.qRear

/-- One envelope computation: the stage values, in the order of R129 (R132 to R145, R151). -/
def compute (i : EnvelopeInputs) : LastComputation :=
  let c := i.params
  let prof := i.obs.cockpit.profile
  let vc := speedCeiling c prof i.applied i.chip
  let dr := driveStages i
  let rg := regenStages i
  let v := tractionSpeed i.obs
  let b := brakeDemand c i.obs i.brake
  let d := driveDemand i.obs i.chip i.brake i.stand b v
  { chip := i.chip
    profile := prof
    level := i.applied.level
    isoFront := i.applied.isoFront
    isoRear := i.applied.isoRear
    p := levelPercent c prof i.applied
    vCeil := vc
    kFront := thermalFactor c i.obs.front.motorTemp
    kRear := thermalFactor c i.obs.rear.motorTemp
    drive := dr
    regen := rg
    d := d
    b := b
    v := v
    cmdFront := driveCommand d dr.ceilFront vc v
    cmdRear := driveCommand d dr.ceilRear vc v
    regFront := regenCommand b rg.ceilFront
    regRear := regenCommand b rg.ceilRear
    valid := true }

/-! ## Grants (R146 to R149) -/

/-- The MOTOR_GRANT of a motor (R147). -/
def LastComputation.motorGrant (x : LastComputation) (m : Motor) : MotorGrant :=
  match m with
  | .front =>
    { level := x.level, isolated := x.isoFront, driveCeil := x.drive.ceilFront,
      regenCeil := x.regen.ceilFront, driveCmd := x.cmdFront, regenCmd := x.regFront,
      speedCeil := x.vCeil }
  | .rear =>
    { level := x.level, isolated := x.isoRear, driveCeil := x.drive.ceilRear,
      regenCeil := x.regen.ceilRear, driveCmd := x.cmdRear, regenCmd := x.regRear,
      speedCeil := x.vCeil }

/-- The PACK_GRANT (R148). -/
def LastComputation.packGrant (x : LastComputation) (packOpen : Bool) : PackGrant where
  level := x.level
  expectedDrive := x.drive.ceilFront + x.drive.ceilRear
  expectedRegen := x.regen.ceilFront + x.regen.ceilRear
  packOpen := packOpen

/-- The COCKPIT_STATUS (R149, 07 R127). -/
def State.cockpitStatus (s : State) (x : LastComputation) : CockpitStatus where
  chip := s.control.chip
  applied := s.control.applied.level
  target := s.control.target.level
  isoFront := s.control.applied.isoFront
  isoRear := s.control.applied.isoRear
  speedCeil := x.vCeil
  contained := s.table.contained.length
  tableFull := s.table.tableFull
  unsaved := s.unsaved
  storeBusy := s.store.busy
  lead := (s.table.lead s.working s.now).map fun r => (r.unit, r.kind)
  depth := s.control.overrides.length
  sweep := s.table.sweep.state
  outcome := s.table.sweep.outcome
  cleared := s.table.sweep.cleared
  cursor := s.table.sweep.cursor
  remaining := s.table.sweep.remaining

/-- A grant placed in the slot of a link that is not DOWN; an unsent one is replaced and counted (01 R13, R146). -/
def LinkPort.placeGrant (g : Grant) (x : LinkPort) : LinkPort :=
  if x.link = .down then x
  else { x with
    grant := some g
    counters := { x.counters with
      replaced := if x.grant.isSome then bump x.counters.replaced else x.counters.replaced } }

/-- The four grants of a computation (R146). -/
def State.grantFor (s : State) (x : LastComputation) : Port → Grant
  | .front => .motor (x.motorGrant .front)
  | .rear => .motor (x.motorGrant .rear)
  | .pack => .pack (x.packGrant s.control.applied.packOpen)
  | .cockpit => .status (s.cockpitStatus x)

/-- The grants placed in the slots of the four links (R146). -/
def State.placeGrants (s : State) (x : LastComputation) : Ports where
  front := s.ports.front.placeGrant (s.grantFor x .front)
  rear := s.ports.rear.placeGrant (s.grantFor x .rear)
  pack := s.ports.pack.placeGrant (s.grantFor x .pack)
  cockpit := s.ports.cockpit.placeGrant (s.grantFor x .cockpit)

/-- The slew state and last-computation record a computation leaves (R129, steps 3 and 5). -/
def LastComputation.envelope (x : LastComputation) : Envelope where
  pFront := x.drive.ceilFront
  pRear := x.drive.ceilRear
  qFront := x.regen.ceilFront
  qRear := x.regen.ceilRear
  last := x

/-- An ENVELOPE expiry taken in force (R129). In LOADING no computation is taken. -/
def State.envelopeEvent (s : State) : State :=
  if s.control.chip = .loading then s
  else
    let x := compute s.envelopeInputs
    { s with ports := s.placeGrants x, envelope := x.envelope }

/-- ENVELOPE_EXPIRY (R129). -/
def execEnvelopeExpiry (s : State) : Host.Outcome State Fault Refusal :=
  .next (if s.expiryInForce .envelope then (s.afterExpiry .envelope).envelopeEvent
    else s.afterExpiry .envelope)

end Sys2Proof.Machine
end

