-- ==== Sys2Proof/Machine/Flags.lean ====
section
/-! DEFINITION. The direct lines and the flags that are computed, not stored: PERMIT, PACK_OPEN and WARN
(07 R124 to R126), the recovery gate (07 R118) and the DRIVE test (07 R106). -/

namespace Sys2Proof.Machine

open Sys2Proof

/-- The PERMIT line of a motor (R124). -/
def Control.permitLine (c : Control) (m : Motor) : Bool :=
  !c.applied.isolated m && (c.applied.level != .halt || c.ramp)

/-- The WARN line, given whether the fault table holds a LATCHED record (R126). -/
def Control.warnLine (c : Control) (latched : Bool) : Bool := c.applied.level != .full || latched

/-- The lines set at the end of an event (R124 to R126). -/
def Control.setLines (c : Control) (latched : Bool) : Control :=
  { c with
    permitFront := c.permitLine .front
    permitRear := c.permitLine .rear
    packOpen := c.applied.packOpen
    warn := c.warnLine latched }

/-- The HALT ramp ends: the ramp state becomes NONE and both PERMIT lines become low (R121, R122). -/
def Control.endRamp (c : Control) : Control :=
  { c with ramp := false, permitFront := false, permitRear := false }

/-- The recovery gate is open: the cockpit record is fresh and its stored drive demand is 0 (R118). -/
def Observations.gateOpen (o : Observations) : Bool := o.cockpit.fresh && o.cockpit.demand == 0

/-- A relaxation is held (R118). -/
def Drive.holdsRelaxation (target applied : Drive) : Bool :=
  decide (target.level.rank < applied.level.rank) || decide (applied.derate < target.derate)
    || (applied.isoFront && !target.isoFront) || (applied.isoRear && !target.isoRear)

/-- Both motor records are fresh and both wheel speeds are below 10 (R122). -/
def Observations.bothSlow (o : Observations) : Bool :=
  o.front.fresh && o.rear.fresh && decide (o.front.speed < 10) && decide (o.rear.speed < 10)

/-- A link is UP. -/
def LinkPort.isUp (x : LinkPort) : Bool := x.link == .up

/-- What the DRIVE test asks of the links and of gather done (R106). -/
def driveTest (t : Ports) (gatherDone : Bool) : Bool :=
  t.pack.isUp && t.cockpit.isUp && (t.front.isUp || t.rear.isUp)
    && ((t.front.isUp && t.rear.isUp) || gatherDone)

end Sys2Proof.Machine
end

