-- ==== Sys2Proof/Machine/Containment.lean ====
section
/-! DEFINITION. The containment controller (chapter 7): the target state, the applied state and the recovery
gate, the HALT ramp, the chip states, and the meanings of the commands it takes. -/

namespace Sys2Proof.Machine

open Sys2Proof

/-! ## The target state (R113 to R115) -/

/-- The maximum of the floors of the rows of some records, FULL with none (R113, step 1). -/
def floorLevel (c : Copy) (rs : List FaultRecord) : Level :=
  rs.foldl (fun l r => l.max (c.rows.get r.kind).floor) .full

/-- A record of a motor's unit whose row isolates (R114). -/
def isolates (c : Copy) (u : FaultUnit) (r : FaultRecord) : Bool :=
  r.unit == u && (c.rows.get r.kind).isolate

/-- The minimum of the derate percents of the rows whose floor is DERATE, 100 with none (R114). -/
def derateOf (c : Copy) (rs : List FaultRecord) : Nat :=
  rs.foldl (fun n r => if (c.rows.get r.kind).floor = .derate then min n (c.rows.get r.kind).derate else n) 100

/-- The level of the contained records raised by TABLE_FULL (R113, steps 1 and 2). -/
def tableLevel (c : Copy) (t : FaultTable) : Level :=
  let l := floorLevel c t.contained
  if t.tableFull then l.max .walk else l

/-- The single-motor and both-motor rules (R113, steps 3 and 4). -/
def motorRule (isoFront isoRear : Bool) (l : Level) : Level :=
  if isoFront && isoRear then .halt
  else if isoFront || isoRear then l.max .limp
  else l

/-- The target as DRIVE computes it (R113, R114). -/
def driveTarget (c : Copy) (t : FaultTable) : Drive :=
  let rs := t.contained
  let f := rs.any (isolates c .front)
  let r := rs.any (isolates c .rear)
  { level := motorRule f r (tableLevel c t)
    derate := derateOf c rs
    isoFront := f
    isoRear := r
    regenInhibit := rs.any fun x => (c.rows.get x.kind).regenInhibit
    packOpen := rs.any fun x => (c.rows.get x.kind).packOpen }

/-- The top override entry combined with a target (R115, step 3). -/
def Drive.override (d : Drive) : List Override → Drive
  | [] => d
  | o :: _ =>
    { d with
      level := d.level.max o.floor
      isoFront := d.isoFront || o.isoFront
      isoRear := d.isoRear || o.isoRear
      regenInhibit := d.regenInhibit || o.regenInhibit }

/-- HALT if the isolated set holds both motors (R115, step 4). -/
def Drive.bothHalt (d : Drive) : Drive :=
  { d with level := if d.isoFront && d.isoRear then .halt else d.level }

/-- The target in SERVICE (R115). -/
def serviceTarget (c : Copy) (t : FaultTable) (os : List Override) : Drive :=
  let d := driveTarget c t
  (Drive.override { d with level := d.level.max .walk } os).bothHalt

/-- The target state in a chip state (R113 to R115). -/
def targetFor (chip : Chip) (c : Copy) (t : FaultTable) (os : List Override) : Drive :=
  match chip with
  | .loading | .standby | .shutdown => { driveTarget c t with level := .halt }
  | .drive => driveTarget c t
  | .service => serviceTarget c t os

/-! ## The applied state (R117, R118) -/

/-- The applied state moved toward the target part by part, relaxations held (R117). -/
def Drive.restrict (target applied : Drive) : Drive where
  level := applied.level.max target.level
  derate := min applied.derate target.derate
  isoFront := applied.isoFront || target.isoFront
  isoRear := applied.isoRear || target.isoRear
  regenInhibit := target.regenInhibit
  packOpen := target.packOpen

/-- The held relaxation applied: level, derate percent and isolated set become the target's (R118). -/
def Drive.relax (target applied : Drive) : Drive :=
  { applied with
    level := target.level, derate := target.derate, isoFront := target.isoFront, isoRear := target.isoRear }

/-- The applied state after a recomputation that finds the gate open or closed (R117, R118). -/
def Drive.follow (target applied : Drive) (gate : Bool) : Drive :=
  let a := target.restrict applied
  if target.holdsRelaxation a && gate then target.relax a else a

/-- The isolation notice of one motor, if its membership changed (R119). -/
def isolationNoticeOf (m : Motor) (before after : Drive) : List Owed :=
  if before.isolated m = after.isolated m then [] else [.isolation m (after.isolated m)]

/-- The isolation notices of a change of the applied isolated set, FRONT first (R119, 06 R91). -/
def isolationNotices (before after : Drive) : List Owed :=
  isolationNoticeOf .front before after ++ isolationNoticeOf .rear before after

/-- The ramp state and channel at a change of the applied level (R120, R123). -/
def State.rampFor (s : State) (before after : Level) : State :=
  if before ≠ .halt ∧ after = .halt then
    State.start { s with control := { s.control with ramp := true } } .haltRamp
  else if before = .halt ∧ after ≠ .halt ∧ s.control.ramp = true then
    State.stop { s with control := { s.control with ramp := false } } .haltRamp
  else s

/-- The lines set from the state as it stands (R124 to R126). -/
def State.setLines (s : State) : State := { s with control := s.control.setLines s.table.anyLatched }

/-- A new applied state takes effect: the ramp, the lines and the isolation notices follow it in the same
event (R119, R120, R123 to R126). -/
def State.apply (s : State) (a : Drive) : State :=
  let before := s.control.applied
  let s1 : State := { s with control := { s.control with applied := a } }
  ((s1.rampFor before.level a.level).setLines).owe (isolationNotices before a)

/-- A recomputation of the target, without the DRIVE test (R112). -/
def State.recomputeCore (s : State) : State :=
  let t := targetFor s.control.chip s.working s.table s.control.overrides
  let s1 : State := { s with control := { s.control with target := t } }
  s1.apply (t.follow s.control.applied s.obs.gateOpen)

/-- The chip state changed. -/
def State.setChip (s : State) (c : Chip) : State := { s with control := { s.control with chip := c } }

/-- The DRIVE test, made in STANDBY only, and the move to DRIVE when it holds (R106). -/
def State.testDrive (s : State) : State :=
  if s.control.chip = .standby ∧ driveTest s.ports s.control.gatherDone = true then
    ((s.setChip .drive).stop .gather).recomputeCore
  else s

/-- A recomputation of the target, followed in STANDBY by the DRIVE test (R112, R106). -/
def State.recompute (s : State) : State := s.recomputeCore.testDrive

/-- The steps of an entry to STANDBY (R105); gather batches owed belong to an earlier gather (R108). -/
def State.enterStandby (s : State) : State :=
  let s1 : State := { s with
    control := { s.control with chip := .standby, gatherDone := false }
    owed := s.owed.map Owed.gatherOver }
  (s1.start .gather).recompute

/-- GATHER is stopped when the chip leaves STANDBY (R107). -/
def State.stopGatherIfStandby (s : State) : State := if s.control.chip = .standby then s.stop .gather else s

/-! ## Row changes and the working copy (04 R53, R54, R59) -/

/-- The rows of the working copy changed by an edit or a replacement, as one row change: the containment
controller recomputes, and the records of rows that become disabled are freed (R53, R54, R59; log 15, 18). -/
def State.changeCopy (s : State) (c : Copy) : State :=
  let s1 : State := { s with working := c }
  s1.recompute.tableEvent (s1.table.rowChange s.working.rows c.rows)

/-! ## The commands the controller takes -/

/-- ARRIVAL_NOTICE from the cockpit: the gate is tested while a relaxation is held (R118). -/
def State.cockpitNotice (s : State) : State :=
  if s.control.target.holdsRelaxation s.control.applied && s.obs.gateOpen then
    s.apply (s.control.target.relax s.control.applied)
  else s

/-- ARRIVAL_NOTICE from a motor: a ramp in progress ends when both motors are slow (R122). -/
def State.motorNotice (s : State) : State :=
  if s.control.ramp && s.obs.bothSlow then
    State.stop { s with control := s.control.endRamp } .haltRamp
  else s

/-- The effect of an arrival notice (R118, R122). -/
def State.noticeOf (s : State) : Reporter → State
  | .cockpit => s.cockpitNotice
  | .front | .rear => s.motorNotice

/-- ARRIVAL_NOTICE (02 R29, R118, R122): the oldest notice owed by the unit, if any, is taken (log 3). -/
def execArrivalNotice (u : Reporter) (s : State) : Host.Outcome State Fault Refusal :=
  .next ((s.took (Owed.isArrival u)).noticeOf u)

/-- LINK_STATE_NOTICE (R106): the DRIVE test. -/
def execLinkStateNotice (p : Port) (s : State) : Host.Outcome State Fault Refusal :=
  .next (s.took (· == .linkState p)).testDrive

/-- The key cycle (R110, 05 R73). -/
def State.keyCycle (s : State) : State := (s.tableEvent (s.table.keyCycle s.working)).enterStandby

/-- WAKE is accepted at a level: the change owed by the filter is taken, or the filter moves now (02 R31,
R32; log 4); the wake flag follows (R103). -/
def State.acceptWake (s : State) (on : Bool) : State :=
  let s1 :=
    if s.owes (· == .wakeChange on) then s.took (· == .wakeChange on)
    else { s with switches := { s.switches with wake := ⟨on, 0⟩ } }
  { s1 with control := { s1.control with awake := on } }

/-- WAKE_RISING (R103): a key cycle in SHUTDOWN, the flag alone elsewhere. -/
def execWakeRising (s : State) : Host.Outcome State Fault Refusal :=
  let s1 := s.acceptWake true
  .next (if s1.control.chip = .shutdown then s1.keyCycle else s1)

/-- A sweep that is not IDLE is abandoned at a leave (05 R86, 09 R171 to R173). -/
def State.abandonSweep (s : State) : State := { s with table := s.table.abandonSweep }

/-- The working copy is validated at a forced leave: one that fails is replaced by the committed copy as one
row change, the unsaved flag is cleared and a SAVE in progress no longer matches (04 R58, 09 R172, R173). -/
def State.revertIfInvalid (s : State) (failure : Option Failure) : State :=
  match failure with
  | none => s
  | some _ =>
    let s1 : State := { s with unsaved := false, store := { s.store with replaced := true } }
    s1.changeCopy s.committed

/-- The override stack emptied at a leave (R116). -/
def State.emptyOverrides (s : State) : State := { s with control := { s.control with overrides := [] } }

/-- The wake-forced leave before the chip state changes (R109, 09 R173): the stack is emptied, the sweep
abandoned, the working copy validated, SERVICE_IDLE stopped (log 16, 31). -/
def State.forcedLeave (s : State) (failure : Option Failure) : State :=
  ((s.emptyOverrides.stop .serviceIdle).abandonSweep).revertIfInvalid failure

/-- HALT_RAMP_EXPIRY taken in force: a ramp in progress ends (R121). -/
def State.haltRampEnds (s : State) : State :=
  if s.control.ramp then { s with control := s.control.endRamp } else s

/-- HALT_RAMP_EXPIRY (R121). -/
def execHaltRampExpiry (s : State) : Host.Outcome State Fault Refusal :=
  .next (if s.expiryInForce .haltRamp then (s.afterExpiry .haltRamp).haltRampEnds
    else s.afterExpiry .haltRamp)

/-- CONTAINMENT_ANNOUNCEMENT (R112, 05 R78). -/
def execContainmentAnnouncement (s : State) : Host.Outcome State Fault Refusal :=
  .next (s.took (· == .announcement)).recompute

/-- The links a GATHER expiry declares lost: DOWN or JOINING, in port order (R107). -/
def gatherBatch (t : Ports) : List Delivery :=
  (Port.all.filter fun p => (t.get p).link == .down || (t.get p).link == .joining).map
    fun p => .evidence p.unit .linkLost none

/-- Gather done is set after a recomputation, and the DRIVE test is made (R108). -/
def State.gatherFinished (s : State) : State :=
  let s1 := s.recomputeCore
  State.testDrive { s1 with control := { s1.control with gatherDone := true } }

/-- A GATHER expiry taken in force (R107). -/
def State.gatherExpires (s : State) : State :=
  if s.control.chip = .standby then
    match gatherBatch s.ports with
    | [] => s.gatherFinished
    | ds => (s.deliverAll ds).owe [.gatherBatch true]
  else s

/-- GATHER_EXPIRY (R107). -/
def execGatherExpiry (s : State) : Host.Outcome State Fault Refusal :=
  .next (if s.expiryInForce .gather then (s.afterExpiry .gather).gatherExpires
    else s.afterExpiry .gather)

/-- Whether the gather batch report to be taken is of the gather in progress (R108). -/
def State.batchIsCurrent (s : State) : Bool :=
  s.owed.find? Owed.isGatherBatch == some (.gatherBatch true)

/-- GATHER_BATCH_TAKEN (R108). -/
def execGatherBatchTaken (s : State) : Host.Outcome State Fault Refusal :=
  .next (if s.batchIsCurrent = true ∧ s.control.chip = .standby then
      (s.took Owed.isGatherBatch).gatherFinished
    else s.took Owed.isGatherBatch)

/-- The chip state the end of LOADING enters (R104, step 1). -/
def Control.afterLoading (c : Control) : Chip := if c.awake then .standby else .shutdown

/-- The end of LOADING (R104). -/
def State.endLoading (s : State) : State :=
  let s1 := (s.setChip s.control.afterLoading).recomputeCore
  let s2 := ((s1.start .envelope).start .check).start .recordTick
  if s2.control.chip = .standby then s2.enterStandby else s2

/-- END_OF_LOADING (R104): the report owed by the store is taken, in LOADING (log 3). -/
def execEndOfLoading (s : State) : Host.Outcome State Fault Refusal :=
  .next (if s.owes (· == .endOfLoading) = true ∧ s.control.chip = .loading then
      (s.took (· == .endOfLoading)).endLoading
    else s.took (· == .endOfLoading))

end Sys2Proof.Machine
end

