-- ==== Sys2Proof/Machine/Observations.lean ====
section
/-! DEFINITION. The observation table taking a report (02 R19 to R25, R29; byte layouts 11 R191). -/

namespace Sys2Proof.Machine

open Sys2Proof

/-- A field's treatment: the value to store, and the field number if the field counts for the OBS_RANGE
verdict (held, zeroed, or a claim ignored). -/
structure Treated (α : Type) where
  value  : α
  refuse : Option Nat
  deriving DecidableEq, Repr

/-- A field taken when in range, else held at the stored value under its field number (R19, R20). -/
def heldUnless {α : Type} (no : Nat) (ok : Bool) (received stored : α) : Treated α :=
  if ok then ⟨received, none⟩ else ⟨stored, some no⟩

/-- A field received as a code, held at the stored value when the code names no value. -/
def heldCode {α : Type} (no : Nat) (received : Option α) (stored : α) : Treated α :=
  match received with
  | some v => ⟨v, none⟩
  | none => ⟨stored, some no⟩

/-- A current in its range (R20, R21). -/
def currentInRange (i : Int) : Bool := decide (-150 ≤ i) && decide (i ≤ 250)

/-- A temperature received raw (11 R189): raw 241..255 is out of range. -/
def treatTemp (no raw : Nat) (stored : Int) : Treated Int :=
  heldUnless no (decide (raw ≤ 240)) ((raw : Int) - 40) stored

/-- The claim codes of a list: those the unit may claim, each once, in ascending order (R24). -/
def resolveClaims (u : FaultUnit) (codes : List Nat) : List Kind :=
  (claimable u).filter fun k => codes.contains k.code

/-- A code of the list is not claimable by the unit, so it is ignored (R24). -/
def claimIgnored (u : FaultUnit) (codes : List Nat) : Bool :=
  codes.any fun n => !((claimable u).any fun k => k.code == n)

/-- `n` claim bytes from an offset. -/
def claimCodes (l : List Byte) (from_ n : Nat) : List Nat := ((l.drop from_).take n).map BitVec.toNat

/-- The lowest field number among the refused fields, which are listed in field order (R23). -/
def lowestRefused (fs : List (Option Nat)) : Option Nat := (fs.filterMap id).head?

/-- The OBS_RANGE verdict (R23). -/
def obsRangeVerdict (u : FaultUnit) (refused : Option Nat) : Delivery :=
  match refused with
  | some n => .evidence u .obsRange (some (.number n))
  | none => .clean u .obsRange

/-- One claim verdict: evidence for a kind in the claim set, a clean observation for another kind (R24, R25). -/
def claimVerdict (u : FaultUnit) (claims : List Kind) (k : Kind) : Delivery :=
  if claims.contains k then .evidence u k none else .clean u k

/-- The claim verdict of a kind delivered: a clean observation only for a pair that has a record (R24). -/
def State.deliverClaim (u : FaultUnit) (claims : List Kind) (s : State) (k : Kind) : State :=
  if claims.contains k || (s.table.recordOf u k).isSome then s.deliver (claimVerdict u claims k) else s

/-- The verdicts of a report: OBS_RANGE, then the claims in ascending kind code (R19, R23 to R25). -/
def State.reportVerdicts (s : State) (u : FaultUnit) (refused : Option Nat) (claims : List Kind) : State :=
  (claimable u).foldl (State.deliverClaim u claims) (s.deliver (obsRangeVerdict u refused))

/-! ## MOTOR_REPORT (R20) -/

/-- A motor record after a report, and the lowest refused field (R20, 11 R191). -/
def MotorRecord.take (u : FaultUnit) (now : Time) (l : List Byte) (r : MotorRecord) : Treated MotorRecord :=
  let cur := heldUnless 1 (currentInRange (s16At l 0)) (s16At l 0) r.dcCurrent
  let spd := heldUnless 3 (decide (u16At l 3 ≤ 1200)) (u16At l 3) r.speed
  let mt := treatTemp 4 (u8At l 5) r.motorTemp
  let it := treatTemp 5 (u8At l 6) r.inverterTemp
  let bus := heldUnless 6 (decide (u16At l 7 ≤ 1000)) (u16At l 7) r.busVoltage
  let gate := heldCode 9 (Gate.ofCode (u8At l 11)) r.gate
  let codes := claimCodes l 13 (u8At l 12)
  { value :=
      { dcCurrent := cur.value
        phaseCurrent := u8At l 2
        speed := spd.value
        motorTemp := mt.value
        inverterTemp := it.value
        busVoltage := bus.value
        cDrive := u8At l 9
        cRegen := min (u8At l 10) 150
        gate := gate.value
        claims := resolveClaims u codes
        fresh := true
        arrival := now }
    refuse := lowestRefused
      [cur.refuse, spd.refuse, mt.refuse, it.refuse, bus.refuse, gate.refuse,
       if claimIgnored u codes then some 10 else none] }

/-- The reporter a motor is. -/
def motorReporter : Motor → Reporter
  | .front => .front
  | .rear => .rear

/-- A MOTOR_REPORT taken (R19). -/
def State.takeMotorReport (s : State) (m : Motor) (l : List Byte) : State :=
  let t := (s.obs.motor m).take m.unit s.now l
  let s1 : State := { s with obs := s.obs.setMotor m t.value }
  (s1.reportVerdicts m.unit t.refuse t.value.claims).owe [.arrival (motorReporter m) t.value.speed]

/-! ## PACK_REPORT (R21) -/

/-- The pack record after a report, and the lowest refused field (R21, 11 R191). -/
def PackRecord.take (now : Time) (l : List Byte) (r : PackRecord) : Treated PackRecord :=
  let vol := heldUnless 1 (decide (u16At l 0 ≤ 1000)) (u16At l 0) r.voltage
  let cur := heldUnless 2 (currentInRange (s16At l 2)) (s16At l 2) r.current
  let cell := heldUnless 6 (decide (u16At l 7 ≤ 5000)) (u16At l 7) r.minCell
  let temp := treatTemp 7 (u8At l 9) r.maxCellTemp
  let con := heldCode 8 (Contactor.ofCode (u8At l 10)) r.contactor
  let codes := claimCodes l 12 (u8At l 11)
  { value :=
      { voltage := vol.value
        current := cur.value
        iDis := u8At l 4
        iChg := min (u8At l 5) 150
        soc := min (u8At l 6) 100
        minCell := cell.value
        maxCellTemp := temp.value
        contactor := con.value
        claims := resolveClaims .pack codes
        fresh := true
        arrival := now }
    refuse := lowestRefused
      [vol.refuse, cur.refuse, cell.refuse, temp.refuse, con.refuse,
       if claimIgnored .pack codes then some 9 else none] }

/-- A PACK_REPORT taken (R19); it gives no arrival notice (R29). -/
def State.takePackReport (s : State) (l : List Byte) : State :=
  let t := s.obs.pack.take s.now l
  let s1 : State := { s with obs := { s.obs with pack := t.value } }
  s1.reportVerdicts .pack t.refuse t.value.claims

/-! ## DEMAND (R22, R25) -/

/-- The claim set of a DEMAND's flag byte: bits 0 to 2 (R25, 11 R191). -/
def demandClaims (b : Byte) : List Kind :=
  (if b.getLsbD 0 then [.throttleImplausible] else []) ++ (if b.getLsbD 1 then [.brakeSensorFault] else [])
    ++ (if b.getLsbD 2 then [.controlSwitchStuck] else [])

/-- The cockpit record after a DEMAND, and the lowest refused field (R22, 11 R191). -/
def CockpitRecord.take (now : Time) (l : List Byte) (r : CockpitRecord) : Treated CockpitRecord :=
  let dem := heldUnless 1 (decide (u16At l 0 ≤ 1000)) (u16At l 0) 0
  let prof := heldCode 3 (Profile.ofCode (u8At l 4)) r.profile
  { value :=
      { demand := dem.value
        brake := min (u16At l 2) 1000
        profile := prof.value
        claims := demandClaims (byteAt l 5)
        fresh := true
        arrival := now }
    refuse := lowestRefused [dem.refuse, prof.refuse] }

/-- A DEMAND taken (R19). -/
def State.takeDemand (s : State) (l : List Byte) : State :=
  let t := s.obs.cockpit.take s.now l
  let s1 : State := { s with obs := { s.obs with cockpit := t.value } }
  (s1.reportVerdicts .cockpit t.refuse t.value.claims).owe [.arrival .cockpit t.value.demand]

end Sys2Proof.Machine
end

