-- ==== Sys2Proof/Machine/Links.lean ====
section
/-! DEFINITION. The link ports (chapter 1): the framer, the frame checks, acceptance, the link state, breaks,
freshness and the transmitter, with the meanings of the commands that reach a port. -/

namespace Sys2Proof.Machine

open Sys2Proof

/-! ## Receive errors and discarded frames (R4, R5, R6) -/

/-- The framer state a receive error leaves (R4). -/
def framerAfterError : RxError → Framer
  | .crcMismatch | .lengthMismatch => .body
  | .overlength | .badEscape | .framingError | .breakInFrame => .hunt

/-- The port after a receive error (R4). -/
def LinkPort.afterError (e : RxError) (x : LinkPort) : LinkPort :=
  { x with
    framer := framerAfterError e
    body := []
    joinRun := 0
    counters := { x.counters with bad := bump x.counters.bad } }

/-- A receive error: the port's part and the LINK_NOISE evidence (R4). -/
def State.receiveError (s : State) (p : Port) (e : RxError) : State :=
  (s.updPort p (LinkPort.afterError e)).deliver (.evidence p.unit .linkNoise none)

/-- RECEIVE_ERROR (R4). During a break the receiver recognises nothing (R1). -/
def execReceiveError (p : Port) (e : RxError) (s : State) : Host.Outcome State Fault Refusal :=
  .next (if (s.port p).inBreak then s else s.receiveError p e)

/-- A protocol error (R5). -/
def LinkPort.protocolError (x : LinkPort) : LinkPort :=
  { x with joinRun := 0, counters := { x.counters with protocol := bump x.counters.protocol } }

/-- A malformed frame (R5). -/
def LinkPort.malformedFrame (x : LinkPort) : LinkPort :=
  { x with joinRun := 0, counters := { x.counters with malformed := bump x.counters.malformed } }

/-- A repeat (R6). -/
def LinkPort.repeated (x : LinkPort) : LinkPort :=
  { x with joinRun := 0, counters := { x.counters with repeats := bump x.counters.repeats } }

/-! ## Accepted frames (R6 to R8, R15) -/

/-- How a SEQ stands to the sequence reference (R6). -/
inductive SeqClass where
  | noReference | repeated | inSequence | gap
  deriving DecidableEq, Repr

/-- The class of a SEQ (R6). -/
def seqClass (ref : Option Byte) (seq : Byte) : SeqClass :=
  match ref with
  | none => .noReference
  | some r => if seq = r then .repeated else if seq = r + 1#8 then .inSequence else .gap

/-- The link state and join run after an accepted frame (R8). -/
def linkMove (link : LinkState) (run : Nat) (c : SeqClass) : LinkState × Nat :=
  match link with
  | .down | .silent => (.joining, 1)
  | .joining =>
    if c = .gap then (.joining, 1)
    else if Config.joinFrames ≤ run + 1 then (.up, Config.joinFrames)
    else (.joining, run + 1)
  | .up => (.up, run)

/-- The port after an accepted frame (R6, R7 steps 1, 2 and 4, R8). -/
def LinkPort.accepted (c : SeqClass) (seq : Byte) (x : LinkPort) : LinkPort :=
  { x with
    seqRef := some seq
    link := (linkMove x.link x.joinRun c).1
    joinRun := (linkMove x.link x.joinRun c).2
    counters := { x.counters with
      good := bump x.counters.good
      gaps := if c = .gap then bump x.counters.gaps else x.counters.gaps } }

/-- The link state notice owed when a port's link state changed (07 R106). -/
def linkNotice (p : Port) (before after : LinkState) : List Owed :=
  if before = after then [] else [.linkState p]

/-- The three link clean observations (R7, step 5). -/
def linkCleans (u : FaultUnit) : List Delivery :=
  [.clean u .linkLost, .clean u .linkNoise, .clean u .linkFrozen]

/-- The port's part of an accepted frame: steps 1 to 5 of R7. -/
def State.acceptFrame (s : State) (p : Port) (c : SeqClass) (seq : Byte) : State :=
  let before := (s.port p).link
  let s1 := (s.updPort p (LinkPort.accepted c seq)).start p.channel
  (s1.owe (linkNotice p before (linkMove before (s.port p).joinRun c).1)).deliverAll (linkCleans p.unit)

/-- An accepted COMMAND: handed to the service controller, or dropped when four replies wait (R15). -/
def State.handCommand (s : State) (i : Instr) : State :=
  if Config.fifoPlaces ≤ s.replies.length then s.updPort .cockpit (LinkPort.dropReplies 1)
  else s.owe [.command i]

/-- An accepted frame handed on (R7, step 6). -/
def State.handOn (s : State) (p : Port) (k : FrameKind) (seq : Byte) (payload : List Byte) : State :=
  match k with
  | .motorReport =>
    match p with
    | .front => s.takeMotorReport .front payload
    | .rear => s.takeMotorReport .rear payload
    | .pack | .cockpit => s
  | .packReport => s.takePackReport payload
  | .demand => s.takeDemand payload
  | .command => s.handCommand (commandOf seq payload)

/-- A frame of an accepted kind and sound structure meets the sequence reference (R6, R7). -/
def State.sequenceFrame (s : State) (p : Port) (k : FrameKind) (seq : Byte) (payload : List Byte) : State :=
  let c := seqClass (s.port p).seqRef seq
  if c = .repeated then (s.updPort p LinkPort.repeated).deliver (.evidence p.unit .linkFrozen none)
  else (s.acceptFrame p c seq).handOn p k seq payload

/-- The acceptance checks of a frame that passed the end-of-frame checks (R5). -/
def State.checkFrame (s : State) (p : Port) (body : List Byte) : State :=
  match acceptedKind p (bodyKind body) with
  | none => s.updPort p LinkPort.protocolError
  | some k =>
    if malformed k (bodyPayload body) then s.updPort p LinkPort.malformedFrame
    else s.sequenceFrame p k (bodySeq body) (bodyPayload body)

/-- The framer after a delimiter: BODY with an empty body (R2). -/
def LinkPort.opened (x : LinkPort) : LinkPort := { x with framer := .body, body := [] }

/-- A delimiter closes a body: nothing for an empty one, else the end-of-frame checks (R2, R3). -/
def State.closeFrame (s : State) (p : Port) (body : List Byte) : State :=
  match body with
  | [] => s.updPort p LinkPort.opened
  | _ :: _ =>
    match bodyError body with
    | some e => s.receiveError p e
    | none => (s.updPort p LinkPort.opened).checkFrame p body

/-- FRAME_RECEIVED (R3, R5 to R8). -/
def execFrameReceived (p : Port) (body : List Byte) (s : State) : Host.Outcome State Fault Refusal :=
  .next (if (s.port p).inBreak then s else s.closeFrame p body)

/-! ## The framer (R2) -/

/-- One byte appended to the body; a body of 45 bytes is overlength (R2). -/
def State.appendByte (s : State) (p : Port) (b : Byte) : State :=
  if Config.bodyMax ≤ (s.port p).body.length then s.receiveError p .overlength
  else s.updPort p fun x => { x with framer := .body, body := x.body ++ [b] }

/-- A byte or framing error in BODY (R2). -/
def State.inBody (s : State) (p : Port) (item : RxItem) : State :=
  match item with
  | .framingError => s.receiveError p .framingError
  | .byte b =>
    if b = Config.delimiter then s.closeFrame p (s.port p).body
    else if b = Config.escape then s.updPort p fun x => { x with framer := .escaped }
    else s.appendByte p b

/-- A byte or framing error in ESCAPED (R2). -/
def State.inEscaped (s : State) (p : Port) (item : RxItem) : State :=
  match item with
  | .framingError => s.receiveError p .framingError
  | .byte b =>
    if b = Config.delimiter then s.updPort p LinkPort.opened
    else if b = Config.escapedDelimiter then s.appendByte p Config.delimiter
    else if b = Config.escapedEscape then s.appendByte p Config.escape
    else s.receiveError p .badEscape

/-- A byte or framing error in HUNT (R2). -/
def State.inHunt (s : State) (p : Port) (item : RxItem) : State :=
  if item = .byte Config.delimiter then s.updPort p LinkPort.opened else s

/-- What the framer does with an item (R2). -/
def State.frameItem (s : State) (p : Port) (item : RxItem) : State :=
  match (s.port p).framer with
  | .hunt => s.inHunt p item
  | .body => s.inBody p item
  | .escaped => s.inEscaped p item

/-- BYTE_RECEIVED (R2). During a break the receiver recognises nothing (R1). -/
def execByteReceived (p : Port) (item : RxItem) (s : State) : Host.Outcome State Fault Refusal :=
  .next (if (s.port p).inBreak then s else s.frameItem p item)

/-! ## Breaks and silence (R9, R10) -/

/-- Whether a break finds the framer in a frame (R2). -/
def LinkPort.inFrame (x : LinkPort) : Bool :=
  match x.framer with
  | .hunt => false
  | .body => !x.body.isEmpty
  | .escaped => true

/-- The port after a break (R10, steps 1, 3, 4 and 7); the framer waits in HUNT for its end (R2). -/
def LinkPort.broken (x : LinkPort) : LinkPort :=
  { x with
    framer := .hunt
    body := []
    inBreak := true
    link := .down
    seqRef := none
    joinRun := 0
    grant := none
    counters := { x.counters with breaks := bump x.counters.breaks } }

/-- The reply FIFO emptied at a break of the cockpit port, each reply counted (R10, step 8). -/
def State.emptyReplies (s : State) (p : Port) : State :=
  match p with
  | .cockpit => { s.updPort .cockpit (LinkPort.dropReplies s.replies.length) with replies := [] }
  | .front | .rear | .pack => s

/-- Whether a break gives LINK_LOST evidence: it finds the link UP or SILENT (R10, step 2). -/
def LinkState.lostByBreak : LinkState → Bool
  | .up | .silent => true
  | .down | .joining => false

/-- The effects of a break on the link (R10). -/
def State.breakLink (s : State) (p : Port) : State :=
  let before := (s.port p).link
  let s1 := ((s.updPort p LinkPort.broken).arm p.channel).emptyReplies p
  let s2 : State := { s1 with obs := s1.obs.stale p }
  (s2.owe (linkNotice p before .down)).deliverAll
    (if before.lostByBreak then [.evidence p.unit .linkLost none] else [])

/-- BREAK (R10): first a receive error if it falls in a frame (R4). A break goes on until the line returns
high, and until then no further break is recognised (R1). -/
def execLineBreak (p : Port) (s : State) : Host.Outcome State Fault Refusal :=
  .next (if (s.port p).inBreak then s
    else if (s.port p).inFrame then (s.receiveError p .breakInFrame).breakLink p
    else s.breakLink p)

/-- The receiver and framer of a port when a break ends (R1, R2). -/
def LinkPort.breakEnded (x : LinkPort) : LinkPort := { x with inBreak := false, framer := .hunt, body := [] }

/-- BREAK_END (R1, R2): the framer is in HUNT when a break ends. -/
def execBreakEnd (p : Port) (s : State) : Host.Outcome State Fault Refusal :=
  .next (if (s.port p).inBreak then s.updPort p LinkPort.breakEnded else s)

/-- The port after its freshness channel ran out (R9). -/
def LinkPort.silenced (x : LinkPort) : LinkPort := { x with link := .silent, joinRun := 0 }

/-- Whether a freshness expiry acts on a link: it is UP or JOINING (R9). -/
def LinkState.heard : LinkState → Bool
  | .up | .joining => true
  | .down | .silent => false

/-- A freshness expiry taken in force (R9, 02 R26). -/
def State.silence (s : State) (p : Port) : State :=
  if (s.port p).link.heard then
    let s1 := s.updPort p LinkPort.silenced
    let s2 : State := { s1 with obs := s1.obs.stale p }
    (s2.owe [.linkState p]).deliver (.evidence p.unit .linkLost none)
  else s

/-- FRESHNESS_EXPIRY (R9). -/
def execFreshnessExpiry (p : Port) (s : State) : Host.Outcome State Fault Refusal :=
  .next (if s.expiryInForce p.channel then (s.afterExpiry p.channel).silence p
    else s.afterExpiry p.channel)

/-! ## The transmitter (R12, R14, 11 R190, R193) -/

/-- The payload of a MOTOR_GRANT (11 R193). -/
def MotorGrant.payload (g : MotorGrant) : List Byte :=
  [byteOf g.level.rank, flagByte g.isolated, byteOf g.driveCeil, byteOf g.regenCeil, byteOf g.driveCmd,
   byteOf g.regenCmd] ++ be16 g.speedCeil

/-- The payload of a PACK_GRANT (11 R193). -/
def PackGrant.payload (g : PackGrant) : List Byte :=
  [byteOf g.level.rank, byteOf g.expectedDrive, byteOf g.expectedRegen, flagByte g.packOpen]

/-- The unit and kind codes of the lead record, 255 when absent (11 R193). -/
def leadBytes (l : Option (FaultUnit × Kind)) : List Byte :=
  match l with
  | some (u, k) => [byteOf u.code, byteOf k.code]
  | none => [255#8, 255#8]

/-- The payload of a COCKPIT_STATUS (11 R193).
DESIGN CHOICE (log 35): the bits the table assigns no flag, 2 to 7 of the isolated set and 4 to 7 of the flags, are
sent as 0. -/
def CockpitStatus.payload (g : CockpitStatus) : List Byte :=
  [byteOf g.chip.code, byteOf g.applied.rank, byteOf g.target.rank,
   byteOf (flagBit 1 g.isoFront + flagBit 2 g.isoRear)] ++ be16 g.speedCeil
    ++ [byteOf g.contained,
        byteOf (flagBit 1 g.tableFull + flagBit 2 g.unsaved + flagBit 4 g.storeBusy
          + flagBit 8 g.lead.isSome)]
    ++ leadBytes g.lead
    ++ [byteOf g.depth, byteOf g.sweep.code, byteOf g.outcome.code, byteOf g.cleared, byteOf g.cursor,
        byteOf g.remaining]

/-- The KIND a grant is sent with (11 R190). -/
def Grant.kind : Grant → Byte
  | .motor _ => 0x20#8
  | .pack _ => 0x21#8
  | .status _ => 0x22#8

/-- The payload of a grant (11 R193). -/
def Grant.payload : Grant → List Byte
  | .motor g => g.payload
  | .pack g => g.payload
  | .status g => g.payload

/-- The transmitter begins a frame: its SEQ is the transmit sequence number, which then increases (R12). -/
def LinkPort.send (kind : Byte) (payload : List Byte) (x : LinkPort) : LinkPort :=
  { x with txLine := frameOnLine kind x.txSeq payload, txSeq := x.txSeq + 1#8 }

/-- The transmitter takes the grant, which empties the slot (R13, R14). -/
def LinkPort.sendGrant (g : Grant) (x : LinkPort) : LinkPort :=
  LinkPort.send g.kind g.payload { x with grant := none }

/-- The reply FIFO once the next untaken part of its oldest reply is taken: the reply leaves with its last
part (R14, 11 R195). -/
def repliesAfterPart (rest : List (List Byte)) (rs : List Reply) : List Reply :=
  match rest with
  | [] => rs
  | _ :: _ => ⟨rest⟩ :: rs

/-- The cockpit transmitter takes the next part of the oldest reply (R14, 11 R190, R195). -/
def State.sendPart (s : State) : State :=
  match s.replies with
  | [] => s
  | ⟨[]⟩ :: rs => { s with replies := rs }
  | ⟨part :: rest⟩ :: rs =>
    { s.updPort .cockpit (LinkPort.send 0x23#8 part) with replies := repliesAfterPart rest rs }

/-- TRANSMITTER_TAKE_FRAME (R14): the grant first, then on the cockpit port a reply part. -/
def execTransmitterTakeFrame (p : Port) (s : State) : Host.Outcome State Fault Refusal :=
  .next (match (s.port p).grant with
    | some g => s.updPort p (LinkPort.sendGrant g)
    | none =>
      match p with
      | .cockpit => s.sendPart
      | .front | .rear | .pack => s)

end Sys2Proof.Machine
end

