-- ==== Sys2Proof/Machine/Validation.lean ====
section
/-! DEFINITION. Validation of a working copy at a leave and of an image at a load (04 R60 to R62, 10 R179). -/

namespace Sys2Proof.Machine

open Sys2Proof

/-- The first parameter relation that fails, by its check number (R60). -/
def paramRelationFailure (c : Params) : Option Nat :=
  if ¬ c.thermStart + 5 ≤ c.thermStop then some 1
  else if ¬ c.walkSpeed ≤ c.limpSpeed then some 2
  else if ¬ (c.limpSpeed ≤ c.ecoSpeed ∧ c.limpSpeed ≤ c.tourSpeed ∧ c.limpSpeed ≤ c.sportSpeed) then some 3
  else if ¬ c.walkPct ≤ c.limpPct then some 4
  else if ¬ (c.ecoPct ≤ c.tourPct ∧ c.tourPct ≤ c.sportPct) then some 5
  else none

/-- A row satisfies both row relations (R61). -/
def Row.relationsHold (r : Row) : Bool :=
  (!r.packOpen || r.floor == .halt) && (!(r.enabled && r.isolate) || decide (1 ≤ r.floor.rank))

/-- The first kind whose row breaks a row relation (R61). -/
def rowRelationFailure (r : Rows) : Option Kind := Kind.all.find? fun k => !(r.get k).relationsHold

/-- The relations of a copy, parameters first (R62 at a leave). -/
def Copy.relationFailure (c : Copy) : Option Failure :=
  match paramRelationFailure c.params with
  | some n => some ⟨.paramRelation, n⟩
  | none => (rowRelationFailure c.rows).map fun k => ⟨.rowRelation, k.code⟩

/-- The first parameter of an image outside its range (R62, 1). -/
def imageParamFailure (img : List Byte) : Option Failure :=
  (Param.all.find? fun p => !p.inRange (imageParam img p)).map fun p => ⟨.paramRange, p.number⟩

/-- The first row of an image with a field outside its range (R62, 2). -/
def imageRowFailure (img : List Byte) : Option Failure :=
  (Kind.all.find? fun k => (imageRow img k).isNone).map fun k => ⟨.rowRange, k.code⟩

/-- The first locked row of an image that differs from the built-in row (R62, 3; R51). -/
def imageLockedFailure (img : List Byte) : Option Failure :=
  (Kind.all.find? fun k => k.isLocked && (imageRow img k != some (Rows.builtin.get k))).map
    fun k => ⟨.rowRange, k.code⟩

/-- The range and locked-row tests of an image (R62, 1 to 3). -/
def imageRangeFailure (img : List Byte) : Option Failure :=
  (imageParamFailure img).or ((imageRowFailure img).or (imageLockedFailure img))

/-- The load validation of an image (R62 at a load). -/
def imageFailure (img : List Byte) : Option Failure :=
  (imageRangeFailure img).or (imageCopy img).relationFailure

/-- The tests of an image that was read: CRC, header, content (10 R179). -/
def testImage (img : List Byte) : ImageOutcome :=
  if imageCrcGood img then
    if imageHeaderGood img then
      match imageFailure img with
      | none => .valid (imageCopy img)
      | some f => .invalid f
    else .crc
  else .crc

/-- The content of a buffer a SAVE has written, as a copy (10 R183). A SAVE composes its buffer from a
working copy whose parameters are in range and whose locked rows are built-in; a buffer of another kind, which
no SAVE composes, changes no copy (log 21). -/
def bufferCopy (img : List Byte) (committed : Copy) : Copy :=
  match (imageParamFailure img).or (imageLockedFailure img) with
  | none => imageCopy img
  | some _ => committed

end Sys2Proof.Machine
end

