-- ==== Sys2Proof/Machine/Store.lean ====
section
/-! DEFINITION. The configuration store controller (chapter 10): requests and arbitration, LOAD, SAVE, RELOAD,
LATCH_WRITE, and the meanings of the commands that end a bus transaction. -/

namespace Sys2Proof.Machine

open Sys2Proof

/-- The store changed. -/
def State.updStore (s : State) (f : Store → Store) : State := { s with store := f s.store }

/-! ## The bus (R176) -/

/-- The bytes of a page of the image buffer (R182). -/
def pageBytes (buffer : List Byte) (page : Nat) : List Byte :=
  (buffer.drop (Config.pageSize * page)).take Config.pageSize

/-- The transaction in progress on the I2C pair, none while no operation uses the bus (R176, R179, R180, R182
to R185): the operation's step and the buffers determine it. -/
def Store.bus (x : Store) : Option BusTransaction :=
  match x.op with
  | .loadImage | .saveReadback | .reloadRead => some (.sequentialRead 0 Config.imageLength)
  | .loadLatches _ => some (.sequentialRead Config.latchBase Config.latchLength)
  | .savePage n => some (.pageWrite (Config.pageSize * n) (pageBytes x.imageBuffer n))
  | .latchPage => some (.pageWrite Config.latchBase x.latchBuffer)
  | .none | .saveWait _ | .latchWait => Option.none

/-- What the controller sends in a transaction: the bus address, the memory address in two bytes, high byte
first, and the data of a page write (R176). -/
def BusTransaction.sent : BusTransaction → BusSent
  | .pageWrite a data => ⟨Config.memoryDevice, be16 a ++ data⟩
  | .sequentialRead a _ => ⟨Config.memoryDevice, be16 a⟩

/-- A step of an operation begun. Where it uses the bus, its transaction begins with it: a memory that is
writing a page acknowledges nothing, and so refuses it (R176, R188; log 11). -/
def State.setOp (s : State) (op : StoreOp) : State :=
  s.updStore fun x =>
    { x with op := op, refused := (Store.bus { x with op := op }).isSome && decide (0 < s.memoryBusy) }

/-- Whether the memory acknowledged every byte of the page write in progress: one it refused, it did not (R176). -/
def Store.acknowledged (x : Store) (acknowledged : Bool) : Bool := acknowledged && !x.refused

/-- What the sequential read in progress brings: its bytes, or nothing for a missing acknowledge (R176). -/
def State.readBus (s : State) (r : BusRead) : Option (List Byte) :=
  if s.store.refused then none
  else match s.store.bus, r with
    | some (.sequentialRead a n), .returned altered => some (returnedBytes s.memory altered a n)
    | some (.sequentialRead _ _), .noAcknowledge => none
    | some (.pageWrite _ _), _ | none, _ => none

/-- A page transfer completes: the bytes are in the memory, which writes them internally for 6 ms, and
STORE_WAIT is started (R176, R182, R185; log 10, 11). -/
def State.writePage (s : State) (address : Nat) (bytes : List Byte) : State :=
  State.start { s with memory := s.memory.writeAll address bytes, memoryBusy := Config.pageWriteTime }
    .storeWait

/-- The page write in progress completes, every byte acknowledged (R176). -/
def State.completeWrite (s : State) : State :=
  match s.store.bus with
  | some (.pageWrite a data) => s.writePage a data
  | some (.sequentialRead _ _) | none => s

/-- STORE_WAIT has run out, and its 6 ms cover the memory's internal write: the write is over (R176; log 11). -/
def State.memoryReady (s : State) : State := { s with memoryBusy := 0 }

/-! ## Arbitration (R178) -/

/-- A LATCH_WRITE begins: the snapshot is taken and the latch buffer composed (R178, R185, 11 R199). -/
def State.beginLatch (s : State) : State :=
  (s.updStore fun x => { x with
    latchPending := false
    latchBuffer := encodeLatches (s.table.snapshot s.now) }).setOp .latchPage

/-- A free controller with a pending flag begins one operation, a LATCH_WRITE first (R178). -/
def State.beginPending (s : State) : State :=
  if s.store.op = .none then
    if s.store.latchPending then s.beginLatch
    else if s.store.savePending then (s.updStore fun x => { x with savePending := false }).setOp (.savePage 0)
    else if s.store.reloadPending then (s.updStore fun x => { x with reloadPending := false }).setOp .reloadRead
    else s
  else s

/-- An operation ends: the controller is free and begins what is pending (R178). -/
def State.endOperation (s : State) : State := (s.setOp .none).beginPending

/-- LATCH_REWRITE_REQUEST (R178). -/
def execLatchRewriteRequest (s : State) : Host.Outcome State Fault Refusal :=
  .next ((s.took (· == .latchRequest)).updStore fun x => { x with latchPending := true }).beginPending

/-- A SAVE handed over: the image is fixed (R178, 11 R197). -/
def State.handSave (s : State) : State :=
  (s.updStore fun x => { x with
    imageBuffer := encodeImage s.working, savePending := true, busy := true, replaced := false }).beginPending

/-- A RELOAD handed over (R178). -/
def State.handReload (s : State) : State :=
  (s.updStore fun x => { x with reloadPending := true, busy := true }).beginPending

/-! ## Verdicts (R186, 04 R48) -/

/-- STORE_FAULT evidence for CORE with a cause. -/
def storeFault (c : StoreCause) : Delivery := .evidence .core .storeFault (some (.cause c))

/-- A STORE_FAULT clean observation for CORE. -/
def storeClean : Delivery := .clean .core .storeFault

/-- The STORE_FAULT cause of an image outcome, none for a valid one (R179). -/
def ImageOutcome.cause : ImageOutcome → Option StoreCause
  | .valid _ => none
  | .noMemory => some .noMemory
  | .crc => some .imageCrc
  | .invalid _ => some .imageInvalid

/-- The STORE_FAULT cause of a latch-list outcome (R180). -/
def LatchOutcome.cause : LatchOutcome → Option StoreCause
  | .valid _ => none
  | .noMemory => some .noMemory
  | .invalid => some .latchesInvalid

/-- The verdicts of a LOAD (R181, step 3); with no memory the latch list was not read. -/
def loadVerdicts (i : ImageOutcome) (l : LatchOutcome) : List Delivery :=
  match i with
  | .noMemory => [storeFault .noMemory]
  | .valid _ | .crc | .invalid _ =>
    match i.cause.toList ++ l.cause.toList with
    | [] => [storeClean]
    | c :: cs => (c :: cs).map storeFault

/-! ## LOAD (R179 to R181) -/

/-- What a read of the image brings: its outcome and the image buffer after it (R176, R179).
DESIGN CHOICE (log 34): the manual does not say what the buffer holds after a read that is not acknowledged; it
stays as it was. -/
def readImage (buffer : List Byte) : Option (List Byte) → ImageOutcome × List Byte
  | none => (.noMemory, buffer)
  | some bytes => (testImage bytes, bytes)

/-- What a read of the latch list brings (R176, R180).
DESIGN CHOICE (log 34): after a read that is not acknowledged the latch buffer stays as it was. -/
def readLatches (buffer : List Byte) : Option (List Byte) → LatchOutcome × List Byte
  | none => (.noMemory, buffer)
  | some bytes => (testLatches bytes, bytes)

/-- The copy a LOAD puts in use (R181, step 1; 04 R58). -/
def ImageOutcome.copy : ImageOutcome → Copy
  | .valid c => c
  | .noMemory | .crc | .invalid _ => Copy.builtin

/-- Both copies replaced, the unsaved flag clear (R181, R184, 04 R58, R59). -/
def State.replaceCopies (s : State) (c : Copy) : State :=
  State.changeCopy { s with committed := c, unsaved := false } c

/-- The entries a LOAD brings back (R180, R181). -/
def LatchOutcome.entries : LatchOutcome → List LatchEntry
  | .valid es => es
  | .noMemory | .invalid => []

/-- The results of a LOAD handed on (R181). -/
def State.loadResults (s : State) (i : ImageOutcome) (l : LatchOutcome) : State :=
  let s1 := s.replaceCopies i.copy
  let s2 := s1.tableEvent (s1.table.restore s1.now l.entries)
  ((s2.deliverAll (loadVerdicts i l)).owe [.endOfLoading]).endOperation

/-- LOAD_IMAGE_READ_DONE (R179): the latch list is read next, unless there is no memory. -/
def execLoadImageReadDone (r : BusRead) (s : State) : Host.Outcome State Fault Refusal :=
  .next (if s.store.op = .loadImage then
      let out := readImage s.store.imageBuffer (s.readBus r)
      let s1 := s.updStore fun x => { x with imageBuffer := out.2 }
      if out.1 = .noMemory then s1.loadResults .noMemory .noMemory
      else s1.setOp (.loadLatches out.1)
    else s)

/-- LOAD_LATCH_LIST_READ_DONE (R180, R181). -/
def execLoadLatchListReadDone (r : BusRead) (s : State) : Host.Outcome State Fault Refusal :=
  .next (match s.store.op with
    | .loadLatches i =>
      let out := readLatches s.store.latchBuffer (s.readBus r)
      (s.updStore fun x => { x with latchBuffer := out.2 }).loadResults i out.1
    | .none | .loadImage | .savePage _ | .saveWait _ | .saveReadback | .reloadRead | .latchPage
    | .latchWait => s)

/-! ## SAVE (R182, R183) -/

/-- A SAVE or RELOAD ends: its verdict, its end report, and the controller is free (R183, R184). -/
def State.endReported (s : State) (d : Delivery) (e : StoreEnd) : State :=
  ((s.deliver d).owe [.storeEnd e]).endOperation

/-- A SAVE that failed (R183). -/
def State.saveFailed (s : State) : State := s.endReported (storeFault .saveVerify) .failed

/-- SAVE_PAGE_WRITE_DONE (R182). -/
def execSavePageWriteDone (acknowledged : Bool) (s : State) : Host.Outcome State Fault Refusal :=
  .next (match s.store.op with
    | .savePage n =>
      if s.store.acknowledged acknowledged then s.completeWrite.setOp (.saveWait n) else s.saveFailed
    | .none | .loadImage | .loadLatches _ | .saveWait _ | .saveReadback | .reloadRead | .latchPage
    | .latchWait => s)

/-- A STORE_WAIT expiry taken in force (R182, R185). -/
def State.storeWaited (s : State) : State :=
  match s.store.op with
  | .saveWait n => s.memoryReady.setOp (if n < 7 then .savePage (n + 1) else .saveReadback)
  | .latchWait => (s.memoryReady.deliver storeClean).endOperation
  | .none | .loadImage | .loadLatches _ | .savePage _ | .saveReadback | .reloadRead | .latchPage => s

/-- STORE_WAIT_EXPIRY (R182, R185). -/
def execStoreWaitExpiry (s : State) : Host.Outcome State Fault Refusal :=
  .next (if s.expiryInForce .storeWait then (s.afterExpiry .storeWait).storeWaited
    else s.afterExpiry .storeWait)

/-- Whether the read-back of a SAVE equals the image buffer byte for byte (R183). -/
def State.readbackMatches (s : State) (r : BusRead) : Bool := s.readBus r == some s.store.imageBuffer

/-- A SAVE whose read-back matched (R183, 04 R58). -/
def State.saveMatched (s : State) : State :=
  State.endReported
    { s with committed := bufferCopy s.store.imageBuffer s.committed, unsaved := s.store.replaced }
    storeClean .ok

/-- SAVE_READBACK_DONE (R183). -/
def execSaveReadbackDone (r : BusRead) (s : State) : Host.Outcome State Fault Refusal :=
  .next (if s.store.op = .saveReadback then
      if s.readbackMatches r then s.saveMatched else s.saveFailed
    else s)

/-! ## RELOAD and LATCH_WRITE (R184, R185) -/

/-- What the end of a RELOAD hands on (R184). -/
def State.reloadEnd (s : State) : ImageOutcome → State
  | .valid c => (s.replaceCopies c).endReported storeClean .ok
  | .noMemory => s.endReported (storeFault .noMemory) .failed
  | .crc => s.endReported (storeFault .imageCrc) .failed
  | .invalid f => s.endReported (storeFault .imageInvalid) (.invalid f)

/-- RELOAD_READ_DONE (R184). -/
def execReloadReadDone (r : BusRead) (s : State) : Host.Outcome State Fault Refusal :=
  .next (if s.store.op = .reloadRead then
      let out := readImage s.store.imageBuffer (s.readBus r)
      (s.updStore fun x => { x with imageBuffer := out.2 }).reloadEnd out.1
    else s)

/-- LATCH_PAGE_WRITE_DONE (R185). -/
def execLatchPageWriteDone (acknowledged : Bool) (s : State) : Host.Outcome State Fault Refusal :=
  .next (if s.store.op = .latchPage then
      if s.store.acknowledged acknowledged then s.completeWrite.setOp .latchWait
      else (s.deliver (storeFault .saveVerify)).endOperation
    else s)

end Sys2Proof.Machine
end

