-- ==== Sys2Proof/Machine/Service.lean ====
section
/-! DEFINITION. The service controller (chapter 9): replies, queries, service commands, the session and its
leaves, and the end reports of the store. -/

namespace Sys2Proof.Machine

open Sys2Proof

/-! ## Replies (11 R194, R195) -/

/-- The header of a reply part (R194). -/
def replyHeader (seq code : Byte) (r : Result) (part parts : Nat) : List Byte :=
  [seq, code, byteOf r.code, byteOf (16 * part + parts)]

/-- A reply of one part (R195). -/
def singleReply (seq code : Byte) (r : Result) (data : List Byte) : Reply :=
  ⟨[replyHeader seq code r 0 1 ++ data]⟩

/-- A reply without data (R195). -/
def plainReply (seq code : Byte) (r : Result) : Reply := singleReply seq code r []

/-- An INVALID reply (R195). -/
def invalidReply (seq code : Byte) (f : Failure) : Reply :=
  singleReply seq code .invalid [byteOf f.cls.code, byteOf f.index]

/-- An OK reply of two parts (R195). -/
def twoPartReply (seq code : Byte) (a b : List Byte) : Reply :=
  ⟨[replyHeader seq code .ok 0 2 ++ a, replyHeader seq code .ok 1 2 ++ b]⟩

/-- A COMMAND taken: the hand-over owed for it, if any, is consumed (R153; log 20). -/
def State.takeCommand (s : State) (i : Instr) : State := s.took (· == .command i)

/-- A query answered: its reply is placed, nothing else changes (R153 to R155). -/
def State.answer (s : State) (i : Instr) (r : Reply) : State := (s.takeCommand i).placeReply r

/-! ## Queries (R155) -/

/-- The value of a record as its two bytes (R195). -/
def valueBytes : Option EvidenceValue → List Byte
  | none => [0#8, 0#8]
  | some (.number n) => be16Signed n
  | some (.cause c) => be16 c.code

/-- A record as QUERY_RECORDS gives it, from offset 7 (R195).
DESIGN CHOICE (log 35): bits 6 and 7 of its flags, which the table does not assign, are sent as 0. -/
def recordBytes (slot : Nat) (r : FaultRecord) : List Byte :=
  [byteOf slot, byteOf r.unit.code, byteOf r.kind.code, byteOf r.state.code, byteOf r.run,
   byteOf r.occurrences,
   byteOf (r.policy.code + flagBit 4 r.escalated + flagBit 8 r.mark + flagBit 16 r.firstConfirmed.isSome
     + flagBit 32 r.value.isSome)]
    ++ be32 (r.firstConfirmed.getD 0#32) ++ be32 r.lastEvidence ++ valueBytes r.value ++ be16 r.age

/-- The three bytes all parts of a QUERY_RECORDS reply share (R195).
DESIGN CHOICE (log 35): bit 6 of the first, which the table does not assign, is sent as 0. -/
def recordsHead (t : FaultTable) (found : List (Nat × FaultRecord)) : List Byte :=
  byteOf (nextSlot found + flagBit 128 t.tableFull) :: be16 t.lost

/-- The parts of a QUERY_RECORDS reply that carry records, numbered from `i` (R195). -/
def recordParts (seq : Byte) (head : List Byte) (n : Nat) : Nat → List (Nat × FaultRecord) → List (List Byte)
  | _, [] => []
  | i, (slot, r) :: rest =>
    (replyHeader seq 0x01#8 .ok i n ++ head ++ recordBytes slot r) :: recordParts seq head n (i + 1) rest

/-- The OK reply to QUERY_RECORDS (R155, R195). -/
def recordsReply (seq : Byte) (t : FaultTable) (start : Nat) : Reply :=
  let found := t.recordsFrom start
  match found with
  | [] => singleReply seq 0x01#8 .ok (recordsHead t found)
  | _ :: _ => ⟨recordParts seq (recordsHead t found) found.length 0 found⟩

/-- QUERY_RECORDS (R155). -/
def execQueryRecords (seq start : Byte) (s : State) : Host.Outcome State Fault Refusal :=
  .next (s.answer (.queryRecords seq start)
    (if start.toNat < Config.slotCount then recordsReply seq s.table start.toNat
      else plainReply seq 0x01#8 .badArgument))

/-- The counters of a port in reply order (R195). -/
def counterBytes (c : Counters) : List Byte :=
  [c.good, c.bad, c.protocol, c.malformed, c.repeats, c.gaps, c.breaks, c.replaced, c.dropped].flatMap be16

/-- A claim set as flags, bit i for the i-th claimable kind of the unit (R195).
DESIGN CHOICE (log 35): the bits that stand for no claim, 7 of the pack and 3 to 7 of the cockpit, are sent as 0. -/
def claimFlags (u : FaultUnit) (claims : List Kind) : Byte :=
  byteOf (((claimable u).zipIdx.map fun (k, i) => flagBit (2 ^ i) (claims.contains k)).foldl (· + ·) 0)

/-- A motor record as a QUERY_LINK reply gives it, as given to readers (R30, R195). -/
def motorRecordBytes (u : FaultUnit) (r : MotorRecord) : List Byte :=
  flagByte r.fresh :: (be32 r.arrival ++ be16Signed r.dcCurrent ++ [byteOf r.phaseCurrent] ++ be16 r.speed
    ++ [tempByte r.motorTemp, tempByte r.inverterTemp] ++ be16 r.busVoltage
    ++ [byteOf r.view.cDrive, byteOf r.view.cRegen, byteOf r.gate.code, claimFlags u r.claims])

/-- The pack record as a QUERY_LINK reply gives it (R30, R195). -/
def packRecordBytes (r : PackRecord) : List Byte :=
  flagByte r.fresh :: (be32 r.arrival ++ be16 r.voltage ++ be16Signed r.current
    ++ [byteOf r.iDis, byteOf r.iChg, byteOf r.soc] ++ be16 r.minCell
    ++ [tempByte r.maxCellTemp, byteOf r.contactor.code, claimFlags .pack r.claims])

/-- The cockpit record as a QUERY_LINK reply gives it (R30, R195). -/
def cockpitRecordBytes (r : CockpitRecord) : List Byte :=
  flagByte r.fresh :: (be32 r.arrival ++ be16 r.view.demand ++ be16 r.view.brake
    ++ [byteOf r.profile.code, claimFlags .cockpit r.claims])

/-- The record part of a QUERY_LINK reply, after the unit (R30, R195). -/
def Observations.replyBytes (o : Observations) : Port → List Byte
  | .front => motorRecordBytes .front o.front
  | .rear => motorRecordBytes .rear o.rear
  | .pack => packRecordBytes o.pack
  | .cockpit => cockpitRecordBytes o.cockpit

/-- The OK reply to QUERY_LINK (R155, R195). -/
def State.linkReply (s : State) (seq : Byte) (p : Port) : Reply :=
  twoPartReply seq 0x02#8 (byteOf (s.port p).link.code :: counterBytes (s.port p).counters)
    (byteOf p.unit.code :: s.obs.replyBytes p)

/-- The port a QUERY_LINK unit byte names, none for CORE and above (R155, R192). -/
def linkArg (b : Byte) : Option Port := (FaultUnit.ofCode b.toNat).bind FaultUnit.port

/-- QUERY_LINK (R155). -/
def execQueryLink (seq unit : Byte) (s : State) : Host.Outcome State Fault Refusal :=
  .next (s.answer (.queryLink seq unit)
    (match linkArg unit with
      | some p => s.linkReply seq p
      | none => plainReply seq 0x02#8 .badArgument))

/-- QUERY_ROW (R155). -/
def execQueryRow (seq kind : Byte) (s : State) : Host.Outcome State Fault Refusal :=
  .next (s.answer (.queryRow seq kind)
    (match Kind.ofCode kind.toNat with
      | some k => singleReply seq 0x03#8 .ok
          (rowBytesList (s.working.rows.get k).encode ++ rowBytesList (s.committed.rows.get k).encode
            ++ [flagByte k.isLocked])
      | none => plainReply seq 0x03#8 .badArgument))

/-- QUERY_PARAM (R155). -/
def execQueryParam (seq number : Byte) (s : State) : Host.Outcome State Fault Refusal :=
  .next (s.answer (.queryParam seq number)
    (match Param.ofNumber number.toNat with
      | some p => singleReply seq 0x04#8 .ok
          (be16 (s.working.params.get p) ++ be16 (s.committed.params.get p))
      | none => plainReply seq 0x04#8 .badArgument))

/-- The stage values of one budget between its shares and its ceilings, as a reply carries them (R195). -/
def Split.limitBytes (x : Split) : List Byte :=
  [byteOf x.limFront, byteOf x.limRear, byteOf x.fitFront, byteOf x.fitRear, byteOf x.aimFront,
   byteOf x.aimRear, byteOf x.ceilFront, byteOf x.ceilRear]

/-- A budget and its shares (R195). -/
def Split.shareBytes (x : Split) : List Byte := [byteOf x.budget, byteOf x.shareFront, byteOf x.shareRear]

/-- The first part of a QUERY_ENVELOPE reply (R195).
DESIGN CHOICE (log 35): bits 2 to 6 of its flags, which the table does not assign, are sent as 0. -/
def LastComputation.firstPart (x : LastComputation) : List Byte :=
  [byteOf x.chip.code, byteOf x.profile.code, byteOf x.level.rank,
   byteOf (flagBit 1 x.isoFront + flagBit 2 x.isoRear + flagBit 128 x.valid), byteOf x.p]
    ++ be16 x.vCeil ++ x.drive.shareBytes ++ be16 x.kFront ++ be16 x.kRear ++ x.drive.limitBytes

/-- The second part of a QUERY_ENVELOPE reply (R195). -/
def LastComputation.secondPart (x : LastComputation) : List Byte :=
  x.regen.shareBytes ++ x.regen.limitBytes ++ be16 x.d ++ be16 x.b ++ be16 x.v
    ++ [byteOf x.cmdFront, byteOf x.cmdRear, byteOf x.regFront, byteOf x.regRear]

/-- QUERY_ENVELOPE (R155, 08 R151). -/
def execQueryEnvelope (seq : Byte) (s : State) : Host.Outcome State Fault Refusal :=
  .next (s.answer (.queryEnvelope seq)
    (twoPartReply seq 0x05#8 s.envelope.last.firstPart s.envelope.last.secondPart))

/-- A COMMAND whose code names no command (R153). -/
def execUnknownCommand (seq code : Byte) (s : State) : Host.Outcome State Fault Refusal :=
  .next (s.answer (.unknownCommand seq code) (plainReply seq code .unknownCommand))

/-! ## Service commands (R153, R154, R157) -/

/-- What a service command taken in SERVICE leaves: the state, and its reply unless that is deferred. -/
structure Carried where
  state : State
  reply : Option Reply
  deriving DecidableEq, Repr

/-- The reply of a service command placed, if it is not deferred (R153). -/
def Carried.placed (c : Carried) : State :=
  match c.reply with
  | some r => c.state.placeReply r
  | none => c.state

/-- SERVICE_IDLE restarted at the end of a service command taken in SERVICE (R157), the reply placed. -/
def Carried.finish (c : Carried) : State := Carried.placed { c with state := c.state.start .serviceIdle }

/-- A command refused with nothing changed. -/
def State.refused (s : State) (seq code : Byte) (r : Result) : Carried := ⟨s, some (plainReply seq code r)⟩

/-- A command carried out, with the reply OK. -/
def State.done (s : State) (seq code : Byte) : Carried := ⟨s, some (plainReply seq code .ok)⟩

/-- The checks of R154 on the chip state: outside SERVICE a service command is refused REFUSED_STATE and
leaves SERVICE_IDLE as it is; in SERVICE it ends with the restart of SERVICE_IDLE (R157). -/
def State.inService (s : State) (i : Instr) (seq code : Byte) (f : State → Carried) : State :=
  let s1 := s.takeCommand i
  if s1.control.chip = .service then (f s1).finish else (s1.refused seq code .refusedState).placed

/-- The store busy check (R154, R165). -/
def State.unlessBusy (s : State) (seq code : Byte) (f : State → Carried) : Carried :=
  if s.store.busy then s.refused seq code .busy else f s

/-- The checks of SERVICE_ENTER, the first to fail (R156). -/
def State.enterCheck (s : State) : Option Result :=
  if s.control.chip ≠ .drive ∧ s.control.chip ≠ .standby then some .refusedState
  else if s.switches.stand.asserted = false then some .notParked
  else if (s.obs.front.fresh = true ∧ 10 ≤ s.obs.front.speed)
      ∨ (s.obs.rear.fresh = true ∧ 10 ≤ s.obs.rear.speed) then some .moving
  else if s.obs.cockpit.view.demand ≠ 0 then some .demandHeld
  else none

/-- The entry to SERVICE (R156, 07 R111). -/
def State.enterService (s : State) : State :=
  ((s.stopGatherIfStandby.setChip .service).recompute).start .serviceIdle

/-- SERVICE_ENTER (R156); one refused in SERVICE restarts SERVICE_IDLE like every service command there (R157). -/
def execServiceEnter (seq : Byte) (s : State) : Host.Outcome State Fault Refusal :=
  let s1 := s.takeCommand (.serviceEnter seq)
  .next (match s1.enterCheck with
    | some r =>
      if s1.control.chip = .service then (s1.refused seq 0x10#8 r).finish else (s1.refused seq 0x10#8 r).placed
    | none => (s1.enterService.done seq 0x10#8).placed)

/-- A row written into the working copy (R159, 04 R53, R54). -/
def State.writeRow (s : State) (k : Kind) (r : Row) : State :=
  State.changeCopy { s with unsaved := true } { s.working with rows := s.working.rows.set k r }

/-- The checks and effect of ROW_WRITE after those of R154 (R159). -/
def State.rowWrite (s : State) (seq kind : Byte) (b : RowBytes) : Carried :=
  match Kind.ofCode kind.toNat with
  | none => s.refused seq 0x11#8 .badArgument
  | some k =>
    if k.isLocked then s.refused seq 0x11#8 .lockedRow
    else match Row.decode b with
      | none => ⟨s, some (invalidReply seq 0x11#8 ⟨.rowRange, k.code⟩)⟩
      | some r => (s.writeRow k r).done seq 0x11#8

/-- ROW_WRITE (R159). -/
def execRowWrite (seq kind : Byte) (b : RowBytes) (s : State) : Host.Outcome State Fault Refusal :=
  .next (s.inService (.rowWrite seq kind b) seq 0x11#8 fun x =>
    x.unlessBusy seq 0x11#8 fun y => y.rowWrite seq kind b)

/-- A parameter written into the working copy (R160). -/
def State.writeParam (s : State) (p : Param) (v : Nat) : State :=
  { s with working := { s.working with params := s.working.params.set p v }, unsaved := true }

/-- The checks and effect of PARAM_WRITE after those of R154 (R160). -/
def State.paramWrite (s : State) (seq number : Byte) (value : Half) : Carried :=
  match Param.ofNumber number.toNat with
  | none => s.refused seq 0x12#8 .badArgument
  | some p =>
    if p.inRange value.toNat then (s.writeParam p value.toNat).done seq 0x12#8
    else ⟨s, some (invalidReply seq 0x12#8 ⟨.paramRange, p.number⟩)⟩

/-- PARAM_WRITE (R160). -/
def execParamWrite (seq number : Byte) (value : Half) (s : State) : Host.Outcome State Fault Refusal :=
  .next (s.inService (.paramWrite seq number value) seq 0x12#8 fun x =>
    x.unlessBusy seq 0x12#8 fun y => y.paramWrite seq number value)

/-- A SAVE handed over with its deferred reply (R163). -/
def State.beginSave (s : State) (seq : Byte) : Carried :=
  ⟨State.handSave { s with deferred := some (.save seq) }, none⟩

/-- STORE_SAVE (R163). -/
def execStoreSave (seq : Byte) (s : State) : Host.Outcome State Fault Refusal :=
  .next (s.inService (.storeSave seq) seq 0x13#8 fun x =>
    x.unlessBusy seq 0x13#8 fun y => y.beginSave seq)

/-- A RELOAD handed over with its deferred reply (R164). -/
def State.beginReload (s : State) (seq : Byte) : Carried :=
  ⟨State.handReload { s with deferred := some (.reload seq) }, none⟩

/-- STORE_RELOAD (R164). -/
def execStoreReload (seq : Byte) (s : State) : Host.Outcome State Fault Refusal :=
  .next (s.inService (.storeReload seq) seq 0x14#8 fun x =>
    x.unlessBusy seq 0x14#8 fun y => y.beginReload seq)

/-- The record of a slot freed by RECORD_CLEAR; the controller takes the containment change within the
command, so that the reply describes the state after it (R153, R166; log 7). -/
def State.freeSlot (s : State) (i : Nat) : State :=
  let out := s.table.free i
  let s1 : State := { s with
    table := out.table
    owed := s.owed ++ (if out.request then [.latchRequest] else []) }
  if out.announce then s1.recompute else s1

/-- The checks and effect of RECORD_CLEAR in SERVICE (R166). -/
def State.recordClear (s : State) (seq slot : Byte) : Carried :=
  if slot.toNat < Config.slotCount then
    match s.table.slot slot.toNat with
    | none => s.refused seq 0x15#8 .noRecord
    | some r =>
      match r.state with
      | .pending | .active | .clearing => s.refused seq 0x15#8 .stillLive
      | .latched | .dormant => (s.freeSlot slot.toNat).done seq 0x15#8
  else s.refused seq 0x15#8 .badArgument

/-- RECORD_CLEAR (R166). -/
def execRecordClear (seq slot : Byte) (s : State) : Host.Outcome State Fault Refusal :=
  .next (s.inService (.recordClear seq slot) seq 0x15#8 fun x => x.recordClear seq slot)

/-- The sweep a SWEEP_START asks for, none when an argument names no value (R167, 11 R192). -/
def sweepArgs (t : FaultTable) (start unit kind mode count : Byte) : Option FaultTable :=
  match unitFilterArg unit, kindFilterArg kind, SweepMode.ofCode mode.toNat with
  | some u, some k, some m =>
    if start.toNat < Config.slotCount ∧ 1 ≤ count.toNat ∧ count.toNat ≤ Config.slotCount then
      some (t.sweepStart u k m start.toNat count.toNat)
    else none
  | _, _, _ => none

/-- The checks and effect of SWEEP_START in SERVICE (R167). -/
def State.startSweep (s : State) (seq start unit kind mode count : Byte) : Carried :=
  match sweepArgs s.table start unit kind mode count with
  | none => s.refused seq 0x16#8 .badArgument
  | some t =>
    if s.table.sweep.state = .idle then State.done { s with table := t } seq 0x16#8
    else s.refused seq 0x16#8 .busy

/-- SWEEP_START (R167). -/
def execSweepStart (seq start unit kind mode count : Byte) (s : State) :
    Host.Outcome State Fault Refusal :=
  .next (s.inService (.sweepStart seq start unit kind mode count) seq 0x16#8 fun x =>
    x.startSweep seq start unit kind mode count)

/-- The effect of SWEEP_RESUME in SERVICE (R168, 05 R88). -/
def State.resumeSweep (s : State) (seq : Byte) : Carried :=
  if s.table.sweep.state = .suspended then
    State.done { s with table := { s.table with sweep := { s.table.sweep with state := .running } } } seq 0x17#8
  else s.refused seq 0x17#8 .refusedState

/-- SWEEP_RESUME (R168). -/
def execSweepResume (seq : Byte) (s : State) : Host.Outcome State Fault Refusal :=
  .next (s.inService (.sweepResume seq) seq 0x17#8 fun x => x.resumeSweep seq)

/-- The effect of SWEEP_CANCEL in SERVICE (R168, 05 R86). -/
def State.cancelSweep (s : State) (seq : Byte) : Carried :=
  if s.table.sweep.state = .idle then s.refused seq 0x18#8 .refusedState
  else State.done { s with table := s.table.endSweep .cancelled } seq 0x18#8

/-- SWEEP_CANCEL (R168). -/
def execSweepCancel (seq : Byte) (s : State) : Host.Outcome State Fault Refusal :=
  .next (s.inService (.sweepCancel seq) seq 0x18#8 fun x => x.cancelSweep seq)

/-- The override entry that four argument bytes spell, none when one names no value (R169, 11 R192). -/
def overrideArgs (isolateFront isolateRear floor inhibit : Byte) : Option Override :=
  match boolArg isolateFront, boolArg isolateRear, Level.ofCode floor.toNat, boolArg inhibit with
  | some f, some r, some l, some i => some ⟨f, r, l, i⟩
  | _, _, _, _ => none

/-- The override stack changed, which is a recomputation (07 R116, R112). -/
def State.setOverrides (s : State) (os : List Override) : State :=
  State.recompute { s with control := { s.control with overrides := os } }

/-- The checks and effect of OVERRIDE_PUSH in SERVICE (R169). -/
def State.pushOverride (s : State) (seq isolateFront isolateRear floor inhibit : Byte) : Carried :=
  match overrideArgs isolateFront isolateRear floor inhibit with
  | none => s.refused seq 0x19#8 .badArgument
  | some o =>
    if Config.overridePlaces ≤ s.control.overrides.length then s.refused seq 0x19#8 .stackFull
    else (s.setOverrides (o :: s.control.overrides)).done seq 0x19#8

/-- OVERRIDE_PUSH (R169). -/
def execOverridePush (seq isolateFront isolateRear floor inhibit : Byte) (s : State) :
    Host.Outcome State Fault Refusal :=
  .next (s.inService (.overridePush seq isolateFront isolateRear floor inhibit) seq 0x19#8 fun x =>
    x.pushOverride seq isolateFront isolateRear floor inhibit)

/-- The effect of OVERRIDE_POP in SERVICE (R170). -/
def State.popOverride (s : State) (seq : Byte) : Carried :=
  match s.control.overrides with
  | [] => s.refused seq 0x1A#8 .stackEmpty
  | _ :: os => (s.setOverrides os).done seq 0x1A#8

/-- OVERRIDE_POP (R170). -/
def execOverridePop (seq : Byte) (s : State) : Host.Outcome State Fault Refusal :=
  .next (s.inService (.overridePop seq) seq 0x1A#8 fun x => x.popOverride seq)

/-! ## Leaving (R171 to R173) -/

/-- The leave of SERVICE to STANDBY (R171, step 3; 07 R111, R105; log 16). -/
def State.leaveToStandby (s : State) : State := (s.emptyOverrides.stop .serviceIdle).enterStandby

/-- SERVICE_LEAVE in SERVICE with the store free (R171). -/
def State.serviceLeave (s : State) (seq : Byte) : State :=
  let s1 := s.abandonSweep
  match s1.working.relationFailure with
  | some f => Carried.finish ⟨s1, some (invalidReply seq 0x1B#8 f)⟩
  | none => (s1.leaveToStandby.done seq 0x1B#8).placed

/-- SERVICE_LEAVE (R171): an OK stops SERVICE_IDLE, every other result in SERVICE restarts it (R157). -/
def execServiceLeave (seq : Byte) (s : State) : Host.Outcome State Fault Refusal :=
  let s1 := s.takeCommand (.serviceLeave seq)
  .next (if s1.control.chip = .service then
      if s1.store.busy then (s1.refused seq 0x1B#8 .busy).finish else s1.serviceLeave seq
    else (s1.refused seq 0x1B#8 .refusedState).placed)

/-- The forced leave of a SERVICE_IDLE expiry (R172). -/
def State.idleLeave (s : State) : State :=
  let s1 := s.abandonSweep
  (s1.revertIfInvalid s1.working.relationFailure).leaveToStandby

/-- SERVICE_IDLE_EXPIRY (R158, R172). -/
def execServiceIdleExpiry (s : State) : Host.Outcome State Fault Refusal :=
  .next (if s.expiryInForce .serviceIdle ∧ (s.afterExpiry .serviceIdle).control.chip = .service then
      (s.afterExpiry .serviceIdle).idleLeave
    else s.afterExpiry .serviceIdle)

/-- The move to SHUTDOWN (07 R109, steps 3 and 4). -/
def State.shutDown (s : State) : State := (s.setChip .shutdown).recompute

/-- What a WAKE falling does in the chip state it finds (07 R103, R109, R173). -/
def State.wakeFell (s : State) : State :=
  match s.control.chip with
  | .standby => (s.stop .gather).shutDown
  | .drive => s.shutDown
  | .service => (s.forcedLeave s.working.relationFailure).shutDown
  | .loading | .shutdown => s

/-- WAKE_FALLING (07 R103, R109). -/
def execWakeFalling (s : State) : Host.Outcome State Fault Refusal := .next (s.acceptWake false).wakeFell

/-! ## The end report of the store and the sweep's examinations -/

/-- The code of the command a deferred reply answers (R152). -/
def Deferred.code : Deferred → Byte
  | .save _ => 0x13#8
  | .reload _ => 0x14#8

/-- The SEQ a deferred reply echoes (R152). -/
def Deferred.seq : Deferred → Byte
  | .save q => q
  | .reload q => q

/-- The deferred reply an outcome gives (R162 to R164). -/
def Deferred.reply (d : Deferred) : StoreEnd → Reply
  | .ok => plainReply d.seq d.code .ok
  | .failed => plainReply d.seq d.code .storeFailed
  | .invalid f => invalidReply d.seq d.code f

/-- The end report taken: busy ends, the deferred reply is placed and becomes none (R162). -/
def State.takeStoreEnd (s : State) (e : StoreEnd) : State :=
  let s1 := s.updStore fun x => { x with busy := false }
  match s.deferred with
  | some d => { s1.placeReply (d.reply e) with deferred := none }
  | none => s1

/-- The first end report owed. -/
def firstStoreEnd : List Owed → Option StoreEnd
  | [] => none
  | .storeEnd e :: _ => some e
  | _ :: rest => firstStoreEnd rest

/-- STORE_END_REPORT (R162). -/
def execStoreEndReport (s : State) : Host.Outcome State Fault Refusal :=
  .next (match firstStoreEnd s.owed with
    | some e => (s.took Owed.isStoreEnd).takeStoreEnd e
    | none => s)

/-- SWEEP_EXAMINATION (05 R85): taken while the sweep is RUNNING. -/
def execSweepExamination (s : State) : Host.Outcome State Fault Refusal :=
  .next (if s.table.sweep.state = .running then s.tableEvent s.table.examine else s)

end Sys2Proof.Machine
end

