-- ==== Sys2Proof/Machine/System.lean ====
section
/-! DEFINITION. Power-on, the time base and the switch filters (00_scope.md, 02 R31, 03 R34 to R36, 10 R187, R188). -/

namespace Sys2Proof.Machine

open Sys2Proof

/-! ## The switch filters (02 R31) -/

/-- A filter after one sample (R31). -/
def SwitchFilter.sample (level : Bool) (f : SwitchFilter) : SwitchFilter :=
  if level = f.asserted then { f with run := 0 }
  else if Config.filterSamples ≤ f.run + 1 then ⟨level, 0⟩
  else { f with run := f.run + 1 }

/-- Whether one sample makes a filter accept a change (R31). -/
def SwitchFilter.accepts (level : Bool) (f : SwitchFilter) : Bool :=
  level != f.asserted && decide (Config.filterSamples ≤ f.run + 1)

/-- The switch of a name. -/
def Switches.get (w : Switches) : Switch → SwitchFilter
  | .brake => w.brake
  | .stand => w.stand

/-- The switches with one replaced. -/
def Switches.set (w : Switches) (sw : Switch) (f : SwitchFilter) : Switches :=
  match sw with
  | .brake => { w with brake := f }
  | .stand => { w with stand := f }

/-- The changes three samples make the filters deliver (R31, R32). -/
def switchEvents (w : Switches) (brake stand wake : Bool) : List Owed :=
  (if w.brake.accepts brake then [.switchChange .brake brake] else [])
    ++ (if w.stand.accepts stand then [.switchChange .stand stand] else [])
    ++ (if w.wake.accepts wake then [.wakeChange wake] else [])

/-- SWITCH_CHANGE_ACCEPTED (R31, R32): the change the filter delivered is taken; with none owed the filter
accepts the level now (log 4). -/
def execSwitchChangeAccepted (sw : Switch) (asserted : Bool) (s : State) :
    Host.Outcome State Fault Refusal :=
  .next (if s.owes (· == .switchChange sw asserted) then s.took (· == .switchChange sw asserted)
    else if (s.switches.get sw).asserted = asserted then s
    else { s with switches := s.switches.set sw ⟨asserted, 0⟩ })

/-! ## The time base (03 R35, R36) -/

/-- TIME_BASE_STEP: one step of 1 ms. The channels count, the filters sample, the memory's internal write
goes on, and the expiries and accepted changes are owed to their takers.
DESIGN CHOICE (log 33): a read taken together with an accepted change gives either state (02 R33); here the
accepted state changes in this step, so an expiry that this step owes reads the new state. -/
def execTimeBaseStep (brake stand wake : Bool) (s : State) : Host.Outcome State Fault Refusal :=
  .next { s with
    now := s.now + 1#32
    timers := s.timers.step s.working.params
    switches :=
      ⟨s.switches.brake.sample brake, s.switches.stand.sample stand, s.switches.wake.sample wake⟩
    memoryBusy := s.memoryBusy - 1
    owed := s.owed ++ (s.timers.expiries ++ switchEvents s.switches brake stand wake) }

/-! ## Power-on (00_scope.md, 10 R187, R188) -/

/-- The addresses that a page transfer cut short leaves at any value, the first and how many: the whole page of a
SAVE (R187), the 27 bytes of a latch list (R188). A transfer the memory refused writes nothing (R176).
DESIGN CHOICE (log 10): R188 names the 27 bytes alone, so the rest of page 16, 539 to 543, stays as it was. -/
def Store.transfer (x : Store) : Option (Nat × Nat) :=
  match x.refused, x.op with
  | false, .savePage n => some (Config.pageSize * n, Config.pageSize)
  | false, .latchPage => some (Config.latchBase, Config.latchLength)
  | false, .none | false, .loadImage | false, .loadLatches _ | false, .saveWait _ | false, .saveReadback
  | false, .reloadRead | false, .latchWait | true, _ => none

/-- The memory after an interruption: a page transfer cut short leaves the bytes `torn` from its first address on,
of any value; without `torn`, or outside a transfer, the memory is as it was (R187, R188; log 10). -/
def memoryAfterCut (x : Store) (m : Memory) (torn : Option (List Byte)) : Memory :=
  match x.transfer, torn with
  | some (a, n), some l => m.writeAll a (l.take n)
  | _, _ => m

/-- The internal write of the memory at a power-on: it goes on through RESET_N, and ends with the supply (R188). -/
def busyAfter (cause : ResetCause) (n : Nat) : Nat :=
  match cause with
  | .supply => 0
  | .resetN => n

/-- POWER_ON: every item takes its power-on value; the external memory keeps its content, and the commands
that wait still wait (log 1, 23). A RESET_N during an internal write meets a memory that refuses the first
read of the LOAD, which is begun at once (R176, R177, R188; log 11). -/
def execPowerOn (cause : ResetCause) (torn : Option (List Byte)) (s : State) :
    Host.Outcome State Fault Refusal :=
  .next { State.reset with
    memory := memoryAfterCut s.store s.memory torn
    memoryBusy := busyAfter cause s.memoryBusy
    store := { Store.initial with refused := decide (0 < busyAfter cause s.memoryBusy) }
    pending := s.pending }

end Sys2Proof.Machine
end

