-- ==== Sys2Proof/Machine/Dispatch.lean ====
section
/-! DEFINITION. The meaning of every command, one arm per constructor, in the table's order. -/

namespace Sys2Proof.Machine

open Sys2Proof

/-- A command's effect on everything but the queue. -/
def exec (i : Instr) (s : State) : Host.Outcome State Fault Refusal :=
  match i with
  | .powerOn cause torn => Sys2Proof.Machine.execPowerOn cause torn s
  | .frameReceived p body => Sys2Proof.Machine.execFrameReceived p body s
  | .receiveError p e => Sys2Proof.Machine.execReceiveError p e s
  | .arrivalNotice u => Sys2Proof.Machine.execArrivalNotice u s
  | .freshnessExpiry p => Sys2Proof.Machine.execFreshnessExpiry p s
  | .lineBreak p => Sys2Proof.Machine.execLineBreak p s
  | .linkStateNotice p => Sys2Proof.Machine.execLinkStateNotice p s
  | .transmitterTakeFrame p => Sys2Proof.Machine.execTransmitterTakeFrame p s
  | .switchChangeAccepted sw asserted => Sys2Proof.Machine.execSwitchChangeAccepted sw asserted s
  | .wakeRising => Sys2Proof.Machine.execWakeRising s
  | .wakeFalling => Sys2Proof.Machine.execWakeFalling s
  | .envelopeExpiry => Sys2Proof.Machine.execEnvelopeExpiry s
  | .checkExpiry => Sys2Proof.Machine.execCheckExpiry s
  | .isolationNotice m entered => Sys2Proof.Machine.execIsolationNotice m entered s
  | .recordTickExpiry => Sys2Proof.Machine.execRecordTickExpiry s
  | .gatherExpiry => Sys2Proof.Machine.execGatherExpiry s
  | .gatherBatchTaken => Sys2Proof.Machine.execGatherBatchTaken s
  | .haltRampExpiry => Sys2Proof.Machine.execHaltRampExpiry s
  | .serviceIdleExpiry => Sys2Proof.Machine.execServiceIdleExpiry s
  | .containmentAnnouncement => Sys2Proof.Machine.execContainmentAnnouncement s
  | .endOfLoading => Sys2Proof.Machine.execEndOfLoading s
  | .loadImageReadDone r => Sys2Proof.Machine.execLoadImageReadDone r s
  | .loadLatchListReadDone r => Sys2Proof.Machine.execLoadLatchListReadDone r s
  | .latchRewriteRequest => Sys2Proof.Machine.execLatchRewriteRequest s
  | .savePageWriteDone acknowledged => Sys2Proof.Machine.execSavePageWriteDone acknowledged s
  | .storeWaitExpiry => Sys2Proof.Machine.execStoreWaitExpiry s
  | .saveReadbackDone r => Sys2Proof.Machine.execSaveReadbackDone r s
  | .latchPageWriteDone acknowledged => Sys2Proof.Machine.execLatchPageWriteDone acknowledged s
  | .reloadReadDone r => Sys2Proof.Machine.execReloadReadDone r s
  | .storeEndReport => Sys2Proof.Machine.execStoreEndReport s
  | .queryRecords seq start => Sys2Proof.Machine.execQueryRecords seq start s
  | .queryLink seq unit => Sys2Proof.Machine.execQueryLink seq unit s
  | .queryRow seq kind => Sys2Proof.Machine.execQueryRow seq kind s
  | .queryParam seq number => Sys2Proof.Machine.execQueryParam seq number s
  | .queryEnvelope seq => Sys2Proof.Machine.execQueryEnvelope seq s
  | .unknownCommand seq code => Sys2Proof.Machine.execUnknownCommand seq code s
  | .serviceEnter seq => Sys2Proof.Machine.execServiceEnter seq s
  | .rowWrite seq kind row => Sys2Proof.Machine.execRowWrite seq kind row s
  | .paramWrite seq number value => Sys2Proof.Machine.execParamWrite seq number value s
  | .storeSave seq => Sys2Proof.Machine.execStoreSave seq s
  | .storeReload seq => Sys2Proof.Machine.execStoreReload seq s
  | .recordClear seq slot => Sys2Proof.Machine.execRecordClear seq slot s
  | .sweepStart seq start unit kind mode count => Sys2Proof.Machine.execSweepStart seq start unit kind mode count s
  | .sweepResume seq => Sys2Proof.Machine.execSweepResume seq s
  | .sweepCancel seq => Sys2Proof.Machine.execSweepCancel seq s
  | .overridePush seq isolateFront isolateRear floor inhibit => Sys2Proof.Machine.execOverridePush seq isolateFront isolateRear floor inhibit s
  | .overridePop seq => Sys2Proof.Machine.execOverridePop seq s
  | .serviceLeave seq => Sys2Proof.Machine.execServiceLeave seq s
  | .sweepExamination => Sys2Proof.Machine.execSweepExamination s
  | .byteReceived p item => Sys2Proof.Machine.execByteReceived p item s
  | .breakEnd p => Sys2Proof.Machine.execBreakEnd p s
  | .timeBaseStep brake stand wake => Sys2Proof.Machine.execTimeBaseStep brake stand wake s

end Sys2Proof.Machine
end

