-- ==== Sys2Proof/Safety.lean ====
section
/-! DEFINITION. What holds in a safe run: the conditions on a state that every step keeps, each named after
the part of the manual that promises it. Claims are stated in terms of these. -/

namespace Sys2Proof.Machine

open Sys2Proof

/-! ## External memory (10 R176) -/

/-- The page an operation has reached is one of the image's eight (10 R182). -/
def StoreOp.pageOk : StoreOp → Prop
  | .savePage n | .saveWait n => n ≤ 7
  | .none | .loadImage | .loadLatches _ | .saveReadback | .reloadRead | .latchPage | .latchWait => True

/-- The external memory is in canonical form, and what the store controller is about to write stays inside it; while
the memory writes a page it acknowledges no transaction, and only a transaction is refused. -/
structure State.MemoryOk (s : State) : Prop where
  canonical : s.memory.wf = true
  latch     : s.store.latchBuffer.length ≤ Config.latchLength
  page      : s.store.op.pageOk
  writing   : s.store.bus.isSome = true → 0 < s.memoryBusy → s.store.refused = true
  refusal   : s.store.refused = true → s.store.bus.isSome = true

/-! ## The fault table (05 R63, R75, R77, R83 to R86) -/

/-- What R63 to R71 promise of one record. -/
structure FaultRecord.Ok (r : FaultRecord) : Prop where
  pair      : allowedPair r.unit r.kind = true
  run       : r.run ≤ 255
  occ       : r.occurrences ≤ 15
  age       : r.age ≤ Config.counterMax
  escalated : r.escalated = true → r.policy = .workshop
  confirmed : r.contained = true → 1 ≤ r.occurrences ∧ r.firstConfirmed.isSome = true
  clearing  : r.state = .clearing → r.policy = .auto
  latched   : r.state = .latched → r.policy ≠ .auto

/-- What R83 to R86 promise of the sweep state. -/
structure Sweep.Ok (w : Sweep) : Prop where
  cursor  : w.cursor ≤ Config.slotCount
  count   : w.cleared + w.remaining ≤ Config.slotCount
  ongoing : w.state ≠ .idle → 1 ≤ w.remaining ∧ w.cursor < Config.slotCount

/-- What chapter 5 promises of the fault table. -/
structure FaultTable.Ok (t : FaultTable) : Prop where
  places   : t.slots.length = Config.slotCount
  records  : ∀ r ∈ t.records, r.Ok
  distinct : (t.records.map fun r => (r.unit, r.kind)).Nodup
  full     : t.tableFull = true → ∀ o ∈ t.slots, o.isSome = true
  lost     : t.lost ≤ Config.counterMax
  sweep    : t.sweep.Ok
  marks    : t.sweep.state = .idle → ∀ r ∈ t.records, r.mark = false

/-! ## The copies (04 R51, R56, R57) -/

/-- Every parameter lies in its range (R56). -/
def Params.inRange (c : Params) : Prop := ∀ p : Param, p.inRange (c.get p) = true

/-- Every locked row holds its built-in values (R51). -/
def Rows.lockedBuiltin (r : Rows) : Prop := ∀ k : Kind, k.isLocked = true → r.get k = Rows.builtin.get k

/-- A copy no write, save or load has spoilt. -/
structure Copy.Ok (c : Copy) : Prop where
  params : c.params.inRange
  rows   : c.rows.lockedBuiltin

/-- A valid image that a LOAD has read and not handed on yet is unspoilt too. -/
def StoreOp.copyOk : StoreOp → Prop
  | .loadLatches (.valid c) => c.Ok
  | .loadLatches .noMemory | .loadLatches .crc | .loadLatches (.invalid _) | .none | .loadImage | .savePage _
  | .saveWait _ | .saveReadback | .reloadRead | .latchPage | .latchWait => True

/-- Both copies are unspoilt. -/
structure State.CopiesOk (s : State) : Prop where
  working   : s.working.Ok
  committed : s.committed.Ok
  loading   : s.store.op.copyOk

/-! ## Target, applied state and lines (07 R117, R120, R124 to R126) -/

/-- The applied state is nowhere less restrictive than the target (R117). -/
structure Drive.Covers (applied target : Drive) : Prop where
  level    : target.level.rank ≤ applied.level.rank
  derate   : applied.derate ≤ target.derate
  isoFront : target.isoFront = true → applied.isoFront = true
  isoRear  : target.isoRear = true → applied.isoRear = true
  inhibit  : applied.regenInhibit = target.regenInhibit
  packOpen : applied.packOpen = target.packOpen

/-- The applied state covers the target, the PERMIT and PACK_OPEN lines read as R124 and R125 give, and WARN is high
off FULL, one half of R126: a LATCHED record may come and go between the events that set the line. -/
structure Control.Ok (c : Control) : Prop where
  covers      : c.applied.Covers c.target
  rampHalts   : c.ramp = true → c.applied.level = .halt
  permitFront : c.permitFront = true ↔ c.applied.isoFront = false ∧ (c.applied.level ≠ .halt ∨ c.ramp = true)
  permitRear  : c.permitRear = true ↔ c.applied.isoRear = false ∧ (c.applied.level ≠ .halt ∨ c.ramp = true)
  packLine    : c.packOpen = c.applied.packOpen
  warnLine    : c.applied.level ≠ .full → c.warn = true

/-! ## The chip state (07 R102, R107, R113, R115, R116, 03 R44, 05 R83) -/

/-- A channel is RUNNING. -/
def State.runs (s : State) (c : Chan) : Prop := (s.timers.get c).state = .running

/-- What each chip state promises. -/
structure State.ChipOk (s : State) : Prop where
  halted    : s.control.chip ≠ .drive → s.control.chip ≠ .service →
                s.control.target.level = .halt ∧ s.control.applied.level = .halt
  walking   : s.control.chip = .service →
                Level.walk.rank ≤ s.control.target.level.rank ∧ Level.walk.rank ≤ s.control.applied.level.rank
  stack     : s.control.overrides.length ≤ Config.overridePlaces
  emptied   : s.control.chip ≠ .service → s.control.overrides = [] ∧ s.table.sweep.state = .idle
  gather    : s.runs .gather → s.control.chip = .standby
  idle      : s.runs .serviceIdle → s.control.chip = .service
  loading   : s.control.chip = .loading → ¬ s.runs .envelope ∧ ¬ s.runs .check ∧ ¬ s.runs .recordTick

/-! ## Links (01 R2, R6, R8, R10, R11, R15) -/

/-- Every counter of a port saturates (R11). -/
structure Counters.Ok (c : Counters) : Prop where
  good      : c.good ≤ Config.counterMax
  bad       : c.bad ≤ Config.counterMax
  protocol  : c.protocol ≤ Config.counterMax
  malformed : c.malformed ≤ Config.counterMax
  repeats   : c.repeats ≤ Config.counterMax
  gaps      : c.gaps ≤ Config.counterMax
  breaks    : c.breaks ≤ Config.counterMax
  replaced  : c.replaced ≤ Config.counterMax
  dropped   : c.dropped ≤ Config.counterMax

/-- What chapter 1 promises of a port and its freshness channel. -/
structure LinkPort.Ok (x : LinkPort) (ch : Channel) : Prop where
  armed    : x.link = .down ↔ ch.state = .armed
  ref      : x.link = .down ↔ x.seqRef = none
  down     : x.link = .down → x.joinRun = 0 ∧ x.grant = none
  joinRun  : x.joinRun ≤ Config.joinFrames
  body     : x.body.length ≤ Config.bodyMax
  broken   : x.inBreak = true → x.link = .down ∧ x.framer = .hunt
  counters : x.counters.Ok

/-- What chapter 1 promises of the four ports and the reply FIFO. -/
structure State.LinksOk (s : State) : Prop where
  ports   : ∀ p : Port, (s.port p).Ok (s.timers.get p.channel)
  replies : s.replies.length ≤ Config.fifoPlaces

/-! ## Observations and the envelope (02 R20 to R22, 08 R137 to R145) -/

/-- The values a motor record can hold (R20). -/
structure MotorRecord.Ok (r : MotorRecord) : Prop where
  current  : -150 ≤ r.dcCurrent ∧ r.dcCurrent ≤ 250
  speed    : r.speed ≤ 1200
  temps    : -40 ≤ r.motorTemp ∧ r.motorTemp ≤ 200 ∧ -40 ≤ r.inverterTemp ∧ r.inverterTemp ≤ 200
  voltage  : r.busVoltage ≤ 1000
  capacity : r.cDrive ≤ 255 ∧ r.cRegen ≤ 150

/-- The values the pack record can hold (R21). -/
structure PackRecord.Ok (r : PackRecord) : Prop where
  voltage : r.voltage ≤ 1000
  current : -150 ≤ r.current ∧ r.current ≤ 250
  limits  : r.iDis ≤ 255 ∧ r.iChg ≤ 150
  soc     : r.soc ≤ 100
  cell    : r.minCell ≤ 5000
  temp    : -40 ≤ r.maxCellTemp ∧ r.maxCellTemp ≤ 200

/-- The values the cockpit record can hold (R22). -/
structure CockpitRecord.Ok (r : CockpitRecord) : Prop where
  demand : r.demand ≤ 1000
  brake  : r.brake ≤ 1000

/-- Every stored observation lies in its range. -/
structure Observations.Ok (o : Observations) : Prop where
  front   : o.front.Ok
  rear    : o.rear.Ok
  pack    : o.pack.Ok
  cockpit : o.cockpit.Ok

/-- The two ceilings of one budget sum to at most that budget (R137, R139). -/
def Split.fits (x : Split) : Prop := x.ceilFront + x.ceilRear ≤ x.budget

/-- What R137 to R145 promise of a computation. -/
structure LastComputation.Ok (x : LastComputation) : Prop where
  drive      : x.drive.fits
  regen      : x.regen.fits
  limits     : x.drive.budget ≤ 255 ∧ x.regen.budget ≤ 150
  commands   : x.cmdFront ≤ x.drive.ceilFront ∧ x.cmdRear ≤ x.drive.ceilRear
                 ∧ x.regFront ≤ x.regen.ceilFront ∧ x.regRear ≤ x.regen.ceilRear
  oneOf      : (x.cmdFront = 0 ∧ x.cmdRear = 0) ∨ (x.regFront = 0 ∧ x.regRear = 0)
  overspeed  : x.vCeil ≤ x.v → x.cmdFront = 0 ∧ x.cmdRear = 0
  noRegen    : Level.walk.rank ≤ x.level.rank → x.regen.ceilFront = 0 ∧ x.regen.ceilRear = 0
  isoFront   : x.isoFront = true → x.drive.ceilFront = 0 ∧ x.regen.ceilFront = 0
  isoRear    : x.isoRear = true → x.drive.ceilRear = 0 ∧ x.regen.ceilRear = 0

/-- What R138, R144, R145 and R148 promise of a grant. -/
def Grant.Ok : Grant → Prop
  | .motor g => g.driveCmd ≤ g.driveCeil ∧ g.regenCmd ≤ g.regenCeil ∧ (g.driveCmd = 0 ∨ g.regenCmd = 0)
      ∧ (g.isolated = true → g.driveCeil = 0 ∧ g.regenCeil = 0)
  | .pack g => g.expectedDrive ≤ 255 ∧ g.expectedRegen ≤ 150
  | .status _ => True

/-- The observations, the copies, the last computation and every waiting grant keep what chapters 2, 4 and 8
promise, and the slew state is that of the last computation (R128). -/
structure State.EnvelopeOk (s : State) : Prop where
  obs    : s.obs.Ok
  copies : s.CopiesOk
  derate : s.control.applied.derate ≤ 100 ∧ s.control.target.derate ≤ 100
  last   : s.envelope.last.Ok
  slew   : s.envelope.pFront = s.envelope.last.drive.ceilFront
             ∧ s.envelope.pRear = s.envelope.last.drive.ceilRear
             ∧ s.envelope.qFront = s.envelope.last.regen.ceilFront
             ∧ s.envelope.qRear = s.envelope.last.regen.ceilRear
  grants : ∀ (p : Port) (g : Grant), (s.port p).grant = some g → g.Ok

/-! ## The service controller (09 R152, R161, R162) -/

/-- A reply is outstanding exactly while the store is busy. -/
def State.DeferredOk (s : State) : Prop := s.deferred.isSome = s.store.busy

/-! ## What claims say of one command

Relations between the state a command finds and the state it leaves, in the words of the rules. -/

/-- Commands run one after another, up to the first that gives no next state. -/
def execAll : List Instr → State → Host.Outcome State Fault Refusal
  | [], s => .next s
  | c :: cs, s =>
    match exec c s with
    | .next t => execAll cs t
    | .fault f => .fault f
    | .refused r => .refused r

/-- The port of a motor. -/
def motorPort : Motor → Port
  | .front => .front
  | .rear => .rear

/-- A body that a port accepts as a frame of a kind: sound in length, CRC, kind and structure, and no repeat (01 R3,
R5, R6), on a line that is not in a break (R1). -/
structure State.accepts (s : State) (p : Port) (k : FrameKind) (body : List Byte) : Prop where
  line      : (s.port p).inBreak = false
  sound     : bodyError body = none
  kind      : acceptedKind p (bodyKind body) = some k
  structured : malformed k (bodyPayload body) = false
  fresh     : (s.port p).seqRef ≠ some (bodySeq body)

/-- A state once the port has heard an accepted frame or a break: the expiry of the port's channel that waits has no
force (03 R41), and a link state notice is owed if the link state is another now (07 R106). -/
def State.noticing (s : State) (p : Port) (link : LinkState) : State :=
  { s with owed := s.owed.map (Owed.voided p.channel) ++ if link = (s.port p).link then [] else [.linkState p] }

/-- A containment change from `t` to `t'` (05 R78): a record entered or left the containment set, a contained record
entered or left LATCHED, or TABLE_FULL changed. A record keeps its slot for life (R63), and a slot that holds a
contained record is given to no other in one event (R76). -/
def FaultTable.ContainmentChange (t t' : FaultTable) : Prop :=
  t.tableFull ≠ t'.tableFull
  ∨ (∃ i, ¬ ((∃ r, t.slot i = some r ∧ (r.state = .active ∨ r.state = .clearing ∨ r.state = .latched))
      ↔ ∃ r, t'.slot i = some r ∧ (r.state = .active ∨ r.state = .clearing ∨ r.state = .latched)))
  ∨ ∃ i, ¬ ((∃ r, t.slot i = some r ∧ r.state = .latched) ↔ ∃ r, t'.slot i = some r ∧ r.state = .latched)

/-- A record whose policy in effect was WORKSHOP was freed (05 R75, R80). -/
def FaultTable.LosesWorkshop (t t' : FaultTable) : Prop :=
  ∃ i r, t.slot i = some r ∧ r.policy = .workshop ∧ t'.slot i = none

/-- What a fault table event hands on: one announcement exactly if it is a containment change, and one latch-list
rewrite request exactly if it has a cause for one (05 R78, R80). -/
structure FaultTable.Notifies (t t' : FaultTable) (request : Prop) (news : List Owed) : Prop where
  only        : ∀ e ∈ news, e = .announcement ∨ e = .latchRequest
  announced   : t.ContainmentChange t' → news.count .announcement = 1
  unannounced : ¬ t.ContainmentChange t' → news.count .announcement = 0
  requested   : request → news.count .latchRequest = 1
  unrequested : ¬ request → news.count .latchRequest = 0

/-- A command, from `s` to `t`, hands on what its fault table event gives, whatever else it leaves owed. -/
def State.HandsOn (s t : State) (request : Prop) : Prop :=
  ∃ news, s.table.Notifies t.table request news
    ∧ ∀ e, e = .announcement ∨ e = .latchRequest → t.owed.count e = s.owed.count e + news.count e

/-- The PENDING and DORMANT records of the kinds that `new` disables are freed, which clears TABLE_FULL, and every
other record stays (04 R54, R59, 05 R75). -/
structure FaultTable.FreesDisabled (t t' : FaultTable) (old new : Rows) : Prop where
  places  : ∀ i, t.slot i = none → t'.slot i = none
  records : ∀ i r, t.slot i = some r → t'.slot i =
    if (r.state = .pending ∨ r.state = .dormant) ∧ (old.get r.kind).enabled = true
      ∧ (new.get r.kind).enabled = false then none else some r
  full    : t'.tableFull = true ↔ t.tableFull = true ∧ ∀ i r, t.slot i = some r → t'.slot i ≠ none
  rest    : t' = { t with slots := t'.slots, tableFull := t'.tableFull }

/-- What follows a change of the applied state in the same event, from `s` to `t`: the ramp with its channel, the
lines, and the isolation notices (07 R119, R120, R123 to R126). -/
structure State.AppliedFollows (s t : State) : Prop where
  rampStart : s.control.applied.level ≠ .halt → t.control.applied.level = .halt →
    t.control.ramp = true ∧ t.timers = s.timers.set .haltRamp ⟨.running, s.working.params.haltRamp, 0⟩
  rampStop  : s.control.applied.level = .halt → t.control.applied.level ≠ .halt → t.control.ramp = false
    ∧ (s.control.ramp = true →
        t.timers = s.timers.set .haltRamp { s.timers.haltRamp with state := .stopped, phase := 0 })
    ∧ (s.control.ramp = false → t.timers = s.timers)
  rampStays : (s.control.applied.level = .halt ↔ t.control.applied.level = .halt) →
    t.control.ramp = s.control.ramp ∧ t.timers = s.timers
  permitFront : t.control.permitFront = true ↔
    t.control.applied.isoFront = false ∧ (t.control.applied.level ≠ .halt ∨ t.control.ramp = true)
  permitRear : t.control.permitRear = true ↔
    t.control.applied.isoRear = false ∧ (t.control.applied.level ≠ .halt ∨ t.control.ramp = true)
  packLine  : t.control.packOpen = t.control.applied.packOpen
  warnLine  : t.control.warn = true ↔
    t.control.applied.level ≠ .full ∨ ∃ r ∈ s.table.records, r.state = .latched
  notices   : ∀ m entered, Owed.isolation m entered ∈ t.owed ↔ Owed.isolation m entered ∈ s.owed
    ∨ (s.control.applied.isolated m ≠ t.control.applied.isolated m ∧ entered = t.control.applied.isolated m)

/-- One recomputation, from `s` to `t` (07 R112, R117 to R120, R123 to R126). -/
structure State.Recomputes (s t : State) : Prop extends State.AppliedFollows s t where
  target    : t.control.target = targetFor s.control.chip s.working s.table s.control.overrides
  released  : s.obs.cockpit.fresh = true → s.obs.cockpit.demand = 0 → t.control.applied = t.control.target
  held      : ¬ (s.obs.cockpit.fresh = true ∧ s.obs.cockpit.demand = 0) → t.control.applied =
    { level := if s.control.applied.level.rank < t.control.target.level.rank then t.control.target.level
        else s.control.applied.level
      derate := min s.control.applied.derate t.control.target.derate
      isoFront := s.control.applied.isoFront || t.control.target.isoFront
      isoRear := s.control.applied.isoRear || t.control.target.isoRear
      regenInhibit := t.control.target.regenInhibit
      packOpen := t.control.target.packOpen }
  rest      : t = { s with
    control := { s.control with
      target := t.control.target, applied := t.control.applied, ramp := t.control.ramp
      permitFront := t.control.permitFront, permitRear := t.control.permitRear
      packOpen := t.control.packOpen, warn := t.control.warn }
    timers := t.timers
    owed := t.owed }

/-- What the DRIVE test asks (07 R106): PACK and COCKPIT UP, and both motor links, or one with gather done. -/
def State.DriveTestHolds (s : State) (gatherDone : Bool) : Prop :=
  s.ports.pack.link = .up ∧ s.ports.cockpit.link = .up
    ∧ ((s.ports.front.link = .up ∧ s.ports.rear.link = .up)
      ∨ (gatherDone = true ∧ (s.ports.front.link = .up ∨ s.ports.rear.link = .up)))

/-- The move from STANDBY to DRIVE: GATHER is stopped and the target recomputed there (07 R106, R107, R112). -/
def State.EntersDrive (s t : State) : Prop := State.Recomputes ((s.setChip .drive).stop .gather) t

/-- The end of a gather: a recomputation, gather done set, the DRIVE test (07 R108). -/
def State.FinishesGather (s t : State) : Prop :=
  ∃ u v : State, s.Recomputes u ∧ v = { u with control := { u.control with gatherDone := true } }
    ∧ (s.control.chip = .standby → v.DriveTestHolds true → v.EntersDrive t)
    ∧ (s.control.chip ≠ .standby ∨ ¬ v.DriveTestHolds true → t = v)

/-- A leave of SERVICE to STANDBY with a new gather, and on to DRIVE when all four links are UP (07 R105, R106, R111,
R116, 09 R171, R172). -/
structure State.LeavesToStandby (s t : State) : Prop where
  drive      : s.DriveTestHolds false → t.control.chip = .drive ∧ (t.timers.get .gather).state = .stopped
  standby    : ¬ s.DriveTestHolds false →
    t.control.chip = .standby ∧ t.timers.get .gather = ⟨.running, t.working.params.gatherTime, 0⟩
  gatherDone : t.control.gatherDone = false
  emptied    : t.control.overrides = []
  idle       : (t.timers.get .serviceIdle).state = .stopped
  sweep      : t.table.sweep.state = .idle
  target     : t.control.target = targetFor t.control.chip t.working t.table []
  covers     : t.control.applied.Covers t.control.target
  notices    : s.HandsOn t (s.table.LosesWorkshop t.table)
  rest       : t = { s with
    control := { s.control with
      chip := t.control.chip, gatherDone := false, target := t.control.target, applied := t.control.applied
      ramp := t.control.ramp, overrides := [], permitFront := t.control.permitFront
      permitRear := t.control.permitRear, packOpen := t.control.packOpen, warn := t.control.warn }
    timers := t.timers, table := t.table, working := t.working, unsaved := t.unsaved
    store := { s.store with replaced := t.store.replaced }, owed := t.owed }

/-- The results of a LOAD handed on, from `s` to `t`: the copies replaced as one row change, the entries of the latch
list brought back, the verdicts delivered, the end of LOADING reported, and a pending rewrite begun (10 R181, R178);
a list with an entry is announced, even if every entry is lost (`told`: 05 R65, log 19). -/
structure State.LoadsInto (s : State) (c : Copy) (es : List LatchEntry) (vs : List Delivery) (t : State) : Prop where
  copies : t.working = c ∧ t.committed = c ∧ t.unsaved = false
  table  : t.table = (State.deliverAll { s with
    working := c
    table := ((s.table.rowChange s.working.rows c.rows).table.restore s.now es).table } vs).table
  ended  : Owed.endOfLoading ∈ t.owed
  told   : es ≠ [] → Owed.announcement ∈ t.owed
  free   : s.store.latchPending = false → s.store.savePending = false → s.store.reloadPending = false →
    t.store.op = .none
  latch  : s.store.latchPending = true → t.store.op = .latchPage ∧ t.store.latchPending = false
  rest   : t = { s with
    working := t.working, committed := t.committed, unsaved := t.unsaved, table := t.table
    control := t.control, timers := t.timers, store := t.store, owed := t.owed }

end Sys2Proof.Machine
end

