-- ==== Sys2Proof/Certificates/Slice0/Obligations.lean ====
section
/-! DEFINITION. The statements about the model, one after another in the order of the chapters. -/

open Sys2Proof Sys2Proof.Machine

/-! ## The queue and power-on -/

/-- A step takes the command at the front of the queue and runs it on the state with the queue's rest; with no
command waiting it leaves the state as it is (the queue is the model's choice, log 1, the idling log 2). -/
def Obligations.StepRunsFrontCommand : Prop :=
  (∀ (s : State) (c : Instr) (rest : List Instr), s.pending = c :: rest →
      step s = exec c { s with pending := rest })
  ∧ (∀ s : State, s.pending = [] → step s = .next s)

/-- No command stops the block, and none touches the commands that wait: every command answers a next state
with the queue it found (the model's choice: log 1 for the queue, log 29 for the absence of faults). -/
def Obligations.EveryCommandCompletesAndKeepsQueue : Prop :=
  ∀ (c : Instr) (s : State), ∃ t, exec c s = .next t ∧ t.pending = s.pending

/-- What R16, R18, R34, R64, R83, R102, R128, R152 and R177 give for the moment right after power-on; and POWER_ON:
every item takes its power-on value whatever it held, but for the external memory, of which a page write cut short
may leave any values, a SAVE's in its whole page and a latch list's in its 27 bytes, its internal write, which RESET_N
lets go on (R187, R188), and the waiting commands.
The model's choice: State.reset holds no break, an empty txLine, `replaced` no and nothing owed, of which the manual
gives no power-on value (log 32; log 12 for txLine, log 14 for the break); bytes 539 to 543, behind a latch list cut
short, stay, and a page write that the memory refused changes nothing (log 10); the count of the internal write and the
refusal as a transaction begins are the model's reading (log 11); the commands still wait (log 23). -/
def Obligations.PowerOnTakesPowerOnValues : Prop :=
  ((∀ p : Port,
      (State.reset.port p).framer = .hunt ∧ (State.reset.port p).body = [] ∧ (State.reset.port p).link = .down
        ∧ (State.reset.port p).seqRef = none ∧ (State.reset.port p).joinRun = 0
        ∧ (State.reset.port p).counters = ⟨0, 0, 0, 0, 0, 0, 0, 0, 0⟩ ∧ (State.reset.port p).grant = none
        ∧ (State.reset.port p).txSeq = 0#8 ∧ State.reset.timers.get p.channel = ⟨.armed, 0, 0⟩)
    ∧ State.reset.replies = []
    ∧ (∀ m : Motor,
        (State.reset.obs.motor m).fresh = false ∧ (State.reset.obs.motor m).motorTemp = 25
          ∧ (State.reset.obs.motor m).inverterTemp = 25 ∧ (State.reset.obs.motor m).gate = .blocked
          ∧ (State.reset.obs.motor m).dcCurrent = 0 ∧ (State.reset.obs.motor m).phaseCurrent = 0
          ∧ (State.reset.obs.motor m).speed = 0 ∧ (State.reset.obs.motor m).busVoltage = 0
          ∧ (State.reset.obs.motor m).cDrive = 0 ∧ (State.reset.obs.motor m).cRegen = 0
          ∧ (State.reset.obs.motor m).claims = [] ∧ (State.reset.obs.motor m).arrival = 0#32)
    ∧ State.reset.obs.pack = ⟨0, 0, 0, 0, 0, 0, 25, .opened, [], false, 0#32⟩
    ∧ State.reset.obs.cockpit = ⟨0, 0, .eco, [], false, 0#32⟩
    ∧ State.reset.switches = ⟨⟨false, 0⟩, ⟨false, 0⟩, ⟨false, 0⟩⟩
    ∧ (∀ c : Chan, (∀ p : Port, c ≠ p.channel) → State.reset.timers.get c = ⟨.stopped, 0, 0⟩)
    ∧ State.reset.working = Copy.builtin ∧ State.reset.committed = Copy.builtin ∧ State.reset.unsaved = false
    ∧ State.reset.table.slots = List.replicate 40 none ∧ State.reset.table.tableFull = false
    ∧ State.reset.table.lost = 0 ∧ State.reset.table.sweep = ⟨.idle, none, none, .all, 0, 0, 0, .absent⟩
    ∧ State.reset.monitor = ⟨false, false, false, false⟩
    ∧ State.reset.control.chip = .loading ∧ State.reset.control.awake = false
    ∧ State.reset.control.gatherDone = false
    ∧ State.reset.control.target = ⟨.halt, 100, false, false, false, false⟩
    ∧ State.reset.control.applied = ⟨.halt, 100, false, false, false, false⟩
    ∧ State.reset.control.ramp = false ∧ State.reset.control.overrides = []
    ∧ State.reset.control.permitFront = false ∧ State.reset.control.permitRear = false
    ∧ State.reset.control.packOpen = false ∧ State.reset.control.warn = true
    ∧ State.reset.envelope.pFront = 0 ∧ State.reset.envelope.pRear = 0 ∧ State.reset.envelope.qFront = 0
    ∧ State.reset.envelope.qRear = 0
    ∧ State.reset.envelope.last = ⟨.loading, .eco, .full, false, false, 0, 0, 0, 0, ⟨0, 0, 0, 0, 0, 0, 0, 0, 0, 0, 0⟩,
        ⟨0, 0, 0, 0, 0, 0, 0, 0, 0, 0, 0⟩, 0, 0, 0, 0, 0, 0, 0, false⟩
    ∧ State.reset.deferred = none ∧ State.reset.store.op = .loadImage ∧ State.reset.store.latchPending = false
    ∧ State.reset.store.savePending = false ∧ State.reset.store.reloadPending = false
    ∧ State.reset.store.busy = false ∧ State.reset.store.imageBuffer = [] ∧ State.reset.store.latchBuffer = [])
  ∧ (∀ (cause : ResetCause) (torn : Option (List Byte)) (s : State), s.memory.wf = true → ∃ t,
      exec (.powerOn cause torn) s = .next t
      ∧ t = { State.reset with
          memory := t.memory, memoryBusy := t.memoryBusy, pending := s.pending
          store := { State.reset.store with refused := t.store.refused } }
      ∧ (cause = .supply → t.memoryBusy = 0 ∧ t.store.refused = false)
      ∧ (cause = .resetN → t.memoryBusy = s.memoryBusy ∧ (t.store.refused = true ↔ 0 < s.memoryBusy))
      ∧ (torn = none ∨ s.store.refused = true ∨ (s.store.op ≠ .latchPage ∧ ∀ k, s.store.op ≠ .savePage k) →
          t.memory = s.memory)
      ∧ ∀ base n l, s.store.refused = false → torn = some l →
          (∃ k, s.store.op = .savePage k ∧ base = 32 * k ∧ n = 32)
            ∨ (s.store.op = .latchPage ∧ base = 512 ∧ n = 27) →
          (∀ i, i < n → i < l.length → t.memory.read (base + i) = byteAt l i)
          ∧ ∀ a, a < base ∨ base + min n l.length ≤ a → t.memory.read a = s.memory.read a)

/-- Everything that the invariants of Safety.lean ask holds right after power-on. -/
def Obligations.ResetMeetsInvariants : Prop :=
  State.reset.MemoryOk ∧ State.reset.table.Ok ∧ State.reset.CopiesOk ∧ State.reset.control.Ok
    ∧ State.reset.ChipOk ∧ State.reset.LinksOk ∧ State.reset.EnvelopeOk ∧ State.reset.DeferredOk

/-! ## Chapter 1: the links -/

/-- A frame of a kind the port does not accept is a protocol error, a frame of wrong structure is malformed: each
counts, sets the join run to 0 and changes nothing else (R5). A repeat counts, sets the join run to 0 and gives
LINK_FROZEN evidence; link state, sequence reference and freshness channel stay (R6). -/
def Obligations.DiscardedFrameOnlyCounts : Prop :=
  (∀ (p : Port) (body : List Byte) (s : State), (s.port p).inBreak = false → bodyError body = none →
      (acceptedKind p (bodyKind body) = none →
        exec (.frameReceived p body) s = .next { s with ports := s.ports.set p { s.port p with
          framer := .body, body := [], joinRun := 0
          counters := { (s.port p).counters with protocol := bump (s.port p).counters.protocol } } })
      ∧ (∀ k, acceptedKind p (bodyKind body) = some k → malformed k (bodyPayload body) = true →
        exec (.frameReceived p body) s = .next { s with ports := s.ports.set p { s.port p with
          framer := .body, body := [], joinRun := 0
          counters := { (s.port p).counters with malformed := bump (s.port p).counters.malformed } } }))
  ∧ (∀ (p : Port) (body : List Byte) (k : FrameKind) (s : State), (s.port p).inBreak = false →
      bodyError body = none → acceptedKind p (bodyKind body) = some k →
      malformed k (bodyPayload body) = false → (s.port p).seqRef = some (bodySeq body) →
      exec (.frameReceived p body) s = .next (State.deliver
        { s with ports := s.ports.set p { s.port p with
            framer := .body, body := [], joinRun := 0
            counters := { (s.port p).counters with repeats := bump (s.port p).counters.repeats } } }
        (.evidence p.unit .linkFrozen none)))

/-- What an accepted frame does to its port, its freshness channel and the link state (R6, R7, R8). The other ports,
the parameters, the controllers, the time and the memory stay. A link state notice is owed exactly when the link
state changed (07 R106), then what the three link clean observations hand on (R7, step 5; listed in the order of the
steps, log 3). An accepted COMMAND
delivers these three and nothing else to the fault table, reaches the service controller and leaves its observation
record; it is dropped and counted when the reply FIFO holds four (R15). -/
def Obligations.AcceptedFrameMovesLink : Prop :=
  (∀ (p : Port) (body : List Byte) (k : FrameKind) (s : State), (s.port p).inBreak = false →
      bodyError body = none → acceptedKind p (bodyKind body) = some k →
      malformed k (bodyPayload body) = false → (s.port p).seqRef ≠ some (bodySeq body) → ∃ t,
      exec (.frameReceived p body) s = .next t
      ∧ (t.port p).seqRef = some (bodySeq body) ∧ (t.port p).framer = .body ∧ (t.port p).body = []
      ∧ (t.port p).counters.good = bump (s.port p).counters.good
      ∧ (∀ r, (s.port p).seqRef = some r → bodySeq body ≠ r + 1#8 →
          (t.port p).counters.gaps = bump (s.port p).counters.gaps)
      ∧ ((s.port p).seqRef = none ∨ (s.port p).seqRef = some (bodySeq body - 1#8) →
          (t.port p).counters.gaps = (s.port p).counters.gaps)
      ∧ ((s.port p).link = .down ∨ (s.port p).link = .silent → (t.port p).link = .joining ∧ (t.port p).joinRun = 1)
      ∧ ((s.port p).link = .joining → (s.port p).seqRef = some (bodySeq body - 1#8) →
          ((s.port p).joinRun < 2 → (t.port p).link = .joining ∧ (t.port p).joinRun = (s.port p).joinRun + 1)
          ∧ ((s.port p).joinRun = 2 → (t.port p).link = .up ∧ (t.port p).joinRun = 3))
      ∧ ((s.port p).link = .joining → (∃ r, (s.port p).seqRef = some r ∧ bodySeq body ≠ r + 1#8) →
          (t.port p).link = .joining ∧ (t.port p).joinRun = 1)
      ∧ ((s.port p).link = .up → (t.port p).link = .up)
      ∧ t.timers = s.timers.set p.channel ⟨.running, p.channel.reloadValue s.working.params, 0⟩
      ∧ t.port p = { s.port p with
          framer := .body, body := [], seqRef := some (bodySeq body), link := (t.port p).link
          joinRun := (t.port p).joinRun
          counters := { (s.port p).counters with
            good := (t.port p).counters.good, gaps := (t.port p).counters.gaps
            dropped := (t.port p).counters.dropped } }
      ∧ (k ≠ .command ∨ s.replies.length < 4 → (t.port p).counters.dropped = (s.port p).counters.dropped)
      ∧ (∃ news, t.owed = ((s.noticing p (t.port p).link).deliverAll
          [.clean p.unit .linkLost, .clean p.unit .linkNoise, .clean p.unit .linkFrozen]).owed ++ news
        ∧ ∀ q, Owed.linkState q ∉ news)
      ∧ (∀ q, q ≠ p → t.port q = s.port q)
      ∧ t = { s with ports := t.ports, timers := t.timers, obs := t.obs, table := t.table, owed := t.owed })
  ∧ (∀ (body : List Byte) (s : State), s.ports.cockpit.inBreak = false → bodyError body = none →
      bodyKind body = 0x13 → malformed .command (bodyPayload body) = false →
      s.ports.cockpit.seqRef ≠ some (bodySeq body) → ∃ t,
      exec (.frameReceived .cockpit body) s = .next t ∧ t.obs = s.obs
      ∧ ∃ u : State, u = (s.noticing .cockpit t.ports.cockpit.link).deliverAll
          [.clean .cockpit .linkLost, .clean .cockpit .linkNoise, .clean .cockpit .linkFrozen]
        ∧ t.table = u.table
        ∧ (s.replies.length < 4 →
            t.owed = u.owed ++ [.command (commandOf (bodySeq body) (bodyPayload body))])
        ∧ (4 ≤ s.replies.length → t.owed = u.owed
            ∧ t.ports.cockpit.counters.dropped = min 65535 (s.ports.cockpit.counters.dropped + 1)))

/-- The six receive errors (R4): the body is discarded, the bad counter moves, the join run becomes 0, the
framer goes where R4 sends it, and LINK_NOISE evidence is delivered. A frame that fails the end-of-frame checks
is that receive error. -/
def Obligations.ReceiveErrorDiscardsFrame : Prop :=
  ∀ (p : Port) (e : RxError) (s : State), (s.port p).inBreak = false →
    exec (.receiveError p e) s = .next (State.deliver
      { s with ports := s.ports.set p { s.port p with
          framer := if e = .crcMismatch ∨ e = .lengthMismatch then .body else .hunt
          body := [], joinRun := 0
          counters := { (s.port p).counters with bad := bump (s.port p).counters.bad } } }
      (.evidence p.unit .linkNoise none))
    ∧ ∀ body, body ≠ [] → bodyError body = some e →
        exec (.frameReceived p body) s = exec (.receiveError p e) s

/-- A break takes the link DOWN in whatever state it finds it (R10): the counters, the sequence reference, the
join run, the grant slot and the freshness channel move, the record becomes stale, on the cockpit port the
replies are discarded and counted, a link state notice is owed for a link that was not DOWN (07 R106), and evidence
is delivered for a link that was UP or SILENT. -/
def Obligations.BreakTakesLinkDown : Prop :=
  ∀ (p : Port) (s : State), (s.port p).inBreak = false → (s.port p).inFrame = false → ∃ t,
    exec (.lineBreak p) s = .next t
    ∧ t.port p = { s.port p with
        framer := .hunt, body := [], inBreak := true, link := .down, seqRef := none, joinRun := 0, grant := none
        counters := { (s.port p).counters with
          breaks := bump (s.port p).counters.breaks
          dropped := if p = .cockpit then min 65535 ((s.port p).counters.dropped + s.replies.length)
            else (s.port p).counters.dropped } }
    ∧ (∀ q, q ≠ p → t.port q = s.port q)
    ∧ t.replies = (if p = .cockpit then [] else s.replies)
    ∧ t.timers = s.timers.set p.channel { s.timers.get p.channel with state := .armed, phase := 0 }
    ∧ t.obs = s.obs.stale p
    ∧ ((s.port p).link = .up ∨ (s.port p).link = .silent →
        t.table = (s.table.deliver s.working s.now (.evidence p.unit .linkLost none)).table
        ∧ t.owed = ((s.noticing p .down).deliver (.evidence p.unit .linkLost none)).owed)
    ∧ ((s.port p).link = .down ∨ (s.port p).link = .joining →
        t.table = s.table ∧ t.owed = (s.noticing p .down).owed)
    ∧ t = { s with
        ports := t.ports, replies := t.replies, timers := t.timers, obs := t.obs, table := t.table, owed := t.owed }

/-- A break in a frame is first a receive error and then a break (R4, R10); while a break lasts the receiver
recognises nothing further (R1). When it ends the framer is in HUNT with nothing gathered, and the link stays as it
is (R1, R2). -/
def Obligations.BreakInFrameAndBreakEnd : Prop :=
  (∀ (p : Port) (s : State),
      ((s.port p).inBreak = false → (s.port p).inFrame = true → ∃ t u,
        exec (.receiveError p .breakInFrame) s = .next t ∧ exec (.lineBreak p) t = .next u
        ∧ exec (.lineBreak p) s = .next u)
      ∧ ((s.port p).inBreak = true → ∀ (body : List Byte) (e : RxError) (i : RxItem),
        exec (.lineBreak p) s = .next s ∧ exec (.frameReceived p body) s = .next s
        ∧ exec (.receiveError p e) s = .next s ∧ exec (.byteReceived p i) s = .next s))
  ∧ (∀ (p : Port) (s : State), (s.port p).inBreak = true →
      exec (.breakEnd p) s = .next
        { s with ports := s.ports.set p { s.port p with inBreak := false, framer := .hunt, body := [] } })

/-- A freshness expiry (R9, 02 R26): a link in UP or JOINING enters SILENT with join run 0, its record becomes
stale with every stored value kept, a link state notice is owed (07 R106), and LINK_LOST evidence is delivered; the
sequence reference is kept. -/
def Obligations.FreshnessExpirySilencesLink : Prop :=
  ∀ (p : Port) (s : State), s.expiryInForce p.channel = true →
    (s.port p).link = .up ∨ (s.port p).link = .joining → ∃ t,
    exec (.freshnessExpiry p) s = .next t
    ∧ t.port p = { s.port p with link := .silent, joinRun := 0 }
    ∧ (∀ q, q ≠ p → t.port q = s.port q)
    ∧ t.obs = s.obs.stale p
    ∧ t.table = (s.table.deliver s.working s.now (.evidence p.unit .linkLost none)).table
    ∧ t.owed = (State.deliver { s with
        owed := s.owed.eraseP (Owed.isExpiry p.channel) ++ [.linkState p] } (.evidence p.unit .linkLost none)).owed
    ∧ (s.owes (Owed.isExpiry p.channel) = false → (t.timers.get p.channel).state = .stopped)
    ∧ (s.owes (Owed.isExpiry p.channel) = true → t.timers = s.timers)
    ∧ (∀ c, c ≠ p.channel → t.timers.get c = s.timers.get c)
    ∧ t = { s with ports := t.ports, timers := t.timers, obs := t.obs, table := t.table, owed := t.owed }

/-- The framer's table (R2), for a port that is not in a break. In HUNT everything but a delimiter is ignored;
in BODY bytes are appended, an escape byte is held, and a 46th byte is overlength; in ESCAPED the two pairs are
unescaped, a delimiter aborts in silence and everything else is a bad escape. A framing error in a frame is a
receive error. -/
def Obligations.FramerFollowsItsTable : Prop :=
  ∀ (p : Port) (s : State), (s.port p).inBreak = false →
    ((s.port p).framer = .hunt → ∀ i, i ≠ .byte 0xA5#8 → exec (.byteReceived p i) s = .next s)
    ∧ ((s.port p).framer = .hunt ∨ (s.port p).framer = .escaped
        ∨ ((s.port p).framer = .body ∧ (s.port p).body = []) →
        exec (.byteReceived p (.byte 0xA5#8)) s
          = .next { s with ports := s.ports.set p { s.port p with framer := .body, body := [] } })
    ∧ ((s.port p).framer = .body → (s.port p).body ≠ [] →
        exec (.byteReceived p (.byte 0xA5#8)) s = exec (.frameReceived p (s.port p).body) s)
    ∧ ((s.port p).framer = .body →
        exec (.byteReceived p (.byte 0xA6#8)) s
          = .next { s with ports := s.ports.set p { s.port p with framer := .escaped } })
    ∧ ((s.port p).framer = .body → ∀ b, b ≠ 0xA5#8 → b ≠ 0xA6#8 →
        ((s.port p).body.length < 45 → exec (.byteReceived p (.byte b)) s
          = .next { s with ports := s.ports.set p { s.port p with body := (s.port p).body ++ [b] } })
        ∧ (45 ≤ (s.port p).body.length →
            exec (.byteReceived p (.byte b)) s = exec (.receiveError p .overlength) s))
    ∧ ((s.port p).framer = .escaped → ∀ b c, (b = 0x25#8 ∧ c = 0xA5#8) ∨ (b = 0x26#8 ∧ c = 0xA6#8) →
        ((s.port p).body.length < 45 → exec (.byteReceived p (.byte b)) s
          = .next { s with ports := s.ports.set p { s.port p with
              framer := .body, body := (s.port p).body ++ [c] } })
        ∧ (45 ≤ (s.port p).body.length →
            exec (.byteReceived p (.byte b)) s = exec (.receiveError p .overlength) s))
    ∧ ((s.port p).framer = .escaped → ∀ b, b ≠ 0xA5#8 → b ≠ 0x25#8 → b ≠ 0x26#8 →
        exec (.byteReceived p (.byte b)) s = exec (.receiveError p .badEscape) s)
    ∧ ((s.port p).framer ≠ .hunt →
        exec (.byteReceived p .framingError) s = exec (.receiveError p .framingError) s)

/-- Escaping loses nothing: a body of 1 to 45 bytes, sent as R12 sends it and taken byte by byte by a framer in
HUNT, ends as that very frame received; and a frame as the block composes it passes the end-of-frame checks and
gives back its KIND, SEQ and payload (R2, R3, R12). -/
def Obligations.SentFrameIsReceivedWhole : Prop :=
  (∀ (p : Port) (body : List Byte) (s : State), (s.port p).inBreak = false → (s.port p).framer = .hunt →
    body ≠ [] → body.length ≤ 45 →
    execAll ((0xA5#8 :: body.flatMap escapeByte ++ [0xA5#8]).map fun b => .byteReceived p (.byte b)) s
      = exec (.frameReceived p body) s)
  ∧ ∀ (kind seq : Byte) (payload : List Byte), payload.length ≤ 40 →
    frameOnLine kind seq payload = 0xA5#8 :: (frameBody kind seq payload).flatMap escapeByte ++ [0xA5#8]
    ∧ (frameBody kind seq payload).length = payload.length + 5
    ∧ bodyError (frameBody kind seq payload) = none ∧ bodyKind (frameBody kind seq payload) = kind.toNat
    ∧ bodySeq (frameBody kind seq payload) = seq ∧ bodyPayload (frameBody kind seq payload) = payload

/-- An idle transmitter (R12, R13, R14): a waiting grant is taken first, which empties its slot; on the cockpit
port with no grant the next part of the oldest reply is taken, and the reply leaves with its last part. Each frame
takes the transmit sequence number as its SEQ, which then increases. With nothing to send nothing changes.
The bits of a grant's payload that 11 R193 does not assign are sent as 0 by the model's choice (log 35). -/
def Obligations.TransmitterTakesGrantThenReplyPart : Prop :=
  ∀ (p : Port) (s : State),
    (∀ g, (s.port p).grant = some g →
      exec (.transmitterTakeFrame p) s = .next { s with ports := s.ports.set p { s.port p with
        grant := none, txSeq := (s.port p).txSeq + 1#8
        txLine := frameOnLine g.kind (s.port p).txSeq g.payload } })
    ∧ ((s.port p).grant = none → p ≠ .cockpit → exec (.transmitterTakeFrame p) s = .next s)
    ∧ ((s.port p).grant = none → p = .cockpit → s.replies = [] → exec (.transmitterTakeFrame p) s = .next s)
    ∧ (∀ part rest rs, (s.port p).grant = none → p = .cockpit → s.replies = ⟨part :: rest⟩ :: rs →
      exec (.transmitterTakeFrame p) s = .next { s with
        replies := if rest = [] then rs else ⟨rest⟩ :: rs
        ports := s.ports.set p { s.port p with
          txSeq := (s.port p).txSeq + 1#8
          txLine := frameOnLine 0x23#8 (s.port p).txSeq part } })

/-! ## Chapters 2 and 3: observations, switch inputs and timers -/

/-- An accepted MOTOR_REPORT replaces the record of its motor as R19 and R20 give, field by field: taken, clamped
or held; the other records stay. The arrival notice carries the speed as stored (R29). The fault table takes the
link clean observations, one OBS_RANGE verdict with the lowest refused field, and the claims (R23, R24); what these
hand on is owed before the arrival notice, and after the link state notice of a link that changed (listed in the order
of the steps, log 3). -/
def Obligations.MotorReportReplacesRecord : Prop :=
  ∀ (m : Motor) (body : List Byte) (s : State), s.accepts (motorPort m) .motorReport body → ∃ t,
    exec (.frameReceived (motorPort m) body) s = .next t
    ∧ (t.obs.motor m).dcCurrent
        = (if -150 ≤ s16At (bodyPayload body) 0 ∧ s16At (bodyPayload body) 0 ≤ 250 then s16At (bodyPayload body) 0
            else (s.obs.motor m).dcCurrent)
    ∧ (t.obs.motor m).phaseCurrent = u8At (bodyPayload body) 2
    ∧ (t.obs.motor m).speed
        = (if u16At (bodyPayload body) 3 ≤ 1200 then u16At (bodyPayload body) 3 else (s.obs.motor m).speed)
    ∧ (t.obs.motor m).motorTemp
        = (if u8At (bodyPayload body) 5 ≤ 240 then (u8At (bodyPayload body) 5 : Int) - 40
            else (s.obs.motor m).motorTemp)
    ∧ (t.obs.motor m).inverterTemp
        = (if u8At (bodyPayload body) 6 ≤ 240 then (u8At (bodyPayload body) 6 : Int) - 40
            else (s.obs.motor m).inverterTemp)
    ∧ (t.obs.motor m).busVoltage
        = (if u16At (bodyPayload body) 7 ≤ 1000 then u16At (bodyPayload body) 7 else (s.obs.motor m).busVoltage)
    ∧ (t.obs.motor m).cDrive = u8At (bodyPayload body) 9
    ∧ (t.obs.motor m).cRegen = min (u8At (bodyPayload body) 10) 150
    ∧ (t.obs.motor m).gate
        = (if u8At (bodyPayload body) 11 = 0 then .blocked else if u8At (bodyPayload body) 11 = 1 then .switching
            else (s.obs.motor m).gate)
    ∧ (∀ k, k ∈ (t.obs.motor m).claims ↔ k ∈ claimable m.unit
        ∧ k.code ∈ claimCodes (bodyPayload body) 13 (u8At (bodyPayload body) 12))
    ∧ (t.obs.motor m).fresh = true ∧ (t.obs.motor m).arrival = s.now
    ∧ t.obs = s.obs.setMotor m (t.obs.motor m)
    ∧ ∃ u : State, t.table = u.table ∧ t.owed = u.owed ++ [.arrival (motorReporter m) (t.obs.motor m).speed]
      ∧ u = ((s.noticing (motorPort m) (t.port (motorPort m)).link).deliverAll (linkCleans m.unit)).reportVerdicts m.unit
        (if ¬ (-150 ≤ s16At (bodyPayload body) 0 ∧ s16At (bodyPayload body) 0 ≤ 250) then some 1
          else if 1200 < u16At (bodyPayload body) 3 then some 3
          else if 240 < u8At (bodyPayload body) 5 then some 4
          else if 240 < u8At (bodyPayload body) 6 then some 5
          else if 1000 < u16At (bodyPayload body) 7 then some 6
          else if 1 < u8At (bodyPayload body) 11 then some 9
          else if ∃ n ∈ claimCodes (bodyPayload body) 13 (u8At (bodyPayload body) 12),
              ∀ k ∈ claimable m.unit, k.code ≠ n then some 10
          else none) (t.obs.motor m).claims

/-- An accepted PACK_REPORT replaces the pack record as R19 and R21 give; the other records stay, and no arrival
notice is given (R29). -/
def Obligations.PackReportReplacesRecord : Prop :=
  ∀ (body : List Byte) (s : State), s.accepts .pack .packReport body → ∃ t,
    exec (.frameReceived .pack body) s = .next t
    ∧ t.obs.pack.voltage
        = (if u16At (bodyPayload body) 0 ≤ 1000 then u16At (bodyPayload body) 0 else s.obs.pack.voltage)
    ∧ t.obs.pack.current
        = (if -150 ≤ s16At (bodyPayload body) 2 ∧ s16At (bodyPayload body) 2 ≤ 250 then s16At (bodyPayload body) 2
            else s.obs.pack.current)
    ∧ t.obs.pack.iDis = u8At (bodyPayload body) 4 ∧ t.obs.pack.iChg = min (u8At (bodyPayload body) 5) 150
    ∧ t.obs.pack.soc = min (u8At (bodyPayload body) 6) 100
    ∧ t.obs.pack.minCell
        = (if u16At (bodyPayload body) 7 ≤ 5000 then u16At (bodyPayload body) 7 else s.obs.pack.minCell)
    ∧ t.obs.pack.maxCellTemp
        = (if u8At (bodyPayload body) 9 ≤ 240 then (u8At (bodyPayload body) 9 : Int) - 40
            else s.obs.pack.maxCellTemp)
    ∧ t.obs.pack.contactor
        = (if u8At (bodyPayload body) 10 = 0 then .opened else if u8At (bodyPayload body) 10 = 1 then .precharge
            else if u8At (bodyPayload body) 10 = 2 then .closed else s.obs.pack.contactor)
    ∧ (∀ k, k ∈ t.obs.pack.claims ↔ k ∈ claimable .pack
        ∧ k.code ∈ claimCodes (bodyPayload body) 12 (u8At (bodyPayload body) 11))
    ∧ t.obs.pack.fresh = true ∧ t.obs.pack.arrival = s.now
    ∧ t.obs = { s.obs with pack := t.obs.pack }
    ∧ ∃ u : State, t.table = u.table ∧ t.owed = u.owed
      ∧ u = ((s.noticing .pack (t.port .pack).link).deliverAll (linkCleans .pack)).reportVerdicts .pack
        (if 1000 < u16At (bodyPayload body) 0 then some 1
          else if ¬ (-150 ≤ s16At (bodyPayload body) 2 ∧ s16At (bodyPayload body) 2 ≤ 250) then some 2
          else if 5000 < u16At (bodyPayload body) 7 then some 6
          else if 240 < u8At (bodyPayload body) 9 then some 7
          else if 2 < u8At (bodyPayload body) 10 then some 8
          else if ∃ n ∈ claimCodes (bodyPayload body) 12 (u8At (bodyPayload body) 11),
              ∀ k ∈ claimable .pack, k.code ≠ n then some 9
          else none) t.obs.pack.claims

/-- An accepted DEMAND replaces the cockpit record as R19, R22 and R25 give: a drive demand above 1000 is stored as
0, a brake request is clamped, an unknown profile is held. The notice carries the demand as stored (R29). -/
def Obligations.DemandReplacesCockpitRecord : Prop :=
  ∀ (body : List Byte) (s : State), s.accepts .cockpit .demand body → ∃ t,
    exec (.frameReceived .cockpit body) s = .next t
    ∧ t.obs.cockpit.demand = (if u16At (bodyPayload body) 0 ≤ 1000 then u16At (bodyPayload body) 0 else 0)
    ∧ t.obs.cockpit.brake = min (u16At (bodyPayload body) 2) 1000
    ∧ t.obs.cockpit.profile
        = (if u8At (bodyPayload body) 4 = 0 then .eco else if u8At (bodyPayload body) 4 = 1 then .tour
            else if u8At (bodyPayload body) 4 = 2 then .sport else s.obs.cockpit.profile)
    ∧ (∀ k, k ∈ t.obs.cockpit.claims ↔
        (k = .throttleImplausible ∧ (byteAt (bodyPayload body) 5).getLsbD 0 = true)
        ∨ (k = .brakeSensorFault ∧ (byteAt (bodyPayload body) 5).getLsbD 1 = true)
        ∨ (k = .controlSwitchStuck ∧ (byteAt (bodyPayload body) 5).getLsbD 2 = true))
    ∧ t.obs.cockpit.fresh = true ∧ t.obs.cockpit.arrival = s.now
    ∧ t.obs = { s.obs with cockpit := t.obs.cockpit }
    ∧ ∃ u : State, t.table = u.table ∧ t.owed = u.owed ++ [.arrival .cockpit t.obs.cockpit.demand]
      ∧ u = ((s.noticing .cockpit (t.port .cockpit).link).deliverAll (linkCleans .cockpit)).reportVerdicts .cockpit
        (if 1000 < u16At (bodyPayload body) 0 then some 1 else if 2 < u8At (bodyPayload body) 4 then some 3
          else none) t.obs.cockpit.claims

/-- At a step of the time base the time moves by one; each switch filter samples its line (R31): an equal sample
clears the run count, a different one counts, and the fifth changes the accepted state and is delivered; each RUNNING
channel counts (R35), and one whose count reaches 0 delivers one expiry and moves by its mode (R36), while a channel
in another state stays as it is and delivers nothing. That the accepted state moves in this very step, so that an
expiry the step owes reads the new one, is the model's choice (R33, log 33). That the external memory's own write is
6 such steps long, of which this is one, is the model's reading of R176 (log 11). -/
def Obligations.TimeBaseStepMovesChannelsAndFilters : Prop :=
  (∀ (brake stand wake : Bool) (s : State), ∃ t news,
      exec (.timeBaseStep brake stand wake) s = .next t
      ∧ t.now = s.now + 1#32
      ∧ (∀ f g : SwitchFilter, ∀ level : Bool,
          (f = s.switches.brake ∧ g = t.switches.brake ∧ level = brake)
            ∨ (f = s.switches.stand ∧ g = t.switches.stand ∧ level = stand)
            ∨ (f = s.switches.wake ∧ g = t.switches.wake ∧ level = wake) →
          (level = f.asserted → g = ⟨f.asserted, 0⟩)
          ∧ (level ≠ f.asserted → f.run < 4 → g = ⟨f.asserted, f.run + 1⟩)
          ∧ (level ≠ f.asserted → 4 ≤ f.run → g = ⟨level, 0⟩))
      ∧ t.owed = s.owed ++ news
      ∧ (∀ a, Owed.switchChange .brake a ∈ news ↔ a = brake ∧ a ≠ s.switches.brake.asserted ∧ 4 ≤ s.switches.brake.run)
      ∧ (∀ a, Owed.switchChange .stand a ∈ news ↔ a = stand ∧ a ≠ s.switches.stand.asserted ∧ 4 ≤ s.switches.stand.run)
      ∧ (∀ a, Owed.wakeChange a ∈ news ↔ a = wake ∧ a ≠ s.switches.wake.asserted ∧ 4 ≤ s.switches.wake.run)
      ∧ t.memoryBusy = s.memoryBusy - 1
      ∧ t = { s with
          now := t.now, timers := t.timers, switches := t.switches, memoryBusy := t.memoryBusy, owed := t.owed })
  ∧ (∀ (brake stand wake : Bool) (s : State), ∃ t news,
      exec (.timeBaseStep brake stand wake) s = .next t
      ∧ (∀ c : Chan,
        ((s.timers.get c).state ≠ .running → t.timers.get c = s.timers.get c)
        ∧ ((s.timers.get c).state = .running → (s.timers.get c).phase + 1 < c.tick →
            t.timers.get c = { s.timers.get c with phase := (s.timers.get c).phase + 1 })
        ∧ ((s.timers.get c).state = .running → c.tick ≤ (s.timers.get c).phase + 1 → 2 ≤ (s.timers.get c).count →
            t.timers.get c = ⟨.running, (s.timers.get c).count - 1, 0⟩)
        ∧ ((s.timers.get c).state = .running → c.tick ≤ (s.timers.get c).phase + 1 → (s.timers.get c).count ≤ 1 →
            (c.mode = .oneShot → t.timers.get c = ⟨.stopped, 0, 0⟩)
            ∧ (c.mode = .reload → t.timers.get c = ⟨.running, c.reloadValue s.working.params, 0⟩))
        ∧ (∀ f, Owed.expiry c f ∈ news ↔ f = true ∧ (s.timers.get c).state = .running
            ∧ c.tick ≤ (s.timers.get c).phase + 1 ∧ (s.timers.get c).count ≤ 1))
      ∧ t.owed = s.owed ++ news)

/-- SWITCH_CHANGE_ACCEPTED (R31, R32): a change the filter has delivered is taken, the accepted state standing as
the filter left it; with none delivered, the filter accepts the level now (the model's choice, log 4). -/
def Obligations.SwitchChangeIsAccepted : Prop :=
  ∀ (sw : Switch) (level : Bool) (s : State),
    (Owed.switchChange sw level ∈ s.owed → ∃ t,
      exec (.switchChangeAccepted sw level) s = .next t
      ∧ t = { s with owed := s.owed.erase (.switchChange sw level) })
    ∧ (Owed.switchChange sw level ∉ s.owed → (s.switches.get sw).asserted ≠ level → ∃ t,
      exec (.switchChangeAccepted sw level) s = .next t
      ∧ t.switches.get sw = ⟨level, 0⟩ ∧ t.switches.wake = s.switches.wake
      ∧ (∀ o, o ≠ sw → t.switches.get o = s.switches.get o)
      ∧ t = { s with switches := t.switches })
    ∧ (Owed.switchChange sw level ∉ s.owed → (s.switches.get sw).asserted = level →
      exec (.switchChangeAccepted sw level) s = .next s)

/-- ARM, START (and RESTART, which has the same effect) and STOP (R37 to R40): what each makes of its channel in
every state; the other channels stay, and an expiry of the channel that its owner has not taken yet loses its
force, so that a countdown an operation ends gives no expiry. -/
def Obligations.TimerOperationsMoveTheirChannel : Prop :=
  ∀ (s : State) (c : Chan),
    (s.arm c).timers.get c = { s.timers.get c with state := .armed, phase := 0 }
    ∧ ((s.timers.get c).state = .armed → (s.timers.get c).phase = 0 → (s.arm c).timers.get c = s.timers.get c)
    ∧ (s.start c).timers.get c = ⟨.running, c.reloadValue s.working.params, 0⟩
    ∧ (s.stop c).timers.get c = { s.timers.get c with state := .stopped, phase := 0 }
    ∧ ((s.timers.get c).state = .stopped → (s.timers.get c).phase = 0 → (s.stop c).timers.get c = s.timers.get c)
    ∧ ∀ t, t = s.arm c ∨ t = s.start c ∨ t = s.stop c →
        (∀ d, d ≠ c → t.timers.get d = s.timers.get d)
        ∧ (∀ f, Owed.expiry c f ∈ t.owed → f = false)
        ∧ (∀ e, Owed.isExpiry c e = false → (e ∈ t.owed ↔ e ∈ s.owed))
        ∧ t = { s with timers := t.timers, owed := t.owed }

/-! ## Chapters 4, 10 and 11: rows, parameters, the image and the latch list -/

/-- Validation at a leave reports the first failure (R60 to R62): the five parameter relations in number order,
then the two row relations, row by row in ascending kind code; it succeeds exactly when all hold. -/
def Obligations.ValidationReportsFirstFailure : Prop :=
  ∀ c : Copy,
    (c.relationFailure = none ↔
      c.params.thermStart + 5 ≤ c.params.thermStop ∧ c.params.walkSpeed ≤ c.params.limpSpeed
      ∧ c.params.limpSpeed ≤ c.params.ecoSpeed ∧ c.params.limpSpeed ≤ c.params.tourSpeed
      ∧ c.params.limpSpeed ≤ c.params.sportSpeed ∧ c.params.walkPct ≤ c.params.limpPct
      ∧ c.params.ecoPct ≤ c.params.tourPct ∧ c.params.tourPct ≤ c.params.sportPct
      ∧ ∀ k, ((c.rows.get k).packOpen = true → (c.rows.get k).floor = .halt)
          ∧ ((c.rows.get k).enabled = true → (c.rows.get k).isolate = true → (c.rows.get k).floor ≠ .full))
    ∧ (∀ n, c.relationFailure = some ⟨.paramRelation, n⟩ →
        1 ≤ n ∧ n ≤ 5
        ∧ (n = 1 ↔ ¬ c.params.thermStart + 5 ≤ c.params.thermStop)
        ∧ (n = 2 → ¬ c.params.walkSpeed ≤ c.params.limpSpeed)
        ∧ (2 < n → c.params.walkSpeed ≤ c.params.limpSpeed)
        ∧ (n = 3 → ¬ (c.params.limpSpeed ≤ c.params.ecoSpeed ∧ c.params.limpSpeed ≤ c.params.tourSpeed
            ∧ c.params.limpSpeed ≤ c.params.sportSpeed))
        ∧ (3 < n → c.params.limpSpeed ≤ c.params.ecoSpeed ∧ c.params.limpSpeed ≤ c.params.tourSpeed
            ∧ c.params.limpSpeed ≤ c.params.sportSpeed)
        ∧ (n = 4 → ¬ c.params.walkPct ≤ c.params.limpPct)
        ∧ (4 < n → c.params.walkPct ≤ c.params.limpPct)
        ∧ (n = 5 → ¬ (c.params.ecoPct ≤ c.params.tourPct ∧ c.params.tourPct ≤ c.params.sportPct)))
    ∧ (∀ n, c.relationFailure = some ⟨.rowRelation, n⟩ → paramRelationFailure c.params = none
        ∧ ∃ k : Kind, k.code = n ∧ (c.rows.get k).relationsHold = false
          ∧ ∀ j : Kind, j.code < n → (c.rows.get j).relationsHold = true)
    ∧ (∀ f, c.relationFailure = some f → f.cls = .paramRelation ∨ f.cls = .rowRelation)

/-- A row in its ranges and its six bytes say the same, both ways (R49, R196). An image that a SAVE composes is 232
bytes, passes the CRC and header tests, and gives back every parameter and every row; when the copy is in its ranges,
keeps the locked rows and meets the relations, the load tests take it as valid (R62, R179, R197). A latch list of up
to eight sound entries is 27 bytes and passes its tests with exactly those entries (R180, R198, R199). -/
def Obligations.StoredImageAndLatchListReadBack : Prop :=
  ((∀ r : Row, r.inRange = true → Row.decode r.encode = some r)
    ∧ ∀ (b : RowBytes) (r : Row), Row.decode b = some r → r.inRange = true ∧ r.encode = b)
  ∧ ((∀ c : Copy, c.params.inRange →
      (∀ k, (c.rows.get k).confirm ≤ 255 ∧ (c.rows.get k).heal ≤ 255 ∧ (c.rows.get k).recur ≤ 255
        ∧ (c.rows.get k).derate ≤ 255) →
      (encodeImage c).length = 232 ∧ imageCrcGood (encodeImage c) = true ∧ imageHeaderGood (encodeImage c) = true
      ∧ imageCopy (encodeImage c) = c
      ∧ ((∀ k, (c.rows.get k).inRange = true) → c.rows.lockedBuiltin → c.relationFailure = none →
          testImage (encodeImage c) = .valid c))
    ∧ ∀ es : List LatchEntry, es.length ≤ 8 →
      (∀ e ∈ es, allowedPair e.unit e.kind = true ∧ 1 ≤ e.occurrences ∧ e.occurrences ≤ 15) →
      (encodeLatches es).length = 27 ∧ testLatches (encodeLatches es) = .valid es)

/-! ## Chapter 5: the fault table -/

/-- Evidence under an enabled row for a pair that holds a record (R66, R68, R69, R87): the record it finds, state
by state; a confirmation counts the occurrence, may escalate, and suspends a running sweep. Every other pair's
record stays. Under a disabled row evidence is taken without effect (R54). The event is announced exactly if it is a
containment change (R78), for this record a confirmation or a return from LATCHED, and requests a latch-list rewrite
exactly if it confirms under WORKSHOP or the policy in effect crosses WORKSHOP (R80). A delivery, of either sort, puts
one announcement and one request among what is owed accordingly, and deliveries are taken one after another. -/
def Obligations.EvidenceMovesExistingRecord : Prop :=
  (∀ (s : State) (d : Delivery) (o : TableOut),
    (∀ u k v, d = .evidence u k v → o = s.table.evidence s.working s.now u k v) →
    (∀ u k, d = .clean u k → o = s.table.clean s.working u k) → ∃ news,
    s.deliver d = { s with table := o.table, owed := s.owed ++ news }
    ∧ (∀ e ∈ news, e = .announcement ∨ e = .latchRequest)
    ∧ news.count .announcement = (if o.announce then 1 else 0) ∧ news.count .latchRequest = (if o.request then 1 else 0)
    ∧ s.deliverAll [] = s ∧ ∀ ds, s.deliverAll (d :: ds) = (s.deliver d).deliverAll ds)
  ∧ ∀ (t : FaultTable) (c : Copy) (now : Time) (u : FaultUnit) (k : Kind) (v : Option EvidenceValue) (r : FaultRecord),
    t.recordOf u k = some r → r.run < 255 →
    ((c.rows.get k).enabled = false → t.evidence c now u k v = ⟨t, false, false⟩)
    ∧ ((c.rows.get k).enabled = true → ∃ r',
      (t.evidence c now u k v).table.recordOf u k = some r'
      ∧ r'.unit = u ∧ r'.kind = k ∧ r'.lastEvidence = now ∧ r'.mark = r.mark
      ∧ r'.value = (if k.carriesValue then v else none)
      ∧ (r.state = .active → r'.state = .active ∧ r'.run = r.run)
      ∧ (r.state = .clearing ∨ r.state = .latched → r'.state = .active ∧ r'.run = 0)
      ∧ (r.state = .pending → r.run + 1 < (c.rows.get k).confirm →
          r'.state = .pending ∧ r'.run = r.run + 1 ∧ r'.age = 0)
      ∧ (r.state = .dormant → 1 < (c.rows.get k).confirm → r'.state = .pending ∧ r'.run = 1 ∧ r'.age = 0)
      ∧ (r.state = .active ∨ r.state = .clearing ∨ r.state = .latched
            ∨ (r.state = .pending ∧ r.run + 1 < (c.rows.get k).confirm)
            ∨ (r.state = .dormant ∧ 1 < (c.rows.get k).confirm) →
          r'.occurrences = r.occurrences ∧ r'.firstConfirmed = r.firstConfirmed ∧ r'.escalated = r.escalated
          ∧ r'.policy = (if r.escalated then r.policy else (c.rows.get k).policy)
          ∧ (t.evidence c now u k v).table.sweep = t.sweep)
      ∧ ((r.state = .pending ∧ (c.rows.get k).confirm ≤ r.run + 1)
            ∨ (r.state = .dormant ∧ (c.rows.get k).confirm ≤ 1) →
          r'.state = .active ∧ r'.run = 0 ∧ r'.occurrences = min 15 (r.occurrences + 1)
          ∧ r'.firstConfirmed = some (r.firstConfirmed.getD now)
          ∧ (0 < (c.rows.get k).recur → (c.rows.get k).recur ≤ r'.occurrences →
              r'.escalated = true ∧ r'.policy = .workshop)
          ∧ ((c.rows.get k).recur = 0 ∨ r'.occurrences < (c.rows.get k).recur →
              r'.escalated = r.escalated ∧ r'.policy = (if r.escalated then r.policy else (c.rows.get k).policy))
          ∧ (t.evidence c now u k v).table.sweep
              = (if t.sweep.state = .running then { t.sweep with state := .suspended } else t.sweep))
      ∧ (∀ u' k', (u', k') ≠ (u, k) → (t.evidence c now u k v).table.recordOf u' k' = t.recordOf u' k')
      ∧ (t.evidence c now u k v).table.tableFull = t.tableFull ∧ (t.evidence c now u k v).table.lost = t.lost
      ∧ ((t.evidence c now u k v).announce = true ↔ t.ContainmentChange (t.evidence c now u k v).table)
      ∧ ∀ confirmed : Prop,
        (confirmed ↔ (r.state = .pending ∧ (c.rows.get k).confirm ≤ r.run + 1)
          ∨ (r.state = .dormant ∧ (c.rows.get k).confirm ≤ 1)) →
        ((t.evidence c now u k v).request = true ↔ (confirmed ∧ r'.policy = .workshop)
          ∨ (r.policy = .workshop ∧ r'.policy ≠ .workshop) ∨ (r.policy ≠ .workshop ∧ r'.policy = .workshop))
        ∧ (t.Ok → ((t.evidence c now u k v).announce = true ↔ confirmed ∨ r.state = .latched)))

/-- Evidence under an enabled row for a pair without a record (R67, R69, R76, R77): the lowest empty slot is taken;
with none, the slot of the DORMANT record with the oldest last evidence, else of the PENDING record with occurrences
0 and the oldest; with none of these the evidence is lost and TABLE_FULL set. Under a disabled row it has no effect
(R54). The event is announced exactly if it is a containment change (R78): a confirmation, or a change of TABLE_FULL;
it requests a rewrite exactly if it confirms under WORKSHOP or evicts a record whose policy is WORKSHOP (R75, R80). A
confirmation suspends a running sweep (R87). -/
def Obligations.EvidenceMakesOrLosesRecord : Prop :=
  ∀ (t : FaultTable) (c : Copy) (now : Time) (u : FaultUnit) (k : Kind) (v : Option EvidenceValue),
    t.recordOf u k = none →
    ((c.rows.get k).enabled = false → t.evidence c now u k v = ⟨t, false, false⟩)
    ∧ ((c.rows.get k).enabled = true →
    (∀ i, i < t.slots.length →
      ((t.slot i = none ∧ ∀ j, j < i → t.slot j ≠ none)
        ∨ ((∀ j, j < t.slots.length → t.slot j ≠ none)
            ∧ ∃ d, t.slot i = some d ∧ d.state = .dormant
              ∧ ∀ j e, t.slot j = some e → e.state = .dormant →
                e.evidenceAge now < d.evidenceAge now ∨ (e.evidenceAge now = d.evidenceAge now ∧ i ≤ j))
        ∨ ((∀ j e, t.slot j = some e → e.state ≠ .dormant) ∧ (∀ j, j < t.slots.length → t.slot j ≠ none)
            ∧ ∃ d, t.slot i = some d ∧ d.state = .pending ∧ d.occurrences = 0
              ∧ ∀ j e, t.slot j = some e → e.state = .pending → e.occurrences = 0 →
                e.evidenceAge now < d.evidenceAge now ∨ (e.evidenceAge now = d.evidenceAge now ∧ i ≤ j))) →
      ∃ r, (t.evidence c now u k v).table.slot i = some r
        ∧ r.unit = u ∧ r.kind = k ∧ r.lastEvidence = now ∧ r.age = 0 ∧ r.mark = false
        ∧ r.value = (if k.carriesValue then v else none)
        ∧ (1 < (c.rows.get k).confirm → r.state = .pending ∧ r.run = 1 ∧ r.occurrences = 0
            ∧ r.policy = (c.rows.get k).policy ∧ r.escalated = false ∧ r.firstConfirmed = none)
        ∧ ((c.rows.get k).confirm ≤ 1 → r.state = .active ∧ r.run = 0 ∧ r.occurrences = 1
            ∧ r.firstConfirmed = some now ∧ (r.escalated = true ↔ (c.rows.get k).recur = 1)
            ∧ r.policy = (if (c.rows.get k).recur = 1 then .workshop else (c.rows.get k).policy))
        ∧ (∀ j, j ≠ i → (t.evidence c now u k v).table.slot j = t.slot j)
        ∧ (t.evidence c now u k v).table.tableFull = (t.tableFull && (t.slot i).isNone)
        ∧ (t.evidence c now u k v).table.lost = t.lost
        ∧ (t.evidence c now u k v).table.sweep
            = (if (c.rows.get k).confirm ≤ 1 ∧ t.sweep.state = .running then { t.sweep with state := .suspended }
                else t.sweep)
        ∧ ((t.evidence c now u k v).announce = true ↔ t.ContainmentChange (t.evidence c now u k v).table)
        ∧ ((t.evidence c now u k v).announce = true ↔ (c.rows.get k).confirm ≤ 1
            ∨ (t.tableFull = true ∧ t.slot i ≠ none))
        ∧ ((t.evidence c now u k v).request = true ↔ ((c.rows.get k).confirm ≤ 1 ∧ r.policy = .workshop)
            ∨ ∃ d, t.slot i = some d ∧ d.policy = .workshop))
    ∧ ((∀ j, j < t.slots.length → ∃ e, t.slot j = some e ∧ e.state ≠ .dormant
          ∧ (e.state = .pending → 0 < e.occurrences)) →
        t.evidence c now u k v = ⟨{ t with tableFull := true, lost := min 65535 (t.lost + 1) }, !t.tableFull, false⟩))

/-- A clean observation (R70, R71, R54): without a record nothing; else the record by its state and its policy in
effect, which an AUTO row heals through CLEARING to DORMANT and a KEY or WORKSHOP policy latches. Every other pair's
record stays. The event is announced exactly if it is a containment change (R78), and requests a rewrite exactly if
the policy in effect crosses WORKSHOP or the record is freed under WORKSHOP (R75, R80). -/
def Obligations.CleanObservationHealsOrLatches : Prop :=
  ∀ (t : FaultTable) (c : Copy) (u : FaultUnit) (k : Kind), t.Ok →
    (t.recordOf u k = none → t.clean c u k = ⟨t, false, false⟩)
    ∧ (∀ u' k', (u', k') ≠ (u, k) → (t.clean c u k).table.recordOf u' k' = t.recordOf u' k')
    ∧ (t.clean c u k).table.lost = t.lost ∧ (t.clean c u k).table.sweep = t.sweep
    ∧ ∀ r pol dormant, t.recordOf u k = some r → r.run < 255 →
      pol = (if r.escalated then r.policy else (c.rows.get k).policy) →
      dormant = (if (c.rows.get k).enabled then
        some { r with policy := pol, state := .dormant, run := 0, age := 0 } else none) →
      (t.clean c u k).table.tableFull = (t.tableFull && ((t.clean c u k).table.recordOf u k).isSome)
      ∧ ((t.clean c u k).announce = true ↔ t.ContainmentChange (t.clean c u k).table)
      ∧ (r.state = .active ∨ r.state = .clearing → pol ≠ .auto → (t.clean c u k).announce = true)
      ∧ (r.state = .latched ∨ r.state = .dormant → (t.clean c u k).announce = false)
      ∧ (r.state = .latched → (t.clean c u k).request = false)
      ∧ (r.state ≠ .latched → ((t.clean c u k).request = true ↔ (r.policy = .workshop ∧ pol ≠ .workshop)
          ∨ (r.policy ≠ .workshop ∧ pol = .workshop)
          ∨ (pol = .workshop ∧ (t.clean c u k).table.recordOf u k = none)))
      ∧ (r.state = .pending → (t.clean c u k).table.recordOf u k = if 0 < r.occurrences then dormant else none)
      ∧ (r.state = .active → pol = .auto → (t.clean c u k).table.recordOf u k
          = if (c.rows.get k).heal ≤ 1 then dormant
            else some { r with policy := pol, state := .clearing, run := 1 })
      ∧ (r.state = .clearing → pol = .auto → (t.clean c u k).table.recordOf u k
          = if (c.rows.get k).heal ≤ r.run + 1 then dormant
            else some { r with policy := pol, run := r.run + 1 })
      ∧ (r.state = .active ∨ r.state = .clearing → pol ≠ .auto → (t.clean c u k).table.recordOf u k
          = some { r with policy := pol, state := .latched, run := 0 })
      ∧ (r.state = .latched → (t.clean c u k).table.recordOf u k = some r)
      ∧ (r.state = .dormant → (t.clean c u k).table.recordOf u k = some { r with policy := pol })

/-- A RECORD_TICK expiry ages every PENDING and DORMANT record, in every slot (R72): a DORMANT record is freed and a
PENDING one falls back when its age reaches the window; ACTIVE, CLEARING and LATCHED records stay. A freed slot clears
TABLE_FULL (R75); a containment change is announced, and the freeing of a WORKSHOP record requests a rewrite (R78,
R80). -/
def Obligations.RecordTickAgesRecords : Prop :=
  ∀ s : State, s.expiryInForce .recordTick = true → ∃ t,
    exec .recordTickExpiry s = .next t
    ∧ (∀ i, s.table.slot i = none → t.table.slot i = none)
    ∧ (∀ i r, s.table.slot i = some r →
      (r.state = .active ∨ r.state = .clearing ∨ r.state = .latched → t.table.slot i = some r)
      ∧ (r.state = .pending ∨ r.state = .dormant → r.age < 65535 →
          r.age + 1 < s.working.params.dormantWindow → t.table.slot i = some { r with age := r.age + 1 })
      ∧ (r.state = .dormant → s.working.params.dormantWindow ≤ r.age + 1 → r.age < 65535 →
          t.table.slot i = none)
      ∧ (r.state = .pending → s.working.params.dormantWindow ≤ r.age + 1 → r.age < 65535 →
          t.table.slot i = (if 0 < r.occurrences ∧ (s.working.rows.get r.kind).enabled = true then
            some { r with state := .dormant, run := 0, age := 0 } else none)))
    ∧ t.table.lost = s.table.lost ∧ t.table.sweep = s.table.sweep
    ∧ (t.table.tableFull = true ↔ s.table.tableFull = true ∧ ∀ i r, s.table.slot i = some r → t.table.slot i ≠ none)
    ∧ (∃ news, t.owed = s.owed.eraseP (Owed.isExpiry .recordTick) ++ news
      ∧ s.table.Notifies t.table (s.table.LosesWorkshop t.table) news)
    ∧ (s.owes (Owed.isExpiry .recordTick) = false →
        t.timers.get .recordTick = ⟨.running, 1, 0⟩)
    ∧ t = { s with timers := t.timers, table := t.table, owed := t.owed }

/-- One examination of a RUNNING sweep (R85, R86): it frees a marked, matching record that is LATCHED or DORMANT,
stops at a live one in STOP_AT_LIVE, passes everything else, and then moves on or ends. A freed LATCHED record, or a
freed slot that clears TABLE_FULL, is announced, and the freeing of a WORKSHOP record requests a rewrite (R75, R78,
R80). -/
def Obligations.SweepExaminationFreesPassesOrStops : Prop :=
  ∀ (s : State) (w : Sweep), s.table.sweep = w → w.state = .running → ∃ t,
    exec .sweepExamination s = .next t
    ∧ t.table.lost = s.table.lost ∧ t = { s with table := t.table, owed := t.owed }
    ∧ ((∃ r, s.table.slot w.cursor = some r ∧ r.mark = true ∧ w.matchesRecord r = true
          ∧ (r.state = .pending ∨ r.state = .active ∨ r.state = .clearing) ∧ w.mode = .stopAtLive) →
        t.table.sweep = { w with state := .idle, outcome := .hitLive }
        ∧ t.table.tableFull = s.table.tableFull ∧ t.owed = s.owed
        ∧ ∀ i, t.table.slot i = (s.table.slot i).map fun r => { r with mark := false })
    ∧ (∀ freed : Bool,
        (freed = true ↔ ∃ r, s.table.slot w.cursor = some r ∧ r.mark = true ∧ w.matchesRecord r = true
          ∧ (r.state = .latched ∨ r.state = .dormant)) →
        (freed = false → w.mode = .stopAtLive → ∀ r, s.table.slot w.cursor = some r → r.mark = true →
          w.matchesRecord r = false) →
        t.table.tableFull = (s.table.tableFull && !freed)
        ∧ (freed = false → t.owed = s.owed)
        ∧ (∃ news, t.owed = s.owed ++ news ∧ s.table.Notifies t.table (s.table.LosesWorkshop t.table) news)
        ∧ ∃ o st, t.table.sweep = { w with
              state := st, outcome := o, remaining := w.remaining - 1, cursor := w.cursor + 1
              cleared := if freed then w.cleared + 1 else w.cleared }
          ∧ (w.remaining ≤ 1 → st = .idle ∧ o = .countDone)
          ∧ (2 ≤ w.remaining → 39 ≤ w.cursor → st = .idle ∧ o = .endOfTable)
          ∧ (2 ≤ w.remaining → w.cursor < 39 → st = .running ∧ o = w.outcome)
          ∧ (∀ i, i ≠ w.cursor ∨ freed = false →
              t.table.slot i = if st = .idle then (s.table.slot i).map fun r => { r with mark := false }
                else s.table.slot i)
          ∧ (freed = true → t.table.slot w.cursor = none))

/-! ## Chapter 6: the cross-check monitor -/

/-- A CHECK expiry (R90, R92 to R98): the verdicts of the six comparisons, each none when its conditions are not
met, reach the fault table in the order of R90; the grace flag of every watched motor is consumed. A motor is a suspect
while the table holds a record of its unit, other than a CUR_BALANCE one, that is not DORMANT (05 R79). -/
def Obligations.CheckExpiryDeliversVerdictsInOrder : Prop :=
  (∀ (t : FaultTable) (m : Motor), t.suspect m.unit = true ↔ ∃ i r, t.slot i = some r ∧ r.unit = m.unit
      ∧ r.kind ≠ .curBalance
      ∧ (r.state = .pending ∨ r.state = .active ∨ r.state = .clearing ∨ r.state = .latched))
  ∧ ∀ s : State, s.expiryInForce .check = true → ∃ t,
    exec .checkExpiry s = .next t
    ∧ t = { s with timers := t.timers, monitor := t.monitor, table := t.table, owed := t.owed }
    ∧ t.monitor = { s.monitor with
        graceFront := s.monitor.graceFront && !s.monitor.watchFront
        graceRear := s.monitor.graceRear && !s.monitor.watchRear }
    ∧ ∃ balance split brake stand watchFront watchRear,
      t.table = (s.deliverAll (balance ++ split ++ brake ++ stand ++ watchFront ++ watchRear)).table
      ∧ t.owed = (State.deliverAll { s with owed := s.owed.eraseP (Owed.isExpiry .check) }
          (balance ++ split ++ brake ++ stand ++ watchFront ++ watchRear)).owed
      ∧ (∀ r tol, r = (s.obs.pack.current - (s.obs.front.dcCurrent + s.obs.rear.dcCurrent)).natAbs →
          tol = max s.working.params.balAbs (s.obs.pack.current.natAbs * s.working.params.balRel / 100) →
          ((s.obs.pack.fresh && s.obs.front.fresh && s.obs.rear.fresh) = false → balance = [])
          ∧ ((s.obs.pack.fresh && s.obs.front.fresh && s.obs.rear.fresh) = true → r ≤ tol →
              balance = [.clean .front .curBalance, .clean .rear .curBalance, .clean .core .curBalance])
          ∧ ((s.obs.pack.fresh && s.obs.front.fresh && s.obs.rear.fresh) = true → tol < r → ∃ u,
              balance = [.evidence u .curBalance (some (.number ((min r 400 : Nat) : Int)))]
              ∧ (s.table.suspect .front = true → s.table.suspect .rear = false → u = .front)
              ∧ (s.table.suspect .front = false → s.table.suspect .rear = true → u = .rear)
              ∧ (s.table.suspect .front = s.table.suspect .rear → u = .core)))
      ∧ (∀ v d, v = max s.obs.front.speed s.obs.rear.speed → d = v - min s.obs.front.speed s.obs.rear.speed →
          ((s.obs.front.fresh && s.obs.rear.fresh) = false ∨ v < 50 → split = [])
          ∧ ((s.obs.front.fresh && s.obs.rear.fresh) = true → 50 ≤ v →
              (d ≤ max s.working.params.splitAbs (v * s.working.params.splitRel / 100) →
                split = [.clean .core .speedSplit])
              ∧ (max s.working.params.splitAbs (v * s.working.params.splitRel / 100) < d →
                split = [.evidence .core .speedSplit (some (.number (d : Int)))])))
      ∧ (s.obs.cockpit.fresh = false → brake = [])
      ∧ (s.obs.cockpit.fresh = true → s.switches.brake.asserted = true → 100 < s.obs.cockpit.demand →
          brake = [.evidence .cockpit .brakeThrottle (some (.number (s.obs.cockpit.demand : Int)))])
      ∧ (s.obs.cockpit.fresh = true → s.switches.brake.asserted = false ∨ s.obs.cockpit.demand ≤ 100 →
          brake = [.clean .cockpit .brakeThrottle])
      ∧ (∀ v, (s.obs.front.fresh = true → s.obs.rear.fresh = true → v = max s.obs.front.speed s.obs.rear.speed) →
          (s.obs.front.fresh = true → s.obs.rear.fresh = false → v = s.obs.front.speed) →
          (s.obs.front.fresh = false → s.obs.rear.fresh = true → v = s.obs.rear.speed) →
          ((s.obs.front.fresh || s.obs.rear.fresh) = false → stand = [])
          ∧ ((s.obs.front.fresh || s.obs.rear.fresh) = true → s.switches.stand.asserted = true → 100 ≤ v →
              stand = [.evidence .cockpit .standMoving (some (.number (v : Int)))])
          ∧ ((s.obs.front.fresh || s.obs.rear.fresh) = true → s.switches.stand.asserted = false ∨ v < 100 →
              stand = [.clean .cockpit .standMoving]))
      ∧ (∀ m watched grace ds, (m = .front ∧ watched = s.monitor.watchFront ∧ grace = s.monitor.graceFront
            ∧ ds = watchFront)
          ∨ (m = .rear ∧ watched = s.monitor.watchRear ∧ grace = s.monitor.graceRear ∧ ds = watchRear) →
          (watched = false ∨ grace = true ∨ (s.obs.motor m).fresh = false → ds = [])
          ∧ (watched = true → grace = false → (s.obs.motor m).fresh = true →
              (s.working.params.isoCurrent < (s.obs.motor m).dcCurrent.natAbs
                  ∨ (s.obs.motor m).gate = .switching →
                ds = [.evidence m.unit .isolationFail (some (.number (s.obs.motor m).dcCurrent))])
              ∧ ((s.obs.motor m).dcCurrent.natAbs ≤ s.working.params.isoCurrent →
                (s.obs.motor m).gate = .blocked → ds = [.clean m.unit .isolationFail])))

/-- An isolation notice (R91): a motor that entered joins the watch set with its grace flag set, a motor that left
is removed with its grace flag cleared; the other motor's part of the watch stays. -/
def Obligations.IsolationNoticeMovesWatchSet : Prop :=
  ∀ (entered : Bool) (s : State),
    (∃ t, exec (.isolationNotice .front entered) s = .next t
      ∧ t = { s with
          monitor := { s.monitor with watchFront := entered, graceFront := entered }
          owed := s.owed.erase (.isolation .front entered) })
    ∧ (∃ t, exec (.isolationNotice .rear entered) s = .next t
      ∧ t = { s with
          monitor := { s.monitor with watchRear := entered, graceRear := entered }
          owed := s.owed.erase (.isolation .rear entered) })

/-! ## Chapter 7: drive levels, isolation and limp-home -/

/-- The target state (R113 to R116): its level is the least that the contained records' floors, TABLE_FULL, the
single-motor and both-motor rules and, in SERVICE, the WALK floor and the top override entry leave, and HALT in
LOADING, STANDBY and SHUTDOWN; its other parts come from the contained records and the top override entry. -/
def Obligations.TargetFollowsContainedRecords : Prop :=
  ∀ (chip : Chip) (c : Copy) (t : FaultTable) (os : List Override) (d : Drive), d = targetFor chip c t os →
    (∀ top : Option Override, top = (if chip = .service then os.head? else none) →
      (d.isoFront = true ↔ (∃ r ∈ t.contained, r.unit = .front ∧ (c.rows.get r.kind).isolate = true)
        ∨ ∃ o, top = some o ∧ o.isoFront = true)
      ∧ (d.isoRear = true ↔ (∃ r ∈ t.contained, r.unit = .rear ∧ (c.rows.get r.kind).isolate = true)
        ∨ ∃ o, top = some o ∧ o.isoRear = true)
      ∧ (d.regenInhibit = true ↔ (∃ r ∈ t.contained, (c.rows.get r.kind).regenInhibit = true)
        ∨ ∃ o, top = some o ∧ o.regenInhibit = true)
      ∧ (chip = .drive ∨ chip = .service →
        (∀ r ∈ t.contained, (c.rows.get r.kind).floor.rank ≤ d.level.rank)
        ∧ (t.tableFull = true → Level.walk.rank ≤ d.level.rank)
        ∧ (d.isoFront = true ∨ d.isoRear = true → Level.limp.rank ≤ d.level.rank)
        ∧ (d.isoFront = true → d.isoRear = true → d.level = .halt)
        ∧ (chip = .service → Level.walk.rank ≤ d.level.rank)
        ∧ (∀ o, top = some o → o.floor.rank ≤ d.level.rank)
        ∧ ((chip = .drive ∧ d.level = .full) ∨ (∃ r ∈ t.contained, d.level = (c.rows.get r.kind).floor)
          ∨ (t.tableFull = true ∧ d.level = .walk)
          ∨ ((d.isoFront = true ∨ d.isoRear = true) ∧ d.level = .limp)
          ∨ (d.isoFront = true ∧ d.isoRear = true) ∨ (chip = .service ∧ d.level = .walk)
          ∨ ∃ o, top = some o ∧ d.level = o.floor)))
    ∧ (chip = .loading ∨ chip = .standby ∨ chip = .shutdown → d.level = .halt)
    ∧ d.derate ≤ 100
    ∧ (∀ r ∈ t.contained, (c.rows.get r.kind).floor = .derate → d.derate ≤ (c.rows.get r.kind).derate)
    ∧ (d.derate = 100 ∨ ∃ r ∈ t.contained, (c.rows.get r.kind).floor = .derate ∧ d.derate = (c.rows.get r.kind).derate)
    ∧ (d.packOpen = true ↔ ∃ r ∈ t.contained, (c.rows.get r.kind).packOpen = true)

/-- A containment announcement is one recomputation (R112, R117 to R120, R123 to R126), followed in STANDBY by the
DRIVE test, which if it holds moves the chip to DRIVE and recomputes there (R106). A link state notice makes the
DRIVE test in STANDBY and changes nothing else. -/
def Obligations.AnnouncementAndLinkNoticeMakeDriveTest : Prop :=
  (∀ s : State, ∃ t u, exec .containmentAnnouncement s = .next t
      ∧ State.Recomputes { s with owed := s.owed.erase .announcement } u
      ∧ (s.control.chip = .standby → s.DriveTestHolds s.control.gatherDone → u.EntersDrive t)
      ∧ (s.control.chip ≠ .standby ∨ ¬ s.DriveTestHolds s.control.gatherDone → t = u))
  ∧ (∀ (p : Port) (s : State), ∃ t, exec (.linkStateNotice p) s = .next t
      ∧ (s.control.chip = .standby → s.DriveTestHolds s.control.gatherDone →
          State.EntersDrive { s with owed := s.owed.erase (.linkState p) } t ∧ t.control.chip = .drive)
      ∧ (s.control.chip ≠ .standby ∨ ¬ s.DriveTestHolds s.control.gatherDone →
          t = { s with owed := s.owed.erase (.linkState p) }))

/-- A GATHER expiry taken in STANDBY gives LINK_LOST evidence for each link DOWN or JOINING, in port order, and the
report of the batch follows (R107); with none the gather is done at once. The report, while it is of the gather in
progress, recomputes, sets gather done and makes the DRIVE test, in STANDBY only (R108). -/
def Obligations.GatherEndsWithItsBatch : Prop :=
  ∀ s : State,
    (s.control.chip = .standby → s.expiryInForce .gather = true → ∃ t, exec .gatherExpiry s = .next t
      ∧ ((∃ p, (s.port p).link = .down ∨ (s.port p).link = .joining) → (∃ u : State,
          u = State.deliverAll { s with owed := s.owed.eraseP (Owed.isExpiry .gather) }
            (([Port.front, .rear, .pack, .cockpit].filter fun p =>
                decide ((s.port p).link = .down ∨ (s.port p).link = .joining)).map
              fun p => .evidence p.unit .linkLost none)
          ∧ t.table = u.table ∧ t.owed = u.owed ++ [.gatherBatch true])
          ∧ t = { s with timers := t.timers, table := t.table, owed := t.owed })
      ∧ ((∀ p, (s.port p).link ≠ .down ∧ (s.port p).link ≠ .joining) → (s.afterExpiry .gather).FinishesGather t))
    ∧ (s.control.chip = .standby → s.batchIsCurrent = true → ∃ t, exec .gatherBatchTaken s = .next t
      ∧ State.FinishesGather { s with owed := s.owed.eraseP Owed.isGatherBatch } t)
    ∧ (s.control.chip ≠ .standby → exec .gatherExpiry s = .next (s.afterExpiry .gather)
      ∧ exec .gatherBatchTaken s = .next { s with owed := s.owed.eraseP Owed.isGatherBatch })

/-- The end of LOADING, reported by the store (R104): SHUTDOWN with the wake flag ASLEEP, else STANDBY, and DRIVE at
once when all four links are UP; ENVELOPE, CHECK and RECORD_TICK are started, and GATHER in STANDBY. -/
def Obligations.EndOfLoadingStartsTheMachine : Prop :=
  ∀ s : State, s.control.chip = .loading → .endOfLoading ∈ s.owed → ∃ t, exec .endOfLoading s = .next t
    ∧ (s.control.awake = false → t.control.chip = .shutdown ∧ t.timers.get .gather = s.timers.get .gather
        ∧ t.control.gatherDone = s.control.gatherDone)
    ∧ (s.control.awake = true → s.DriveTestHolds false → t.control.chip = .drive
        ∧ (t.timers.get .gather).state = .stopped ∧ t.control.gatherDone = false)
    ∧ (s.control.awake = true → ¬ s.DriveTestHolds false → t.control.chip = .standby
        ∧ t.timers.get .gather = ⟨.running, s.working.params.gatherTime, 0⟩ ∧ t.control.gatherDone = false)
    ∧ t.timers.get .envelope = ⟨.running, s.working.params.envPeriod, 0⟩
    ∧ t.timers.get .check = ⟨.running, s.working.params.checkPeriod, 0⟩
    ∧ t.timers.get .recordTick = ⟨.running, 1, 0⟩
    ∧ t.control.target = targetFor t.control.chip s.working s.table s.control.overrides
    ∧ t.control.applied.Covers t.control.target
    ∧ (s.obs.gateOpen = true → t.control.applied = t.control.target)
    ∧ t.control.awake = s.control.awake ∧ t.control.overrides = s.control.overrides
    ∧ t = { s with control := t.control, timers := t.timers, owed := t.owed }

/-- A WAKE rising sets the wake flag AWAKE in every chip state; in SHUTDOWN it is a key cycle besides: the records
latched under KEY move to DORMANT, or are freed under a disabled row, and STANDBY is entered (R103, R105, R110,
R73). A record that moved makes the key cycle a containment change, which is announced once; a freed slot clears
TABLE_FULL, and a freed WORKSHOP record, of which a key cycle has none, would request a rewrite (R75, R78, R80). -/
def Obligations.WakeRisingIsKeyCycleInShutdown : Prop :=
  ∀ s : State, ∃ t, exec .wakeRising s = .next t ∧ t.control.awake = true
    ∧ (s.control.chip ≠ .shutdown →
        t = { s with
          switches := t.switches, owed := s.owed.erase (.wakeChange true)
          control := { s.control with awake := true } })
    ∧ (s.control.chip = .shutdown →
        (∀ i, s.table.slot i = none → t.table.slot i = none)
        ∧ (∀ i r, s.table.slot i = some r →
          (r.state = .latched → r.policy = .key → t.table.slot i
            = (if (s.working.rows.get r.kind).enabled then
                some { r with state := .dormant, run := 0, age := 0 } else none))
          ∧ (r.state ≠ .latched ∨ r.policy ≠ .key → t.table.slot i = some r))
        ∧ (t.table.tableFull = true ↔
            s.table.tableFull = true ∧ ∀ i r, s.table.slot i = some r → t.table.slot i ≠ none)
        ∧ t.table = { s.table with slots := t.table.slots, tableFull := t.table.tableFull }
        ∧ s.HandsOn t (s.table.LosesWorkshop t.table)
        ∧ ((∃ i r, s.table.slot i = some r ∧ r.state = .latched ∧ r.policy = .key) →
            t.owed.count .announcement = s.owed.count .announcement + 1)
        ∧ t.owed.count .latchRequest = s.owed.count .latchRequest
        ∧ (s.DriveTestHolds false → t.control.chip = .drive ∧ (t.timers.get .gather).state = .stopped)
        ∧ (¬ s.DriveTestHolds false → t.control.chip = .standby
            ∧ t.timers.get .gather = ⟨.running, s.working.params.gatherTime, 0⟩)
        ∧ t.control.gatherDone = false
        ∧ t.control.target = targetFor t.control.chip s.working t.table s.control.overrides
        ∧ t.control.applied.Covers t.control.target
        ∧ t.control.overrides = s.control.overrides
        ∧ t = { s with
            switches := t.switches, table := t.table, control := t.control, timers := t.timers, owed := t.owed })
    ∧ t.switches.brake = s.switches.brake ∧ t.switches.stand = s.switches.stand

/-- A WAKE falling sets the wake flag ASLEEP; STANDBY, DRIVE and SERVICE go to SHUTDOWN, in which the level is HALT.
From SERVICE the override stack is emptied, the sweep abandoned, and a working copy that fails validation replaced
by the committed copy, which frees the PENDING and DORMANT records of the rows it disables (R103, R109, R173, R59);
the fault table stays otherwise, and what its freeings change is announced and requested (R78, R80). -/
def Obligations.WakeFallingShutsDown : Prop :=
  ∀ s : State, ∃ t, exec .wakeFalling s = .next t ∧ t.control.awake = false
    ∧ (s.control.chip = .loading ∨ s.control.chip = .shutdown →
        t = { s with
          switches := t.switches, owed := s.owed.erase (.wakeChange false)
          control := { s.control with awake := false } })
    ∧ (s.control.chip = .standby ∨ s.control.chip = .drive ∨ s.control.chip = .service →
        t.control.chip = .shutdown ∧ t.control.target.level = .halt ∧ t.control.applied.level = .halt
        ∧ (s.control.applied.level ≠ .halt → t.control.ramp = true ∧ (t.timers.get .haltRamp).state = .running)
        ∧ (s.control.chip = .standby → (t.timers.get .gather).state = .stopped)
        ∧ (s.control.chip = .standby ∨ s.control.chip = .drive →
            t = { s with switches := t.switches, control := t.control, timers := t.timers, owed := t.owed }
            ∧ t.control.overrides = s.control.overrides)
        ∧ (s.control.chip = .service →
            t.control.overrides = [] ∧ t.table.sweep.state = .idle
            ∧ (s.table.sweep.state ≠ .idle → t.table.sweep.outcome = .abandoned)
            ∧ (t.timers.get .serviceIdle).state = .stopped
            ∧ (s.working.relationFailure = none → t.working = s.working ∧ t.unsaved = s.unsaved
                ∧ t.table = s.table.abandonSweep)
            ∧ (s.working.relationFailure ≠ none → t.working = s.committed ∧ t.unsaved = false
                ∧ s.table.abandonSweep.FreesDisabled t.table s.working.rows s.committed.rows)
            ∧ (s.table.sweep.state = .idle → s.table.abandonSweep = s.table)
            ∧ (s.table.sweep.state ≠ .idle → s.table.abandonSweep = { s.table with
                slots := s.table.slots.map (Option.map fun r => { r with mark := false })
                sweep := { s.table.sweep with state := .idle, outcome := .abandoned } })
            ∧ s.HandsOn t (s.table.LosesWorkshop t.table)
            ∧ t = { s with
                switches := t.switches, control := t.control, timers := t.timers, owed := t.owed
                table := t.table, working := t.working, unsaved := t.unsaved, store := t.store }
            ∧ t.store = { s.store with replaced := t.store.replaced }))

/-- A motor arrival notice ends a HALT ramp in progress when both motor records are fresh and both wheel speeds are
below 10 (R122); otherwise nothing changes. A cockpit arrival notice taken while a relaxation is held tests the
recovery gate: open, the applied level, derate percent and isolated set become those of the target, and the ramp, both
PERMIT lines, PACK_OPEN, WARN and the isolation notices follow, whatever the level; otherwise nothing changes (R118,
R119, R120, R123 to R126). -/
def Obligations.ArrivalNoticesReleaseGateAndRamp : Prop :=
  (∀ (u : Reporter) (s : State), u ≠ .cockpit → ∃ t, exec (.arrivalNotice u) s = .next t
      ∧ (s.control.ramp = true → s.obs.front.fresh = true → s.obs.rear.fresh = true → s.obs.front.speed < 10 →
          s.obs.rear.speed < 10 →
          t.control = { s.control with ramp := false, permitFront := false, permitRear := false }
          ∧ t.timers = s.timers.set .haltRamp { s.timers.haltRamp with state := .stopped, phase := 0 }
          ∧ t.owed = (s.owed.eraseP (Owed.isArrival u)).map (Owed.voided .haltRamp)
          ∧ t = { s with control := t.control, timers := t.timers, owed := t.owed })
      ∧ (s.control.ramp = false ∨ s.obs.front.fresh = false ∨ s.obs.rear.fresh = false ∨ 10 ≤ s.obs.front.speed
          ∨ 10 ≤ s.obs.rear.speed →
          t = { s with owed := s.owed.eraseP (Owed.isArrival u) }))
  ∧ (∀ s : State, ∃ t, exec (.arrivalNotice .cockpit) s = .next t
      ∧ (¬ (s.obs.cockpit.fresh = true ∧ s.obs.cockpit.demand = 0)
          ∨ (s.control.applied.level.rank ≤ s.control.target.level.rank
            ∧ s.control.target.derate ≤ s.control.applied.derate
            ∧ (s.control.applied.isoFront = true → s.control.target.isoFront = true)
            ∧ (s.control.applied.isoRear = true → s.control.target.isoRear = true)) →
          t = { s with owed := s.owed.eraseP (Owed.isArrival .cockpit) })
      ∧ (s.obs.cockpit.fresh = true → s.obs.cockpit.demand = 0 →
          s.control.target.level.rank < s.control.applied.level.rank
            ∨ s.control.applied.derate < s.control.target.derate
            ∨ (s.control.applied.isoFront = true ∧ s.control.target.isoFront = false)
            ∨ (s.control.applied.isoRear = true ∧ s.control.target.isoRear = false) →
          t.control.applied = { s.control.applied with
            level := s.control.target.level, derate := s.control.target.derate
            isoFront := s.control.target.isoFront, isoRear := s.control.target.isoRear }
          ∧ s.AppliedFollows t
          ∧ (s.control.applied.level = .halt → s.control.target.level ≠ .halt → t.control.ramp = false
              ∧ (s.control.ramp = true → (t.timers.get .haltRamp).state = .stopped)
              ∧ (t.control.permitFront = true ↔ s.control.target.isoFront = false)
              ∧ (t.control.permitRear = true ↔ s.control.target.isoRear = false))
          ∧ t = { s with
              control := { s.control with
                applied := t.control.applied, ramp := t.control.ramp, permitFront := t.control.permitFront
                permitRear := t.control.permitRear, packOpen := t.control.packOpen, warn := t.control.warn }
              timers := t.timers, owed := t.owed }))

/-- A HALT_RAMP expiry taken while the ramp is IN_PROGRESS ends it with both PERMIT lines low; one taken while the
ramp is NONE, or one that is no longer in force, changes no part of the controller (R121, R41). -/
def Obligations.HaltRampExpiryDropsPermits : Prop :=
  ∀ s : State, ∃ t, exec .haltRampExpiry s = .next t
    ∧ (s.expiryInForce .haltRamp = true → s.control.ramp = true →
        t.control = { s.control with ramp := false, permitFront := false, permitRear := false })
    ∧ (s.expiryInForce .haltRamp = false ∨ s.control.ramp = false → t.control = s.control)
    ∧ (s.owes (Owed.isExpiry .haltRamp) = false → s.timers.haltRamp.state = .running →
        t.timers = s.timers.set .haltRamp ⟨.stopped, 0, 0⟩)
    ∧ (s.owes (Owed.isExpiry .haltRamp) = true ∨ s.timers.haltRamp.state ≠ .running → t.timers = s.timers)
    ∧ t = { s with control := t.control, timers := t.timers, owed := s.owed.eraseP (Owed.isExpiry .haltRamp) }

/-! ## Chapter 8: the envelope computation and the grants -/

/-- The stages of one envelope computation, each by its rule (R132 to R144), from the inputs it read, and the ranges
the rules give them when the stored observations and the parameters lie in their own ranges. -/
def Obligations.EnvelopeStagesFollowTheirRules : Prop :=
  ∀ (i : EnvelopeInputs) (x : LastComputation) (c : Params), x = compute i → c = i.params →
    (∀ pct speed,
      (i.obs.cockpit.profile = .eco → pct = c.ecoPct ∧ speed = c.ecoSpeed) →
      (i.obs.cockpit.profile = .tour → pct = c.tourPct ∧ speed = c.tourSpeed) →
      (i.obs.cockpit.profile = .sport → pct = c.sportPct ∧ speed = c.sportSpeed) → ∃ top,
        (i.applied.level = .full → x.p = pct ∧ top = speed)
        ∧ (i.applied.level = .derate → x.p = pct * i.applied.derate / 100 ∧ top = speed)
        ∧ (i.applied.level = .limp → x.p = min pct c.limpPct ∧ top = min speed c.limpSpeed)
        ∧ (i.applied.level = .walk → x.p = min pct c.walkPct ∧ top = c.walkSpeed)
        ∧ (i.applied.level = .halt → x.p = 0 ∧ top = 0)
        ∧ (i.chip = .service → x.vCeil = min top c.walkSpeed) ∧ (i.chip ≠ .service → x.vCeil = top))
    ∧ x.drive.budget = i.obs.pack.iDis * x.p / 100
    ∧ (i.applied.regenInhibit = true ∨ i.applied.level = .walk ∨ i.applied.level = .halt → x.regen.budget = 0)
    ∧ (i.applied.regenInhibit = false → i.applied.level ≠ .walk → i.applied.level ≠ .halt →
        x.regen.budget = i.obs.pack.iChg)
    ∧ (∀ m k, (m = i.obs.front ∧ k = x.kFront) ∨ (m = i.obs.rear ∧ k = x.kRear) →
        (m.motorTemp ≤ c.thermStart → k = 1000)
        ∧ ((c.thermStart : Int) < m.motorTemp → (c.thermStop : Int) ≤ m.motorTemp → k = 0)
        ∧ ((c.thermStart : Int) < m.motorTemp → m.motorTemp < c.thermStop →
            (k : Int) = 1000 * ((c.thermStop : Int) - m.motorTemp) / ((c.thermStop : Int) - c.thermStart)))
    ∧ (∀ (b : Split) (capF capR oldF oldR : Nat),
        (b = x.drive ∧ capF = i.obs.front.cDrive ∧ capR = i.obs.rear.cDrive ∧ oldF = i.slew.pFront
          ∧ oldR = i.slew.pRear)
        ∨ (b = x.regen ∧ capF = i.obs.front.cRegen ∧ capR = i.obs.rear.cRegen ∧ oldF = i.slew.qFront
          ∧ oldR = i.slew.qRear) →
        (i.applied.isoFront = false → i.applied.isoRear = false →
          b.shareFront = b.budget * c.frontShare / 100 ∧ b.shareRear = b.budget - b.shareFront)
        ∧ (i.applied.isoFront = true → b.shareFront = 0 ∧ b.limFront = 0)
        ∧ (i.applied.isoRear = true → b.shareRear = 0 ∧ b.limRear = 0)
        ∧ (i.applied.isoFront = true → i.applied.isoRear = false → b.shareRear = b.budget)
        ∧ (i.applied.isoFront = false → i.applied.isoRear = true → b.shareFront = b.budget)
        ∧ (i.obs.front.fresh = false → b.limFront = 0) ∧ (i.obs.rear.fresh = false → b.limRear = 0)
        ∧ (i.applied.isoFront = false → i.obs.front.fresh = true → b.limFront = capF * x.kFront / 1000)
        ∧ (i.applied.isoRear = false → i.obs.rear.fresh = true → b.limRear = capR * x.kRear / 1000)
        ∧ b.fitFront = min b.limFront b.shareFront ∧ b.fitRear = min b.limRear b.shareRear
        ∧ b.aimFront = min b.limFront (b.fitFront + (b.shareRear - b.fitRear))
        ∧ b.aimRear = min b.limRear (b.fitRear + (b.shareFront - b.fitFront))
        ∧ (b.aimFront ≤ oldF → b.ceilFront = b.aimFront) ∧ (b.aimRear ≤ oldR → b.ceilRear = b.aimRear)
        ∧ (oldF < b.aimFront → b.ceilFront = min b.aimFront (oldF + c.slewUp))
        ∧ (oldR < b.aimRear → b.ceilRear = min b.aimRear (oldR + c.slewUp)))
    ∧ (i.obs.front.fresh = i.obs.rear.fresh → x.v = max i.obs.front.speed i.obs.rear.speed)
    ∧ (i.obs.front.fresh = true → i.obs.rear.fresh = false → x.v = i.obs.front.speed)
    ∧ (i.obs.front.fresh = false → i.obs.rear.fresh = true → x.v = i.obs.rear.speed)
    ∧ x.b = max (if i.obs.cockpit.fresh then i.obs.cockpit.brake else 0) (if i.brake then c.brakeLineRegen else 0)
    ∧ (i.obs.cockpit.fresh = false ∨ 0 < x.b ∨ i.brake = true
        ∨ (i.chip ≠ .service ∧ i.stand = true ∧ x.v < 30) → x.d = 0)
    ∧ (i.obs.cockpit.fresh = true → x.b = 0 → i.brake = false →
        i.chip = .service ∨ i.stand = false ∨ 30 ≤ x.v → x.d = i.obs.cockpit.demand)
    ∧ (∀ cmd ceil, (cmd = x.cmdFront ∧ ceil = x.drive.ceilFront) ∨ (cmd = x.cmdRear ∧ ceil = x.drive.ceilRear) →
        (x.vCeil ≤ x.v → cmd = 0)
        ∧ (x.v < x.vCeil → x.vCeil < x.v + 20 → cmd = x.d * ceil / 1000 * (x.vCeil - x.v) / 20)
        ∧ (x.v + 20 ≤ x.vCeil → cmd = x.d * ceil / 1000))
    ∧ x.regFront = x.b * x.regen.ceilFront / 1000 ∧ x.regRear = x.b * x.regen.ceilRear / 1000
    ∧ ((x.cmdFront = 0 ∧ x.cmdRear = 0) ∨ (x.regFront = 0 ∧ x.regRear = 0))
    ∧ (i.obs.Ok → c.inRange → i.applied.derate ≤ 100 →
        x.p ≤ 100 ∧ x.vCeil ≤ 600 ∧ x.drive.budget ≤ i.obs.pack.iDis ∧ x.drive.budget ≤ 255
        ∧ x.regen.budget ≤ i.obs.pack.iChg ∧ x.regen.budget ≤ 150 ∧ x.kFront ≤ 1000 ∧ x.kRear ≤ 1000
        ∧ x.v ≤ 1200 ∧ x.b ≤ 1000 ∧ x.d ≤ 1000
        ∧ x.drive.ceilFront + x.drive.ceilRear ≤ x.drive.budget
        ∧ x.regen.ceilFront + x.regen.ceilRear ≤ x.regen.budget
        ∧ x.cmdFront ≤ x.drive.ceilFront ∧ x.cmdRear ≤ x.drive.ceilRear
        ∧ x.regFront ≤ x.regen.ceilFront ∧ x.regRear ≤ x.regen.ceilRear)

/-- An ENVELOPE expiry after LOADING takes one computation from the inputs as they stand (R129, R130), writes the
slew state and the last-computation record (R138, R151), and places one grant, all of that computation, in the slot
of each link that is not DOWN; an unsent grant is replaced and counted (R13, R146 to R149). The lead record is the
contained one with the most restrictive floor, of those the earliest first confirmed, of those the lowest slot (07
R127). -/
def Obligations.EnvelopeExpiryPlacesGrants : Prop :=
  ∀ s : State, s.expiryInForce .envelope = true → s.control.chip ≠ .loading → ∃ t x,
    exec .envelopeExpiry s = .next t ∧ t.envelope.last = x ∧ x.valid = true
    ∧ x = compute {
        params := s.working.params, obs := s.obs, brake := s.switches.brake.asserted
        stand := s.switches.stand.asserted, chip := s.control.chip, applied := s.control.applied
        slew := s.envelope }
    ∧ x.chip = s.control.chip ∧ x.profile = s.obs.cockpit.profile ∧ x.level = s.control.applied.level
    ∧ x.isoFront = s.control.applied.isoFront ∧ x.isoRear = s.control.applied.isoRear
    ∧ t.envelope = ⟨x.drive.ceilFront, x.drive.ceilRear, x.regen.ceilFront, x.regen.ceilRear, x⟩
    ∧ (∀ p, (s.port p).link = .down → t.port p = s.port p)
    ∧ (∀ p, (s.port p).link ≠ .down → ∃ g, t.port p = { s.port p with
          grant := some g
          counters := { (s.port p).counters with
            replaced := if (s.port p).grant.isSome then bump (s.port p).counters.replaced
              else (s.port p).counters.replaced } }
      ∧ (p = .front → g = .motor ⟨s.control.applied.level, s.control.applied.isoFront, x.drive.ceilFront,
          x.regen.ceilFront, x.cmdFront, x.regFront, x.vCeil⟩)
      ∧ (p = .rear → g = .motor ⟨s.control.applied.level, s.control.applied.isoRear, x.drive.ceilRear,
          x.regen.ceilRear, x.cmdRear, x.regRear, x.vCeil⟩)
      ∧ (p = .pack → g = .pack ⟨s.control.applied.level, x.drive.ceilFront + x.drive.ceilRear,
          x.regen.ceilFront + x.regen.ceilRear, s.control.applied.packOpen⟩)
      ∧ (p = .cockpit → ∃ lead, g = .status ⟨s.control.chip, s.control.applied.level, s.control.target.level,
          s.control.applied.isoFront, s.control.applied.isoRear, x.vCeil, s.table.contained.length,
          s.table.tableFull, s.unsaved, s.store.busy, lead, s.control.overrides.length, s.table.sweep.state,
          s.table.sweep.outcome, s.table.sweep.cleared, s.table.sweep.cursor, s.table.sweep.remaining⟩
        ∧ (lead = none ↔ s.table.contained = [])
        ∧ ∀ u k, lead = some (u, k) → ∃ i r, s.table.slot i = some r ∧ r ∈ s.table.contained ∧ r.unit = u ∧ r.kind = k
          ∧ ∀ j q, s.table.slot j = some q → q ∈ s.table.contained →
            (s.working.rows.get q.kind).floor.rank < (s.working.rows.get k).floor.rank
            ∨ ((s.working.rows.get q.kind).floor.rank = (s.working.rows.get k).floor.rank
              ∧ (q.confirmedAge s.now < r.confirmedAge s.now
                ∨ (q.confirmedAge s.now = r.confirmedAge s.now ∧ i ≤ j)))))
    ∧ (∀ r : FaultRecord, (r ∈ s.table.contained ↔ ∃ i, s.table.slot i = some r
          ∧ (r.state = .active ∨ r.state = .clearing ∨ r.state = .latched))
        ∧ ∀ at_, r.firstConfirmed = some at_ → r.confirmedAge s.now = (s.now - at_).toNat)
    ∧ t = { s with ports := t.ports, timers := t.timers, envelope := t.envelope, owed := t.owed }

/-! ## Chapter 9: the service session -/

/-- A reply takes a place in the cockpit reply FIFO, or is dropped and counted when four wait or the cockpit link is
DOWN (R15). A query is answered in every chip state and changes nothing but what its reply takes (R153 to R155); an
argument out of range is answered BAD_ARGUMENT, an unknown code UNKNOWN_COMMAND. The reply bits that R195 does not
assign are sent as 0 by the model's choice (log 35).
QUERY_RECORDS takes the first four records at or above the start slot, one part to a record, with the next slot to
ask. -/
def Obligations.QueriesAreAnsweredAndChangeNothing : Prop :=
  ((∀ (s : State) (r : Reply),
      (s.replies.length < 4 → s.ports.cockpit.link ≠ .down → s.placeReply r = { s with replies := s.replies ++ [r] })
      ∧ (4 ≤ s.replies.length ∨ s.ports.cockpit.link = .down → s.placeReply r = { s with
          ports := { s.ports with cockpit := { s.ports.cockpit with counters := { s.ports.cockpit.counters with
            dropped := min 65535 (s.ports.cockpit.counters.dropped + 1) } } } }))
    ∧ ∀ (seq a : Byte) (s : State),
      (40 ≤ a.toNat → exec (.queryRecords seq a) s
        = .next ((s.takeCommand (.queryRecords seq a)).placeReply ⟨[[seq, 0x01#8, 2#8, 1#8]]⟩))
      ∧ (a.toNat < 40 → exec (.queryRecords seq a) s
        = .next ((s.takeCommand (.queryRecords seq a)).placeReply (recordsReply seq s.table a.toNat)))
      ∧ (4 ≤ a.toNat → exec (.queryLink seq a) s
        = .next ((s.takeCommand (.queryLink seq a)).placeReply ⟨[[seq, 0x02#8, 2#8, 1#8]]⟩))
      ∧ (∀ p : Port, a.toNat = p.unit.code → exec (.queryLink seq a) s
        = .next ((s.takeCommand (.queryLink seq a)).placeReply
            ⟨[[seq, 0x02#8, 0#8, 0x02#8, byteOf (s.port p).link.code] ++ counterBytes (s.port p).counters,
              [seq, 0x02#8, 0#8, 0x12#8, a] ++ s.obs.replyBytes p]⟩))
      ∧ (28 ≤ a.toNat → exec (.queryRow seq a) s
        = .next ((s.takeCommand (.queryRow seq a)).placeReply ⟨[[seq, 0x03#8, 2#8, 1#8]]⟩))
      ∧ (∀ k : Kind, a.toNat = k.code → exec (.queryRow seq a) s
        = .next ((s.takeCommand (.queryRow seq a)).placeReply
            ⟨[[seq, 0x03#8, 0#8, 1#8] ++ rowBytesList (s.working.rows.get k).encode
              ++ rowBytesList (s.committed.rows.get k).encode ++ [if k.isLocked then 1#8 else 0#8]]⟩))
      ∧ (29 ≤ a.toNat → exec (.queryParam seq a) s
        = .next ((s.takeCommand (.queryParam seq a)).placeReply ⟨[[seq, 0x04#8, 2#8, 1#8]]⟩))
      ∧ (∀ p : Param, a.toNat = p.number → exec (.queryParam seq a) s
        = .next ((s.takeCommand (.queryParam seq a)).placeReply
            ⟨[[seq, 0x04#8, 0#8, 1#8] ++ be16 (s.working.params.get p) ++ be16 (s.committed.params.get p)]⟩))
      ∧ exec (.queryEnvelope seq) s
        = .next ((s.takeCommand (.queryEnvelope seq)).placeReply
            ⟨[[seq, 0x05#8, 0#8, 0x02#8] ++ s.envelope.last.firstPart,
              [seq, 0x05#8, 0#8, 0x12#8] ++ s.envelope.last.secondPart]⟩)
      ∧ exec (.unknownCommand seq a) s
        = .next ((s.takeCommand (.unknownCommand seq a)).placeReply ⟨[[seq, a, 1#8, 1#8]]⟩)
      ∧ ∀ c, s.takeCommand c = { s with owed := s.owed.erase (.command c) })
  ∧ (∀ (t : FaultTable) (start : Nat) (seq : Byte),
      (t.recordsFrom start).length ≤ 4
      ∧ (∀ i r, (i, r) ∈ t.recordsFrom start → start ≤ i ∧ t.slot i = some r)
      ∧ (∀ j q, start ≤ j → t.slot j = some q → (j, q) ∈ t.recordsFrom start
          ∨ ((t.recordsFrom start).length = 4 ∧ ∀ i r, (i, r) ∈ t.recordsFrom start → i < j))
      ∧ (t.recordsFrom start).Pairwise (fun x y => x.1 < y.1)
      ∧ (recordsReply seq t start).untaken.length = max 1 (t.recordsFrom start).length
      ∧ ((t.recordsFrom start).length < 4 → nextSlot (t.recordsFrom start) = 40)
      ∧ (∀ i r, (t.recordsFrom start)[3]? = some (i, r) → nextSlot (t.recordsFrom start) = i + 1))

/-- Outside SERVICE every service command but SERVICE_ENTER is refused REFUSED_STATE, with nothing else changed, and
SERVICE_IDLE not restarted (R154, R157). -/
def Obligations.ServiceCommandsNeedService : Prop :=
  ∀ (s : State) (c : Instr) (seq code : Byte), s.control.chip ≠ .service →
    ((∃ k b, c = .rowWrite seq k b ∧ code = 0x11#8) ∨ (∃ n v, c = .paramWrite seq n v ∧ code = 0x12#8)
      ∨ (c = .storeSave seq ∧ code = 0x13#8) ∨ (c = .storeReload seq ∧ code = 0x14#8)
      ∨ (∃ n, c = .recordClear seq n ∧ code = 0x15#8)
      ∨ (∃ a u k m n, c = .sweepStart seq a u k m n ∧ code = 0x16#8)
      ∨ (c = .sweepResume seq ∧ code = 0x17#8) ∨ (c = .sweepCancel seq ∧ code = 0x18#8)
      ∨ (∃ f r l i, c = .overridePush seq f r l i ∧ code = 0x19#8)
      ∨ (c = .overridePop seq ∧ code = 0x1A#8) ∨ (c = .serviceLeave seq ∧ code = 0x1B#8)) →
    exec c s = .next ((s.takeCommand c).placeReply ⟨[[seq, code, 3#8, 1#8]]⟩)

/-- SERVICE_ENTER (R156): its four checks in order, each with its refusal, which in SERVICE restarts SERVICE_IDLE
(R157); when all hold the chip goes to SERVICE, the target is recomputed there, GATHER is stopped on leaving STANDBY,
SERVICE_IDLE is started and the reply is OK. -/
def Obligations.ServiceEnterChecksAndEnters : Prop :=
  ∀ (seq : Byte) (s s1 : State), s1 = s.takeCommand (.serviceEnter seq) →
    (s.control.chip = .loading ∨ s.control.chip = .shutdown →
      exec (.serviceEnter seq) s = .next (s1.placeReply ⟨[[seq, 0x10#8, 3#8, 1#8]]⟩))
    ∧ (s.control.chip = .service →
      exec (.serviceEnter seq) s = .next ((s1.start .serviceIdle).placeReply ⟨[[seq, 0x10#8, 3#8, 1#8]]⟩))
    ∧ (s.control.chip = .drive ∨ s.control.chip = .standby →
      (s.switches.stand.asserted = false →
        exec (.serviceEnter seq) s = .next (s1.placeReply ⟨[[seq, 0x10#8, 4#8, 1#8]]⟩))
      ∧ (s.switches.stand.asserted = true →
        ((s.obs.front.fresh = true ∧ 10 ≤ s.obs.front.speed) ∨ (s.obs.rear.fresh = true ∧ 10 ≤ s.obs.rear.speed) →
          exec (.serviceEnter seq) s = .next (s1.placeReply ⟨[[seq, 0x10#8, 5#8, 1#8]]⟩))
        ∧ ((s.obs.front.fresh = false ∨ s.obs.front.speed < 10) →
            (s.obs.rear.fresh = false ∨ s.obs.rear.speed < 10) →
          (s.obs.cockpit.fresh = true → 0 < s.obs.cockpit.demand →
            exec (.serviceEnter seq) s = .next (s1.placeReply ⟨[[seq, 0x10#8, 6#8, 1#8]]⟩))
          ∧ (s.obs.cockpit.fresh = false ∨ s.obs.cockpit.demand = 0 → ∃ u,
            exec (.serviceEnter seq) s
              = .next ((u.start .serviceIdle).placeReply ⟨[[seq, 0x10#8, 0#8, 1#8]]⟩)
            ∧ State.Recomputes (if s.control.chip = .standby then (s1.setChip .service).stop .gather
                else s1.setChip .service) u
            ∧ u.control.chip = .service))))

/-- ROW_WRITE in SERVICE with the store free (R159, R53, R54): the checks in order, each with its refusal; a write
that passes replaces the row as one, sets the unsaved flag, recomputes the target and frees the PENDING and DORMANT
records of a kind it disables, with the announcement and the rewrite request of those freeings (05 R75, R78, R80). Every
service command in SERVICE restarts SERVICE_IDLE (R157).
PARAM_WRITE (R160): an unknown number and a value out of range are refused; a write that passes replaces the
parameter and sets the unsaved flag, and nothing else. -/
def Obligations.RowAndParamWritesChangeWorkingCopy : Prop :=
  (∀ (seq kind : Byte) (b : RowBytes) (s s1 : State), s1 = s.takeCommand (.rowWrite seq kind b) →
      s.control.chip = .service →
      (s.store.busy = true → exec (.rowWrite seq kind b) s
        = .next ((s1.start .serviceIdle).placeReply ⟨[[seq, 0x11#8, 7#8, 1#8]]⟩))
      ∧ (s.store.busy = false →
        (28 ≤ kind.toNat → exec (.rowWrite seq kind b) s
          = .next ((s1.start .serviceIdle).placeReply ⟨[[seq, 0x11#8, 2#8, 1#8]]⟩))
        ∧ ∀ k : Kind, kind.toNat = k.code →
          (k.isLocked = true → exec (.rowWrite seq kind b) s
            = .next ((s1.start .serviceIdle).placeReply ⟨[[seq, 0x11#8, 8#8, 1#8]]⟩))
          ∧ (k.isLocked = false → Row.decode b = none → exec (.rowWrite seq kind b) s
            = .next ((s1.start .serviceIdle).placeReply ⟨[[seq, 0x11#8, 13#8, 1#8, 2#8, kind]]⟩))
          ∧ (k.isLocked = false → ∀ r, Row.decode b = some r → ∃ u v : State,
            exec (.rowWrite seq kind b) s
              = .next ((v.start .serviceIdle).placeReply ⟨[[seq, 0x11#8, 0#8, 1#8]]⟩)
            ∧ State.Recomputes { s1 with
                unsaved := true, working := { s.working with rows := s.working.rows.set k r } } u
            ∧ (s.working.rows.set k r).get k = r
            ∧ (∀ j, j ≠ k → (s.working.rows.set k r).get j = s.working.rows.get j)
            ∧ v = { u with table := v.table, owed := v.owed }
            ∧ (∃ news, v.owed = u.owed ++ news ∧ s.table.Notifies v.table (s.table.LosesWorkshop v.table) news)
            ∧ (v.table.tableFull = true ↔
                s.table.tableFull = true ∧ ∀ i q, s.table.slot i = some q → v.table.slot i ≠ none)
            ∧ (∀ i, s.table.slot i = none → v.table.slot i = none)
            ∧ (∀ i q, s.table.slot i = some q → v.table.slot i
                = if q.kind = k ∧ (q.state = .pending ∨ q.state = .dormant)
                    ∧ (s.working.rows.get k).enabled = true ∧ r.enabled = false then none else some q))))
  ∧ (∀ (seq number : Byte) (value : Half) (s s1 : State), s1 = s.takeCommand (.paramWrite seq number value) →
      s.control.chip = .service →
      (s.store.busy = true → exec (.paramWrite seq number value) s
        = .next ((s1.start .serviceIdle).placeReply ⟨[[seq, 0x12#8, 7#8, 1#8]]⟩))
      ∧ (s.store.busy = false →
        (29 ≤ number.toNat → exec (.paramWrite seq number value) s
          = .next ((s1.start .serviceIdle).placeReply ⟨[[seq, 0x12#8, 2#8, 1#8]]⟩))
        ∧ ∀ p : Param, number.toNat = p.number →
          (value.toNat < p.low ∨ p.high < value.toNat → exec (.paramWrite seq number value) s
            = .next ((s1.start .serviceIdle).placeReply ⟨[[seq, 0x12#8, 13#8, 1#8, 0#8, number]]⟩))
          ∧ (p.low ≤ value.toNat → value.toNat ≤ p.high → exec (.paramWrite seq number value) s
            = .next ((State.start { s1 with
                unsaved := true
                working := { s.working with params := s.working.params.set p value.toNat } }
                .serviceIdle).placeReply ⟨[[seq, 0x12#8, 0#8, 1#8]]⟩))
          ∧ (s.working.params.set p value.toNat).get p = value.toNat
          ∧ ∀ q, q ≠ p → (s.working.params.set p value.toNat).get q = s.working.params.get q))

/-- STORE_SAVE and STORE_RELOAD in SERVICE (R163, R164, R161, R178): refused BUSY while the store is busy; else handed
over with a deferred reply and no reply now, the image of a SAVE fixed at once; a free store begins what is pending,
a latch-list rewrite first. At the end report (R162) busy ends, the deferred reply is placed with the SEQ and code of
its command and the result the outcome gives, and becomes none; SERVICE_IDLE is not restarted. -/
def Obligations.SaveAndReloadAnswerAtTheirEnd : Prop :=
  (∀ (seq : Byte) (s : State), s.control.chip = .service →
      (s.store.busy = true →
        exec (.storeSave seq) s = .next (((s.takeCommand (.storeSave seq)).start .serviceIdle).placeReply
          ⟨[[seq, 0x13#8, 7#8, 1#8]]⟩)
        ∧ exec (.storeReload seq) s = .next (((s.takeCommand (.storeReload seq)).start .serviceIdle).placeReply
          ⟨[[seq, 0x14#8, 7#8, 1#8]]⟩))
      ∧ (s.store.busy = false → ∃ t u,
        exec (.storeSave seq) s = .next t ∧ exec (.storeReload seq) s = .next u
        ∧ t.deferred = some (.save seq) ∧ u.deferred = some (.reload seq)
        ∧ t.store.imageBuffer = encodeImage s.working ∧ t.store.replaced = false ∧ t.store.busy = true
        ∧ u.store.imageBuffer = s.store.imageBuffer ∧ u.store.busy = true
        ∧ (s.store.op = .none → s.store.latchPending = false → s.store.savePending = false →
            t.store.op = .savePage 0 ∧ t.store.savePending = false
            ∧ u.store.op = .reloadRead ∧ u.store.reloadPending = false)
        ∧ (s.store.op ≠ .none →
            t.store.op = s.store.op ∧ t.store.savePending = true ∧ u.store.op = s.store.op
            ∧ u.store.reloadPending = true)
        ∧ (s.store.op = .none → s.store.latchPending = true →
            t.store.op = .latchPage ∧ t.store.savePending = true ∧ u.store.op = .latchPage
            ∧ u.store.reloadPending = true)
        ∧ (∀ v, v = t ∨ v = u →
            v.timers = s.timers.set .serviceIdle ⟨.running, s.working.params.serviceIdle * 10, 0⟩
            ∧ v = { s with deferred := v.deferred, store := v.store, timers := v.timers, owed := v.owed })))
  ∧ (∀ (s : State) (before after : List Owed) (e : StoreEnd) (d : Deferred) (seq code : Byte),
      s.owed = before ++ .storeEnd e :: after → (∀ x ∈ before, Owed.isStoreEnd x = false) → s.deferred = some d →
      (d = .save seq ∧ code = 0x13#8) ∨ (d = .reload seq ∧ code = 0x14#8) → ∃ r,
      exec .storeEndReport s = .next { State.placeReply { s with
          owed := before ++ after, store := { s.store with busy := false } } r with deferred := none }
      ∧ (e = .ok → r = ⟨[[seq, code, 0#8, 1#8]]⟩) ∧ (e = .failed → r = ⟨[[seq, code, 14#8, 1#8]]⟩)
      ∧ ∀ f, e = .invalid f → r = ⟨[[seq, code, 13#8, 1#8, byteOf f.cls.code, byteOf f.index]]⟩)

/-- RECORD_CLEAR in SERVICE (R166, R75): a slot above 39, an empty slot and a live record are refused; a LATCHED or
DORMANT record is freed, which clears TABLE_FULL; a containment change is taken by the controller before the reply
(R153). It is taken whether or not the store is busy (R165). -/
def Obligations.RecordClearFreesReleasedRecord : Prop :=
  ∀ (seq slot : Byte) (s s1 : State), s1 = s.takeCommand (.recordClear seq slot) → s.control.chip = .service →
    (40 ≤ slot.toNat → exec (.recordClear seq slot) s
      = .next ((s1.start .serviceIdle).placeReply ⟨[[seq, 0x15#8, 2#8, 1#8]]⟩))
    ∧ (slot.toNat < 40 →
      (s.table.slot slot.toNat = none → exec (.recordClear seq slot) s
        = .next ((s1.start .serviceIdle).placeReply ⟨[[seq, 0x15#8, 10#8, 1#8]]⟩))
      ∧ ∀ r, s.table.slot slot.toNat = some r →
        (r.state = .pending ∨ r.state = .active ∨ r.state = .clearing → exec (.recordClear seq slot) s
          = .next ((s1.start .serviceIdle).placeReply ⟨[[seq, 0x15#8, 9#8, 1#8]]⟩))
        ∧ (r.state = .latched ∨ r.state = .dormant → ∃ u v : State,
          exec (.recordClear seq slot) s
            = .next ((v.start .serviceIdle).placeReply ⟨[[seq, 0x15#8, 0#8, 1#8]]⟩)
          ∧ u = { s1 with table := u.table, owed := u.owed }
          ∧ u.owed = s1.owed ++ (if r.policy = .workshop then [.latchRequest] else [])
          ∧ u.table.slot slot.toNat = none
          ∧ (∀ i, i ≠ slot.toNat → u.table.slot i = s.table.slot i)
          ∧ u.table = { s.table with slots := u.table.slots, tableFull := false }
          ∧ (r.state = .latched ∨ s.table.tableFull = true → u.Recomputes v)
          ∧ (r.state = .dormant → s.table.tableFull = false → v = u)))

/-- SWEEP_START, SWEEP_RESUME and SWEEP_CANCEL in SERVICE (R167, R168, R84, R86, R88): a start on an IDLE sweep marks
every record and runs from its slot; a resume runs a SUSPENDED sweep on with everything kept; a cancel ends it
CANCELLED; in the other sweep states each is refused. A start slot of 0 to 39, a unit filter of 0 to 4 or 255, a kind
filter of 0 to 27 or 255, a mode of 0 or 1 and a count of 1 to 40 are accepted; any other value of one of them is
refused BAD_ARGUMENT, before the sweep state is looked at (R167, 11 R192). -/
def Obligations.SweepCommandsMoveTheSweep : Prop :=
  ∀ (seq : Byte) (s : State), s.control.chip = .service →
    (∀ start unit kind mode count : Byte,
      40 ≤ start.toNat ∨ (4 < unit.toNat ∧ unit.toNat ≠ 255) ∨ (27 < kind.toNat ∧ kind.toNat ≠ 255)
        ∨ 1 < mode.toNat ∨ count.toNat = 0 ∨ 40 < count.toNat →
      exec (.sweepStart seq start unit kind mode count) s
        = .next (((s.takeCommand (.sweepStart seq start unit kind mode count)).start .serviceIdle).placeReply
            ⟨[[seq, 0x16#8, 2#8, 1#8]]⟩))
    ∧ (∀ start unit kind mode count uf kf m,
        (unit.toNat = 255 ∧ uf = none) ∨ (∃ u : FaultUnit, unit.toNat = u.code ∧ uf = some u) →
        (kind.toNat = 255 ∧ kf = none) ∨ (∃ k : Kind, kind.toNat = k.code ∧ kf = some k) →
        (mode.toNat = 0 ∧ m = .all) ∨ (mode.toNat = 1 ∧ m = .stopAtLive) →
        start.toNat < 40 → 1 ≤ count.toNat → count.toNat ≤ 40 →
        (s.table.sweep.state ≠ .idle → exec (.sweepStart seq start unit kind mode count) s
          = .next (((s.takeCommand (.sweepStart seq start unit kind mode count)).start .serviceIdle).placeReply
              ⟨[[seq, 0x16#8, 7#8, 1#8]]⟩))
        ∧ (s.table.sweep.state = .idle → exec (.sweepStart seq start unit kind mode count) s
          = .next ((State.start { s.takeCommand (.sweepStart seq start unit kind mode count) with
                table := { s.table with
                  slots := s.table.slots.map (Option.map fun r => { r with mark := true })
                  sweep := ⟨.running, uf, kf, m, start.toNat, count.toNat, 0, s.table.sweep.outcome⟩ } }
              .serviceIdle).placeReply ⟨[[seq, 0x16#8, 0#8, 1#8]]⟩)))
    ∧ (s.table.sweep.state ≠ .suspended → exec (.sweepResume seq) s
        = .next (((s.takeCommand (.sweepResume seq)).start .serviceIdle).placeReply ⟨[[seq, 0x17#8, 3#8, 1#8]]⟩))
    ∧ (s.table.sweep.state = .suspended → exec (.sweepResume seq) s
        = .next ((State.start { s.takeCommand (.sweepResume seq) with
              table := { s.table with sweep := { s.table.sweep with state := .running } } }
            .serviceIdle).placeReply ⟨[[seq, 0x17#8, 0#8, 1#8]]⟩))
    ∧ (s.table.sweep.state = .idle → exec (.sweepCancel seq) s
        = .next (((s.takeCommand (.sweepCancel seq)).start .serviceIdle).placeReply ⟨[[seq, 0x18#8, 3#8, 1#8]]⟩))
    ∧ (s.table.sweep.state ≠ .idle → exec (.sweepCancel seq) s
        = .next ((State.start { s.takeCommand (.sweepCancel seq) with
              table := { s.table with
                slots := s.table.slots.map (Option.map fun r => { r with mark := false })
                sweep := { s.table.sweep with state := .idle, outcome := .cancelled } } }
            .serviceIdle).placeReply ⟨[[seq, 0x18#8, 0#8, 1#8]]⟩))

/-- OVERRIDE_PUSH and OVERRIDE_POP in SERVICE (R169, R170, R116): an entry with a field that names no value, a full
stack and an empty stack are refused; else the entry goes on top, or the top entry goes, and the target is
recomputed. -/
def Obligations.OverridesMoveTheStack : Prop :=
  ∀ (seq : Byte) (s : State), s.control.chip = .service →
    (∀ f r l i, 1 < f.toNat ∨ 1 < r.toNat ∨ 4 < l.toNat ∨ 1 < i.toNat →
      exec (.overridePush seq f r l i) s
        = .next (((s.takeCommand (.overridePush seq f r l i)).start .serviceIdle).placeReply
            ⟨[[seq, 0x19#8, 2#8, 1#8]]⟩))
    ∧ (∀ (f r i : Bool) (l : Level) (c : Instr),
        c = .overridePush seq (flagByte f) (flagByte r) (byteOf l.rank) (flagByte i) →
        (8 ≤ s.control.overrides.length →
          exec c s = .next (((s.takeCommand c).start .serviceIdle).placeReply ⟨[[seq, 0x19#8, 11#8, 1#8]]⟩))
        ∧ (s.control.overrides.length < 8 → ∃ u,
          exec c s = .next ((u.start .serviceIdle).placeReply ⟨[[seq, 0x19#8, 0#8, 1#8]]⟩)
          ∧ State.Recomputes { s.takeCommand c with
              control := { s.control with overrides := ⟨f, r, l, i⟩ :: s.control.overrides } } u))
    ∧ (s.control.overrides = [] → exec (.overridePop seq) s
        = .next (((s.takeCommand (.overridePop seq)).start .serviceIdle).placeReply ⟨[[seq, 0x1A#8, 12#8, 1#8]]⟩))
    ∧ (∀ top rest, s.control.overrides = top :: rest → ∃ u,
        exec (.overridePop seq) s = .next ((u.start .serviceIdle).placeReply ⟨[[seq, 0x1A#8, 0#8, 1#8]]⟩)
        ∧ State.Recomputes { s.takeCommand (.overridePop seq) with
            control := { s.control with overrides := rest } } u)

/-- SERVICE_LEAVE in SERVICE (R171, R157): refused BUSY while the store is busy, with nothing done; else the sweep is
abandoned, and a working copy that fails validation refuses the command INVALID in SERVICE; one that passes lets the
chip go to STANDBY with an empty override stack and a new gather (and on to DRIVE when all links are UP). A
SERVICE_IDLE expiry taken in SERVICE forces a leave (R158, R172): the sweep is abandoned, a working copy that fails
validation is replaced by the committed copy with the unsaved flag cleared, which frees the PENDING and DORMANT
records of the rows it disables (R59), and the chip leaves to STANDBY; no reply is placed, and a save or reload runs
on. In any other chip state it has no effect. -/
def Obligations.LeavesOfServiceValidate : Prop :=
  (∀ (seq : Byte) (s s1 : State), s1 = s.takeCommand (.serviceLeave seq) → s.control.chip = .service →
      (s.store.busy = true → exec (.serviceLeave seq) s
        = .next ((s1.start .serviceIdle).placeReply ⟨[[seq, 0x1B#8, 7#8, 1#8]]⟩))
      ∧ (s.store.busy = false →
        (∀ f, s.working.relationFailure = some f → exec (.serviceLeave seq) s
          = .next ((State.start { s1 with table := s.table.abandonSweep } .serviceIdle).placeReply
              ⟨[[seq, 0x1B#8, 13#8, 1#8, byteOf f.cls.code, byteOf f.index]]⟩))
        ∧ (s.working.relationFailure = none → ∃ u,
          exec (.serviceLeave seq) s = .next (u.placeReply ⟨[[seq, 0x1B#8, 0#8, 1#8]]⟩)
          ∧ u.table = s.table.abandonSweep ∧ s.LeavesToStandby u))
      ∧ (s.table.sweep.state = .idle → s.table.abandonSweep = s.table)
      ∧ (s.table.sweep.state ≠ .idle → s.table.abandonSweep = { s.table with
          slots := s.table.slots.map (Option.map fun r => { r with mark := false })
          sweep := { s.table.sweep with state := .idle, outcome := .abandoned } }))
  ∧ (∀ s : State, s.expiryInForce .serviceIdle = true →
      (s.control.chip ≠ .service → exec .serviceIdleExpiry s = .next (s.afterExpiry .serviceIdle))
      ∧ (s.control.chip = .service → ∃ t, exec .serviceIdleExpiry s = .next t
        ∧ t.table.sweep = s.table.abandonSweep.sweep
        ∧ (s.working.relationFailure = none → t.working = s.working ∧ t.unsaved = s.unsaved
            ∧ t.table = s.table.abandonSweep ∧ t.store = s.store)
        ∧ (s.working.relationFailure ≠ none → t.working = s.committed ∧ t.unsaved = false
            ∧ t.store = { s.store with replaced := true }
            ∧ s.table.abandonSweep.FreesDisabled t.table s.working.rows s.committed.rows)
        ∧ s.LeavesToStandby t))

/-! ## Chapter 10: the configuration store -/

/-- The start-up LOAD (R179 to R181). The image read ends in one of the outcomes of R179 and the latch list is read
next, unless the read was not acknowledged; with both read, or no memory, the copies, the latch list, the verdicts and
the end of LOADING are handed on in that order, and a pending latch-list rewrite begins. That a read is refused as it
begins, where the memory is then writing (R176, R188), is the model's reading (log 11), and so is that a latch list with
an entry leaves an announcement owed (`LoadsInto.told`), also where every entry is lost and TABLE_FULL was set already,
where R78 alone gives none: it follows R65, which calls the event a containment change (log 19). -/
def Obligations.LoadReadsImageThenLatchList : Prop :=
  (∀ img : List Byte,
    (imageCrcGood img = false ∨ imageHeaderGood img = false → testImage img = .crc)
    ∧ (imageCrcGood img = true → imageHeaderGood img = true →
        (∀ f, imageFailure img = some f → testImage img = .invalid f)
        ∧ (imageFailure img = none → testImage img = .valid (imageCopy img))))
  ∧ (∀ (altered : List Host.Cell) (s : State), s.store.op = .loadImage → s.store.refused = false →
      exec (.loadImageReadDone (.returned altered)) s = .next { s with store := { s.store with
        imageBuffer := returnedBytes s.memory altered 0 232
        op := .loadLatches (testImage (returnedBytes s.memory altered 0 232))
        refused := decide (0 < s.memoryBusy) } })
  ∧ (∀ (r : BusRead) (s : State), s.store.op = .loadImage → r = .noAcknowledge ∨ s.store.refused = true → ∃ t,
      exec (.loadImageReadDone r) s = .next t ∧ s.LoadsInto Copy.builtin [] [storeFault .noMemory] t)
  ∧ ∀ (r : BusRead) (i : ImageOutcome) (s : State), s.store.op = .loadLatches i → i ≠ .noMemory → ∃ t l vs,
      exec (.loadLatchListReadDone r) s = .next t
      ∧ (r = .noAcknowledge ∨ s.store.refused = true → l = .noMemory)
      ∧ (∀ altered, r = .returned altered → s.store.refused = false →
          l = testLatches (returnedBytes s.memory altered 512 27))
      ∧ ((∃ c es, i = .valid c ∧ l = .valid es) → vs = [storeClean])
      ∧ ((∃ c, i = .valid c) → l = .noMemory → vs = [storeFault .noMemory])
      ∧ ((∃ c, i = .valid c) → l = .invalid → vs = [storeFault .latchesInvalid])
      ∧ (∀ cause, (i = .crc ∧ cause = .imageCrc) ∨ ((∃ f, i = .invalid f) ∧ cause = .imageInvalid) →
          ((∃ es, l = .valid es) → vs = [storeFault cause])
          ∧ (l = .noMemory → vs = [storeFault cause, storeFault .noMemory])
          ∧ (l = .invalid → vs = [storeFault cause, storeFault .latchesInvalid]))
      ∧ ∃ c es, s.LoadsInto c es vs t
        ∧ (∀ d, i = .valid d → c = d) ∧ ((∀ d, i ≠ .valid d) → c = Copy.builtin)
        ∧ (∀ fs, l = .valid fs → es = fs) ∧ ((∀ fs, l ≠ .valid fs) → es = [])

/-- A latch-list rewrite (R178, R185, R81, R199): a request waits while an operation runs, else the write begins with
a snapshot of at most eight contained WORKSHOP records, oldest first confirmed first, ties to the lower slot; its page write puts the 27 bytes
at 512 to 538 and nothing elsewhere, and one that is not acknowledged, or that the memory refused because it was
writing when the write began (R176; log 11), ends with evidence. -/
def Obligations.LatchWriteStoresSnapshot : Prop :=
  (∀ s : State,
    (s.store.op ≠ .none → exec .latchRewriteRequest s = .next { s with
        owed := s.owed.erase .latchRequest, store := { s.store with latchPending := true } })
    ∧ (s.store.op = .none → exec .latchRewriteRequest s = .next { s with
        owed := s.owed.erase .latchRequest
        store := { s.store with
          op := .latchPage, latchPending := false, latchBuffer := encodeLatches (s.table.snapshot s.now)
          refused := decide (0 < s.memoryBusy) } }))
  ∧ (∀ (t : FaultTable) (now : Time), (t.snapshot now).length ≤ 8
    ∧ (∀ e ∈ t.snapshot now, ∃ r ∈ t.contained, r.policy = .workshop ∧ e = ⟨r.unit, r.kind, r.occurrences⟩)
    ∧ (t.workshopContained.length ≤ 8 → ∀ r ∈ t.contained, r.policy = .workshop →
        ⟨r.unit, r.kind, r.occurrences⟩ ∈ t.snapshot now)
    ∧ (∃ rs : List (Nat × FaultRecord),
        rs.Pairwise (fun a b => b.2.confirmedAge now < a.2.confirmedAge now
          ∨ (a.2.confirmedAge now = b.2.confirmedAge now ∧ a.1 < b.1))
        ∧ (∀ i r, (i, r) ∈ rs ↔ t.slot i = some r ∧ r.policy = .workshop
            ∧ (r.state = .active ∨ r.state = .clearing ∨ r.state = .latched))
        ∧ (rs.map Prod.snd).Perm t.workshopContained
        ∧ t.snapshot now = (rs.take 8).map fun x => ⟨x.2.unit, x.2.kind, x.2.occurrences⟩)
    ∧ ∀ r at_, FaultRecord.firstConfirmed r = some at_ → r.confirmedAge now = (now - at_).toNat)
  ∧ ∀ s : State, s.store.op = .latchPage → s.store.latchBuffer.length = 27 → s.memory.wf = true →
    (s.store.refused = false → ∃ t, exec (.latchPageWriteDone true) s = .next t
      ∧ (∀ a, 512 ≤ a → a < 539 → t.memory.read a = byteAt s.store.latchBuffer (a - 512))
      ∧ (∀ a, a < 512 ∨ 539 ≤ a → t.memory.read a = s.memory.read a)
      ∧ t.store = { s.store with op := .latchWait } ∧ t.memoryBusy = 6
      ∧ t.timers = s.timers.set .storeWait ⟨.running, 6, 0⟩
      ∧ t = { s with
          memory := t.memory, memoryBusy := 6, store := t.store, timers := t.timers, owed := t.owed })
    ∧ (∀ ack, ack = false ∨ s.store.refused = true → ∃ t, exec (.latchPageWriteDone ack) s = .next t
      ∧ t.table = (s.deliver (storeFault .saveVerify)).table ∧ t.memory = s.memory
      ∧ t.owed = (s.deliver (storeFault .saveVerify)).owed
      ∧ (s.store.latchPending = false → s.store.savePending = false → s.store.reloadPending = false →
          t.store = { s.store with op := .none, refused := false })
      ∧ t = { s with table := t.table, store := t.store, owed := t.owed })

/-- The steps of a SAVE and of a LATCH_WRITE (R182, R183, R185): an acknowledged page write puts its page of the buffer
in memory and nothing elsewhere, and starts STORE_WAIT, whose expiry goes on with the next page, the read-back, or the
end of the LATCH_WRITE; a write not acknowledged or refused, or a read-back that differs or is refused, ends the SAVE
failed, with both copies and the unsaved flag as they were; a read-back that matches commits the content written.
That the memory's own write is over when STORE_WAIT's expiry is taken is the model's reading of R176 (log 11). -/
def Obligations.SaveWritesPagesAndVerifies : Prop :=
  (∀ (n : Nat) (s : State), s.store.op = .savePage n → s.store.refused = false → s.memory.wf = true → ∃ t,
    exec (.savePageWriteDone true) s = .next t
    ∧ (∀ a, 32 * n ≤ a → a < 32 * n + 32 → a < s.store.imageBuffer.length →
        t.memory.read a = byteAt s.store.imageBuffer a)
    ∧ (∀ a, a < 32 * n ∨ 32 * n + 32 ≤ a ∨ s.store.imageBuffer.length ≤ a → t.memory.read a = s.memory.read a)
    ∧ t.timers = s.timers.set .storeWait ⟨.running, 6, 0⟩
    ∧ t = { s with
        memory := t.memory, memoryBusy := 6, store := { s.store with op := .saveWait n }
        timers := t.timers, owed := t.owed })
  ∧ (∀ (n : Nat) (s : State), s.store.op = .saveWait n → s.expiryInForce .storeWait = true →
      exec .storeWaitExpiry s = .next { s.afterExpiry .storeWait with
        memoryBusy := 0
        store := { s.store with op := if n < 7 then .savePage (n + 1) else .saveReadback, refused := false } })
  ∧ (∀ s : State, s.store.op = .latchWait → s.expiryInForce .storeWait = true →
      exec .storeWaitExpiry s
        = .next (State.deliver { s.afterExpiry .storeWait with memoryBusy := 0 } storeClean).endOperation)
  ∧ (∀ (s : State) (c : Instr),
      ((c = .savePageWriteDone false ∨ (c = .savePageWriteDone true ∧ s.store.refused = true))
        ∧ ∃ n, s.store.op = .savePage n)
      ∨ (s.store.op = .saveReadback ∧ (c = .saveReadbackDone .noAcknowledge
        ∨ (s.store.refused = true ∧ ∃ r, c = .saveReadbackDone r)
        ∨ ∃ altered, c = .saveReadbackDone (.returned altered)
          ∧ returnedBytes s.memory altered 0 232 ≠ s.store.imageBuffer)) → ∃ t, exec c s = .next t
      ∧ t.table = (s.deliver (storeFault .saveVerify)).table
      ∧ t.owed = (s.deliver (storeFault .saveVerify)).owed ++ [.storeEnd .failed]
      ∧ t.store.busy = s.store.busy
      ∧ t = { s with table := t.table, store := t.store, owed := t.owed })
  ∧ ∀ (s : State) (altered : List Host.Cell) (c : Copy), s.store.op = .saveReadback → s.store.refused = false →
      s.store.imageBuffer = encodeImage c → c.Ok →
      (∀ k, (c.rows.get k).confirm ≤ 255 ∧ (c.rows.get k).heal ≤ 255 ∧ (c.rows.get k).recur ≤ 255
        ∧ (c.rows.get k).derate ≤ 255) →
      returnedBytes s.memory altered 0 232 = encodeImage c → ∃ t,
      exec (.saveReadbackDone (.returned altered)) s = .next t
      ∧ t.committed = c ∧ t.unsaved = s.store.replaced ∧ t.working = s.working
      ∧ t.table = (s.deliver storeClean).table
      ∧ t.owed = (s.deliver storeClean).owed ++ [.storeEnd .ok]
      ∧ t = { s with
          committed := t.committed, unsaved := t.unsaved, table := t.table, store := t.store, owed := t.owed }

/-- A whole SAVE, begun while the memory was not writing, every page write acknowledged and every wait run out, leaves
the image in memory byte for byte and every byte beyond it as it was (R182), whatever the memory held. The run takes
each STORE_WAIT expiry with no step of the time base before it, which is the model's choice (log 4), and counts the
memory's own write over at that expiry, which is the model's reading of R176 (log 11). -/
def Obligations.WholeSaveLeavesImageInMemory : Prop :=
  ∀ s : State, s.store.op = .savePage 0 → s.store.refused = false → s.store.imageBuffer.length = 232 →
    s.memory.wf = true → (∀ f, Owed.expiry .storeWait f ∉ s.owed) → ∃ t,
    execAll ((List.replicate 8 [Instr.savePageWriteDone true, .storeWaitExpiry]).flatten) s = .next t
    ∧ t.store.op = .saveReadback ∧ t.store.imageBuffer = s.store.imageBuffer
    ∧ t.memory.readAll 0 232 = s.store.imageBuffer
    ∧ (∀ a, 232 ≤ a → t.memory.read a = s.memory.read a)
    ∧ t.memory.wf = true
    ∧ t = { s with memory := t.memory, memoryBusy := t.memoryBusy, store := t.store, timers := t.timers }
    ∧ ∃ u, exec (.saveReadbackDone (.returned [])) t = .next u ∧ Owed.storeEnd .ok ∈ u.owed

/-- The end of a RELOAD (R184): a valid image replaces both copies as one row change, clears the unsaved flag and gives
a clean observation; every failure leaves the copies and the flag and gives evidence with its cause; the end report
carries the outcome the reply needs. That a read refused as it began, while the memory was writing, ends the RELOAD as
a missing acknowledge does, is the model's reading of R176 (log 11). -/
def Obligations.ReloadReplacesBothCopiesOrNone : Prop :=
  ∀ (r : BusRead) (s : State) (i : ImageOutcome), s.store.op = .reloadRead →
    (r = .noAcknowledge ∨ s.store.refused = true → i = .noMemory) →
    (∀ altered, r = .returned altered → s.store.refused = false →
      i = testImage (returnedBytes s.memory altered 0 232)) → ∃ t,
    exec (.reloadReadDone r) s = .next t
    ∧ (∀ c, i = .valid c → t.working = c ∧ t.committed = c ∧ t.unsaved = false
        ∧ t.table = (State.deliver { s with
            working := c, table := (s.table.rowChange s.working.rows c.rows).table } storeClean).table
        ∧ t.owed.getLast? = some (.storeEnd .ok)
        ∧ t = { s with
            working := c, committed := c, unsaved := false, table := t.table, control := t.control
            timers := t.timers, store := t.store, owed := t.owed })
    ∧ (∀ cause e, (i = .noMemory ∧ cause = .noMemory ∧ e = .failed)
        ∨ (i = .crc ∧ cause = .imageCrc ∧ e = .failed)
        ∨ (∃ f, i = .invalid f ∧ cause = .imageInvalid ∧ e = .invalid f) →
        t.table = (s.deliver (storeFault cause)).table
        ∧ t.owed = (s.deliver (storeFault cause)).owed ++ [.storeEnd e]
        ∧ t = { s with table := t.table, store := t.store, owed := t.owed })

/-- The bus of the external memory (R176). Each step of an operation that uses it has one transaction, sent to the
bus address 0x50 with the memory address in two bytes, high byte first; a transaction begun while the memory writes a
page, and no other, is refused (that it is refused as it begins is the model's reading, log 11), and whatever a
refused transaction's end would bring, it is taken as a missing acknowledge. -/
def Obligations.WritingMemoryAcknowledgesNothing : Prop :=
  (∀ x : Store,
    (x.op = .loadImage ∨ x.op = .saveReadback ∨ x.op = .reloadRead → x.bus = some (.sequentialRead 0 232))
    ∧ (∀ i, x.op = .loadLatches i → x.bus = some (.sequentialRead 512 27))
    ∧ (∀ n, x.op = .savePage n → x.bus = some (.pageWrite (32 * n) ((x.imageBuffer.drop (32 * n)).take 32)))
    ∧ (x.op = .latchPage → x.bus = some (.pageWrite 512 x.latchBuffer))
    ∧ (x.op = .none ∨ x.op = .latchWait ∨ (∃ n, x.op = .saveWait n) → x.bus = none))
  ∧ (∀ (a n : Nat) (data : List Byte),
    (BusTransaction.pageWrite a data).sent = ⟨0x50#7, byteOf (a / 256) :: byteOf a :: data⟩
    ∧ (BusTransaction.sequentialRead a n).sent = ⟨0x50#7, [byteOf (a / 256), byteOf a]⟩)
  ∧ (∀ (c : Instr) (s t : State), exec c s = .next t → t.store.op ≠ s.store.op →
      (t.store.refused = true ↔ t.store.bus.isSome = true ∧ 0 < t.memoryBusy))
  ∧ ∀ (s : State) (ack : Bool) (r : BusRead), s.store.refused = true →
      exec (.savePageWriteDone ack) s = exec (.savePageWriteDone false) s
      ∧ exec (.latchPageWriteDone ack) s = exec (.latchPageWriteDone false) s
      ∧ exec (.loadImageReadDone r) s = exec (.loadImageReadDone .noAcknowledge) s
      ∧ exec (.loadLatchListReadDone r) s = exec (.loadLatchListReadDone .noAcknowledge) s
      ∧ exec (.saveReadbackDone r) s = exec (.saveReadbackDone .noAcknowledge) s
      ∧ exec (.reloadReadDone r) s = exec (.reloadReadDone .noAcknowledge) s

/-! ## Invariants of the whole machine -/

/-- Every step keeps the external memory in canonical form, what is about to be written inside it, and every
transaction that meets a memory still writing a page refused (R176, R182, R185; log 11). -/
def Obligations.EveryStepKeepsMemoryOk : Prop :=
  ∀ s t : State, s.MemoryOk → step s = .next t → t.MemoryOk

/-- Every step keeps what chapter 5 promises of the fault table: 40 places, one record to a pair, counters in their
ranges, TABLE_FULL only while every slot is held, escalation only under WORKSHOP, no LATCHED record under AUTO, the
sweep within the table and no mark outside a sweep. -/
def Obligations.EveryStepKeepsFaultTableOk : Prop :=
  ∀ s t : State, s.table.Ok → step s = .next t → t.table.Ok

/-- Every step keeps the applied state at least as restrictive as the target (R117), the PERMIT and PACK_OPEN lines as
R124 and R125 give, and WARN high while the applied level is not FULL (one half of R126; when WARN is low, and what
LATCHED records do to it, is said of a recomputation in Obligations.AnnouncementAndLinkNoticeMakeDriveTest). -/
def Obligations.EveryStepKeepsLinesAndAppliedState : Prop :=
  ∀ s t : State, s.control.Ok → step s = .next t → t.control.Ok

/-- Every step keeps what the chip states promise: HALT outside DRIVE and SERVICE, WALK or more in SERVICE, overrides
and sweeps only in SERVICE, GATHER only in STANDBY, SERVICE_IDLE only in SERVICE, no period in LOADING. -/
def Obligations.EveryStepKeepsChipStateOk : Prop :=
  ∀ s t : State, s.ChipOk → step s = .next t → t.ChipOk

/-- Every step keeps what chapter 1 promises of the ports: DOWN exactly with an ARMED freshness channel and with no
sequence reference, no join run and no grant while DOWN, bodies within 45 bytes, counters saturating, at most four
replies waiting. -/
def Obligations.EveryStepKeepsLinksOk : Prop :=
  ∀ s t : State, s.LinksOk → step s = .next t → t.LinksOk

/-- Every step keeps the observations and the parameters in their ranges, the locked rows built-in, the ceilings of
the last computation within their budgets, and every waiting grant within its ceilings, with drive and regeneration
commands never both above 0 and zeros for an isolated motor. -/
def Obligations.EveryStepKeepsEnvelopeOk : Prop :=
  ∀ s t : State, s.EnvelopeOk → step s = .next t → t.EnvelopeOk

/-- Every step keeps a deferred reply outstanding exactly while the store is busy (R152, R161, R162). -/
def Obligations.EveryStepKeepsDeferredReplyMatched : Prop :=
  ∀ s t : State, s.DeferredOk → step s = .next t → t.DeferredOk
end

