-- ==== Sys2Proof/Laws/State.lean ====
section
/-! SUPPORT. What each named update of the state leaves alone, field by field. -/

namespace Sys2Proof.Machine

open Sys2Proof

@[simp] theorem State.owe_now (s : State) (es : List Owed) : (s.owe es).now = s.now := rfl
@[simp] theorem State.owe_ports (s : State) (es : List Owed) : (s.owe es).ports = s.ports := rfl
@[simp] theorem State.owe_replies (s : State) (es : List Owed) : (s.owe es).replies = s.replies := rfl
@[simp] theorem State.owe_obs (s : State) (es : List Owed) : (s.owe es).obs = s.obs := rfl
@[simp] theorem State.owe_switches (s : State) (es : List Owed) : (s.owe es).switches = s.switches := rfl
@[simp] theorem State.owe_timers (s : State) (es : List Owed) : (s.owe es).timers = s.timers := rfl
@[simp] theorem State.owe_working (s : State) (es : List Owed) : (s.owe es).working = s.working := rfl
@[simp] theorem State.owe_committed (s : State) (es : List Owed) : (s.owe es).committed = s.committed := rfl
@[simp] theorem State.owe_unsaved (s : State) (es : List Owed) : (s.owe es).unsaved = s.unsaved := rfl
@[simp] theorem State.owe_table (s : State) (es : List Owed) : (s.owe es).table = s.table := rfl
@[simp] theorem State.owe_monitor (s : State) (es : List Owed) : (s.owe es).monitor = s.monitor := rfl
@[simp] theorem State.owe_control (s : State) (es : List Owed) : (s.owe es).control = s.control := rfl
@[simp] theorem State.owe_envelope (s : State) (es : List Owed) : (s.owe es).envelope = s.envelope := rfl
@[simp] theorem State.owe_deferred (s : State) (es : List Owed) : (s.owe es).deferred = s.deferred := rfl
@[simp] theorem State.owe_store (s : State) (es : List Owed) : (s.owe es).store = s.store := rfl
@[simp] theorem State.owe_memory (s : State) (es : List Owed) : (s.owe es).memory = s.memory := rfl
@[simp] theorem State.owe_memoryBusy (s : State) (es : List Owed) : (s.owe es).memoryBusy = s.memoryBusy := rfl
@[simp] theorem State.owe_pending (s : State) (es : List Owed) : (s.owe es).pending = s.pending := rfl

@[simp] theorem State.took_now (s : State) (f : Owed → Bool) : (s.took f).now = s.now := rfl
@[simp] theorem State.took_ports (s : State) (f : Owed → Bool) : (s.took f).ports = s.ports := rfl
@[simp] theorem State.took_replies (s : State) (f : Owed → Bool) : (s.took f).replies = s.replies := rfl
@[simp] theorem State.took_obs (s : State) (f : Owed → Bool) : (s.took f).obs = s.obs := rfl
@[simp] theorem State.took_switches (s : State) (f : Owed → Bool) : (s.took f).switches = s.switches := rfl
@[simp] theorem State.took_timers (s : State) (f : Owed → Bool) : (s.took f).timers = s.timers := rfl
@[simp] theorem State.took_working (s : State) (f : Owed → Bool) : (s.took f).working = s.working := rfl
@[simp] theorem State.took_committed (s : State) (f : Owed → Bool) : (s.took f).committed = s.committed := rfl
@[simp] theorem State.took_unsaved (s : State) (f : Owed → Bool) : (s.took f).unsaved = s.unsaved := rfl
@[simp] theorem State.took_table (s : State) (f : Owed → Bool) : (s.took f).table = s.table := rfl
@[simp] theorem State.took_monitor (s : State) (f : Owed → Bool) : (s.took f).monitor = s.monitor := rfl
@[simp] theorem State.took_control (s : State) (f : Owed → Bool) : (s.took f).control = s.control := rfl
@[simp] theorem State.took_envelope (s : State) (f : Owed → Bool) : (s.took f).envelope = s.envelope := rfl
@[simp] theorem State.took_deferred (s : State) (f : Owed → Bool) : (s.took f).deferred = s.deferred := rfl
@[simp] theorem State.took_store (s : State) (f : Owed → Bool) : (s.took f).store = s.store := rfl
@[simp] theorem State.took_memory (s : State) (f : Owed → Bool) : (s.took f).memory = s.memory := rfl
@[simp] theorem State.took_memoryBusy (s : State) (f : Owed → Bool) : (s.took f).memoryBusy = s.memoryBusy := rfl
@[simp] theorem State.took_pending (s : State) (f : Owed → Bool) : (s.took f).pending = s.pending := rfl

@[simp] theorem State.operate_now (s : State) (c : Chan) (f : Channel → Channel) : (s.operate c f).now = s.now := rfl
@[simp] theorem State.operate_ports (s : State) (c : Chan) (f : Channel → Channel) : (s.operate c f).ports = s.ports := rfl
@[simp] theorem State.operate_replies (s : State) (c : Chan) (f : Channel → Channel) : (s.operate c f).replies = s.replies := rfl
@[simp] theorem State.operate_obs (s : State) (c : Chan) (f : Channel → Channel) : (s.operate c f).obs = s.obs := rfl
@[simp] theorem State.operate_switches (s : State) (c : Chan) (f : Channel → Channel) : (s.operate c f).switches = s.switches := rfl
@[simp] theorem State.operate_working (s : State) (c : Chan) (f : Channel → Channel) : (s.operate c f).working = s.working := rfl
@[simp] theorem State.operate_committed (s : State) (c : Chan) (f : Channel → Channel) : (s.operate c f).committed = s.committed := rfl
@[simp] theorem State.operate_unsaved (s : State) (c : Chan) (f : Channel → Channel) : (s.operate c f).unsaved = s.unsaved := rfl
@[simp] theorem State.operate_table (s : State) (c : Chan) (f : Channel → Channel) : (s.operate c f).table = s.table := rfl
@[simp] theorem State.operate_monitor (s : State) (c : Chan) (f : Channel → Channel) : (s.operate c f).monitor = s.monitor := rfl
@[simp] theorem State.operate_control (s : State) (c : Chan) (f : Channel → Channel) : (s.operate c f).control = s.control := rfl
@[simp] theorem State.operate_envelope (s : State) (c : Chan) (f : Channel → Channel) : (s.operate c f).envelope = s.envelope := rfl
@[simp] theorem State.operate_deferred (s : State) (c : Chan) (f : Channel → Channel) : (s.operate c f).deferred = s.deferred := rfl
@[simp] theorem State.operate_store (s : State) (c : Chan) (f : Channel → Channel) : (s.operate c f).store = s.store := rfl
@[simp] theorem State.operate_memory (s : State) (c : Chan) (f : Channel → Channel) : (s.operate c f).memory = s.memory := rfl
@[simp] theorem State.operate_memoryBusy (s : State) (c : Chan) (f : Channel → Channel) : (s.operate c f).memoryBusy = s.memoryBusy := rfl
@[simp] theorem State.operate_pending (s : State) (c : Chan) (f : Channel → Channel) : (s.operate c f).pending = s.pending := rfl

@[simp] theorem State.arm_now (s : State) (c : Chan) : (s.arm c).now = s.now := rfl
@[simp] theorem State.arm_ports (s : State) (c : Chan) : (s.arm c).ports = s.ports := rfl
@[simp] theorem State.arm_replies (s : State) (c : Chan) : (s.arm c).replies = s.replies := rfl
@[simp] theorem State.arm_obs (s : State) (c : Chan) : (s.arm c).obs = s.obs := rfl
@[simp] theorem State.arm_switches (s : State) (c : Chan) : (s.arm c).switches = s.switches := rfl
@[simp] theorem State.arm_working (s : State) (c : Chan) : (s.arm c).working = s.working := rfl
@[simp] theorem State.arm_committed (s : State) (c : Chan) : (s.arm c).committed = s.committed := rfl
@[simp] theorem State.arm_unsaved (s : State) (c : Chan) : (s.arm c).unsaved = s.unsaved := rfl
@[simp] theorem State.arm_table (s : State) (c : Chan) : (s.arm c).table = s.table := rfl
@[simp] theorem State.arm_monitor (s : State) (c : Chan) : (s.arm c).monitor = s.monitor := rfl
@[simp] theorem State.arm_control (s : State) (c : Chan) : (s.arm c).control = s.control := rfl
@[simp] theorem State.arm_envelope (s : State) (c : Chan) : (s.arm c).envelope = s.envelope := rfl
@[simp] theorem State.arm_deferred (s : State) (c : Chan) : (s.arm c).deferred = s.deferred := rfl
@[simp] theorem State.arm_store (s : State) (c : Chan) : (s.arm c).store = s.store := rfl
@[simp] theorem State.arm_memory (s : State) (c : Chan) : (s.arm c).memory = s.memory := rfl
@[simp] theorem State.arm_memoryBusy (s : State) (c : Chan) : (s.arm c).memoryBusy = s.memoryBusy := rfl
@[simp] theorem State.arm_pending (s : State) (c : Chan) : (s.arm c).pending = s.pending := rfl

@[simp] theorem State.start_now (s : State) (c : Chan) : (s.start c).now = s.now := rfl
@[simp] theorem State.start_ports (s : State) (c : Chan) : (s.start c).ports = s.ports := rfl
@[simp] theorem State.start_replies (s : State) (c : Chan) : (s.start c).replies = s.replies := rfl
@[simp] theorem State.start_obs (s : State) (c : Chan) : (s.start c).obs = s.obs := rfl
@[simp] theorem State.start_switches (s : State) (c : Chan) : (s.start c).switches = s.switches := rfl
@[simp] theorem State.start_working (s : State) (c : Chan) : (s.start c).working = s.working := rfl
@[simp] theorem State.start_committed (s : State) (c : Chan) : (s.start c).committed = s.committed := rfl
@[simp] theorem State.start_unsaved (s : State) (c : Chan) : (s.start c).unsaved = s.unsaved := rfl
@[simp] theorem State.start_table (s : State) (c : Chan) : (s.start c).table = s.table := rfl
@[simp] theorem State.start_monitor (s : State) (c : Chan) : (s.start c).monitor = s.monitor := rfl
@[simp] theorem State.start_control (s : State) (c : Chan) : (s.start c).control = s.control := rfl
@[simp] theorem State.start_envelope (s : State) (c : Chan) : (s.start c).envelope = s.envelope := rfl
@[simp] theorem State.start_deferred (s : State) (c : Chan) : (s.start c).deferred = s.deferred := rfl
@[simp] theorem State.start_store (s : State) (c : Chan) : (s.start c).store = s.store := rfl
@[simp] theorem State.start_memory (s : State) (c : Chan) : (s.start c).memory = s.memory := rfl
@[simp] theorem State.start_memoryBusy (s : State) (c : Chan) : (s.start c).memoryBusy = s.memoryBusy := rfl
@[simp] theorem State.start_pending (s : State) (c : Chan) : (s.start c).pending = s.pending := rfl

@[simp] theorem State.stop_now (s : State) (c : Chan) : (s.stop c).now = s.now := rfl
@[simp] theorem State.stop_ports (s : State) (c : Chan) : (s.stop c).ports = s.ports := rfl
@[simp] theorem State.stop_replies (s : State) (c : Chan) : (s.stop c).replies = s.replies := rfl
@[simp] theorem State.stop_obs (s : State) (c : Chan) : (s.stop c).obs = s.obs := rfl
@[simp] theorem State.stop_switches (s : State) (c : Chan) : (s.stop c).switches = s.switches := rfl
@[simp] theorem State.stop_working (s : State) (c : Chan) : (s.stop c).working = s.working := rfl
@[simp] theorem State.stop_committed (s : State) (c : Chan) : (s.stop c).committed = s.committed := rfl
@[simp] theorem State.stop_unsaved (s : State) (c : Chan) : (s.stop c).unsaved = s.unsaved := rfl
@[simp] theorem State.stop_table (s : State) (c : Chan) : (s.stop c).table = s.table := rfl
@[simp] theorem State.stop_monitor (s : State) (c : Chan) : (s.stop c).monitor = s.monitor := rfl
@[simp] theorem State.stop_control (s : State) (c : Chan) : (s.stop c).control = s.control := rfl
@[simp] theorem State.stop_envelope (s : State) (c : Chan) : (s.stop c).envelope = s.envelope := rfl
@[simp] theorem State.stop_deferred (s : State) (c : Chan) : (s.stop c).deferred = s.deferred := rfl
@[simp] theorem State.stop_store (s : State) (c : Chan) : (s.stop c).store = s.store := rfl
@[simp] theorem State.stop_memory (s : State) (c : Chan) : (s.stop c).memory = s.memory := rfl
@[simp] theorem State.stop_memoryBusy (s : State) (c : Chan) : (s.stop c).memoryBusy = s.memoryBusy := rfl
@[simp] theorem State.stop_pending (s : State) (c : Chan) : (s.stop c).pending = s.pending := rfl

@[simp] theorem State.afterExpiry_now (s : State) (c : Chan) : (s.afterExpiry c).now = s.now := rfl
@[simp] theorem State.afterExpiry_ports (s : State) (c : Chan) : (s.afterExpiry c).ports = s.ports := rfl
@[simp] theorem State.afterExpiry_replies (s : State) (c : Chan) : (s.afterExpiry c).replies = s.replies := rfl
@[simp] theorem State.afterExpiry_obs (s : State) (c : Chan) : (s.afterExpiry c).obs = s.obs := rfl
@[simp] theorem State.afterExpiry_switches (s : State) (c : Chan) : (s.afterExpiry c).switches = s.switches := rfl
@[simp] theorem State.afterExpiry_working (s : State) (c : Chan) : (s.afterExpiry c).working = s.working := rfl
@[simp] theorem State.afterExpiry_committed (s : State) (c : Chan) : (s.afterExpiry c).committed = s.committed := rfl
@[simp] theorem State.afterExpiry_unsaved (s : State) (c : Chan) : (s.afterExpiry c).unsaved = s.unsaved := rfl
@[simp] theorem State.afterExpiry_table (s : State) (c : Chan) : (s.afterExpiry c).table = s.table := rfl
@[simp] theorem State.afterExpiry_monitor (s : State) (c : Chan) : (s.afterExpiry c).monitor = s.monitor := rfl
@[simp] theorem State.afterExpiry_control (s : State) (c : Chan) : (s.afterExpiry c).control = s.control := rfl
@[simp] theorem State.afterExpiry_envelope (s : State) (c : Chan) : (s.afterExpiry c).envelope = s.envelope := rfl
@[simp] theorem State.afterExpiry_deferred (s : State) (c : Chan) : (s.afterExpiry c).deferred = s.deferred := rfl
@[simp] theorem State.afterExpiry_store (s : State) (c : Chan) : (s.afterExpiry c).store = s.store := rfl
@[simp] theorem State.afterExpiry_memory (s : State) (c : Chan) : (s.afterExpiry c).memory = s.memory := rfl
@[simp] theorem State.afterExpiry_memoryBusy (s : State) (c : Chan) : (s.afterExpiry c).memoryBusy = s.memoryBusy := rfl
@[simp] theorem State.afterExpiry_pending (s : State) (c : Chan) : (s.afterExpiry c).pending = s.pending := rfl

@[simp] theorem State.tableEvent_now (s : State) (o : TableOut) : (s.tableEvent o).now = s.now := rfl
@[simp] theorem State.tableEvent_ports (s : State) (o : TableOut) : (s.tableEvent o).ports = s.ports := rfl
@[simp] theorem State.tableEvent_replies (s : State) (o : TableOut) : (s.tableEvent o).replies = s.replies := rfl
@[simp] theorem State.tableEvent_obs (s : State) (o : TableOut) : (s.tableEvent o).obs = s.obs := rfl
@[simp] theorem State.tableEvent_switches (s : State) (o : TableOut) : (s.tableEvent o).switches = s.switches := rfl
@[simp] theorem State.tableEvent_timers (s : State) (o : TableOut) : (s.tableEvent o).timers = s.timers := rfl
@[simp] theorem State.tableEvent_working (s : State) (o : TableOut) : (s.tableEvent o).working = s.working := rfl
@[simp] theorem State.tableEvent_committed (s : State) (o : TableOut) : (s.tableEvent o).committed = s.committed := rfl
@[simp] theorem State.tableEvent_unsaved (s : State) (o : TableOut) : (s.tableEvent o).unsaved = s.unsaved := rfl
@[simp] theorem State.tableEvent_monitor (s : State) (o : TableOut) : (s.tableEvent o).monitor = s.monitor := rfl
@[simp] theorem State.tableEvent_control (s : State) (o : TableOut) : (s.tableEvent o).control = s.control := rfl
@[simp] theorem State.tableEvent_envelope (s : State) (o : TableOut) : (s.tableEvent o).envelope = s.envelope := rfl
@[simp] theorem State.tableEvent_deferred (s : State) (o : TableOut) : (s.tableEvent o).deferred = s.deferred := rfl
@[simp] theorem State.tableEvent_store (s : State) (o : TableOut) : (s.tableEvent o).store = s.store := rfl
@[simp] theorem State.tableEvent_memory (s : State) (o : TableOut) : (s.tableEvent o).memory = s.memory := rfl
@[simp] theorem State.tableEvent_memoryBusy (s : State) (o : TableOut) : (s.tableEvent o).memoryBusy = s.memoryBusy := rfl
@[simp] theorem State.tableEvent_pending (s : State) (o : TableOut) : (s.tableEvent o).pending = s.pending := rfl

@[simp] theorem State.deliver_now (s : State) (d : Delivery) : (s.deliver d).now = s.now := rfl
@[simp] theorem State.deliver_ports (s : State) (d : Delivery) : (s.deliver d).ports = s.ports := rfl
@[simp] theorem State.deliver_replies (s : State) (d : Delivery) : (s.deliver d).replies = s.replies := rfl
@[simp] theorem State.deliver_obs (s : State) (d : Delivery) : (s.deliver d).obs = s.obs := rfl
@[simp] theorem State.deliver_switches (s : State) (d : Delivery) : (s.deliver d).switches = s.switches := rfl
@[simp] theorem State.deliver_timers (s : State) (d : Delivery) : (s.deliver d).timers = s.timers := rfl
@[simp] theorem State.deliver_working (s : State) (d : Delivery) : (s.deliver d).working = s.working := rfl
@[simp] theorem State.deliver_committed (s : State) (d : Delivery) : (s.deliver d).committed = s.committed := rfl
@[simp] theorem State.deliver_unsaved (s : State) (d : Delivery) : (s.deliver d).unsaved = s.unsaved := rfl
@[simp] theorem State.deliver_monitor (s : State) (d : Delivery) : (s.deliver d).monitor = s.monitor := rfl
@[simp] theorem State.deliver_control (s : State) (d : Delivery) : (s.deliver d).control = s.control := rfl
@[simp] theorem State.deliver_envelope (s : State) (d : Delivery) : (s.deliver d).envelope = s.envelope := rfl
@[simp] theorem State.deliver_deferred (s : State) (d : Delivery) : (s.deliver d).deferred = s.deferred := rfl
@[simp] theorem State.deliver_store (s : State) (d : Delivery) : (s.deliver d).store = s.store := rfl
@[simp] theorem State.deliver_memory (s : State) (d : Delivery) : (s.deliver d).memory = s.memory := rfl
@[simp] theorem State.deliver_memoryBusy (s : State) (d : Delivery) : (s.deliver d).memoryBusy = s.memoryBusy := rfl
@[simp] theorem State.deliver_pending (s : State) (d : Delivery) : (s.deliver d).pending = s.pending := rfl

@[simp] theorem State.deliverAll_now (s : State) (ds : List Delivery) : (s.deliverAll ds).now = s.now := by
  unfold State.deliverAll; induction ds generalizing s with
  | nil => rfl
  | cons d ds ih => exact ih _
@[simp] theorem State.deliverAll_ports (s : State) (ds : List Delivery) : (s.deliverAll ds).ports = s.ports := by
  unfold State.deliverAll; induction ds generalizing s with
  | nil => rfl
  | cons d ds ih => exact ih _
@[simp] theorem State.deliverAll_replies (s : State) (ds : List Delivery) : (s.deliverAll ds).replies = s.replies := by
  unfold State.deliverAll; induction ds generalizing s with
  | nil => rfl
  | cons d ds ih => exact ih _
@[simp] theorem State.deliverAll_obs (s : State) (ds : List Delivery) : (s.deliverAll ds).obs = s.obs := by
  unfold State.deliverAll; induction ds generalizing s with
  | nil => rfl
  | cons d ds ih => exact ih _
@[simp] theorem State.deliverAll_switches (s : State) (ds : List Delivery) : (s.deliverAll ds).switches = s.switches := by
  unfold State.deliverAll; induction ds generalizing s with
  | nil => rfl
  | cons d ds ih => exact ih _
@[simp] theorem State.deliverAll_timers (s : State) (ds : List Delivery) : (s.deliverAll ds).timers = s.timers := by
  unfold State.deliverAll; induction ds generalizing s with
  | nil => rfl
  | cons d ds ih => exact ih _
@[simp] theorem State.deliverAll_working (s : State) (ds : List Delivery) : (s.deliverAll ds).working = s.working := by
  unfold State.deliverAll; induction ds generalizing s with
  | nil => rfl
  | cons d ds ih => exact ih _
@[simp] theorem State.deliverAll_committed (s : State) (ds : List Delivery) : (s.deliverAll ds).committed = s.committed := by
  unfold State.deliverAll; induction ds generalizing s with
  | nil => rfl
  | cons d ds ih => exact ih _
@[simp] theorem State.deliverAll_unsaved (s : State) (ds : List Delivery) : (s.deliverAll ds).unsaved = s.unsaved := by
  unfold State.deliverAll; induction ds generalizing s with
  | nil => rfl
  | cons d ds ih => exact ih _
@[simp] theorem State.deliverAll_monitor (s : State) (ds : List Delivery) : (s.deliverAll ds).monitor = s.monitor := by
  unfold State.deliverAll; induction ds generalizing s with
  | nil => rfl
  | cons d ds ih => exact ih _
@[simp] theorem State.deliverAll_control (s : State) (ds : List Delivery) : (s.deliverAll ds).control = s.control := by
  unfold State.deliverAll; induction ds generalizing s with
  | nil => rfl
  | cons d ds ih => exact ih _
@[simp] theorem State.deliverAll_envelope (s : State) (ds : List Delivery) : (s.deliverAll ds).envelope = s.envelope := by
  unfold State.deliverAll; induction ds generalizing s with
  | nil => rfl
  | cons d ds ih => exact ih _
@[simp] theorem State.deliverAll_deferred (s : State) (ds : List Delivery) : (s.deliverAll ds).deferred = s.deferred := by
  unfold State.deliverAll; induction ds generalizing s with
  | nil => rfl
  | cons d ds ih => exact ih _
@[simp] theorem State.deliverAll_store (s : State) (ds : List Delivery) : (s.deliverAll ds).store = s.store := by
  unfold State.deliverAll; induction ds generalizing s with
  | nil => rfl
  | cons d ds ih => exact ih _
@[simp] theorem State.deliverAll_memory (s : State) (ds : List Delivery) : (s.deliverAll ds).memory = s.memory := by
  unfold State.deliverAll; induction ds generalizing s with
  | nil => rfl
  | cons d ds ih => exact ih _
@[simp] theorem State.deliverAll_memoryBusy (s : State) (ds : List Delivery) : (s.deliverAll ds).memoryBusy = s.memoryBusy := by
  unfold State.deliverAll; induction ds generalizing s with
  | nil => rfl
  | cons d ds ih => exact ih _
@[simp] theorem State.deliverAll_pending (s : State) (ds : List Delivery) : (s.deliverAll ds).pending = s.pending := by
  unfold State.deliverAll; induction ds generalizing s with
  | nil => rfl
  | cons d ds ih => exact ih _

@[simp] theorem State.updPort_now (s : State) (p : Port) (f : LinkPort → LinkPort) : (s.updPort p f).now = s.now := rfl
@[simp] theorem State.updPort_replies (s : State) (p : Port) (f : LinkPort → LinkPort) : (s.updPort p f).replies = s.replies := rfl
@[simp] theorem State.updPort_obs (s : State) (p : Port) (f : LinkPort → LinkPort) : (s.updPort p f).obs = s.obs := rfl
@[simp] theorem State.updPort_switches (s : State) (p : Port) (f : LinkPort → LinkPort) : (s.updPort p f).switches = s.switches := rfl
@[simp] theorem State.updPort_timers (s : State) (p : Port) (f : LinkPort → LinkPort) : (s.updPort p f).timers = s.timers := rfl
@[simp] theorem State.updPort_working (s : State) (p : Port) (f : LinkPort → LinkPort) : (s.updPort p f).working = s.working := rfl
@[simp] theorem State.updPort_committed (s : State) (p : Port) (f : LinkPort → LinkPort) : (s.updPort p f).committed = s.committed := rfl
@[simp] theorem State.updPort_unsaved (s : State) (p : Port) (f : LinkPort → LinkPort) : (s.updPort p f).unsaved = s.unsaved := rfl
@[simp] theorem State.updPort_table (s : State) (p : Port) (f : LinkPort → LinkPort) : (s.updPort p f).table = s.table := rfl
@[simp] theorem State.updPort_monitor (s : State) (p : Port) (f : LinkPort → LinkPort) : (s.updPort p f).monitor = s.monitor := rfl
@[simp] theorem State.updPort_control (s : State) (p : Port) (f : LinkPort → LinkPort) : (s.updPort p f).control = s.control := rfl
@[simp] theorem State.updPort_envelope (s : State) (p : Port) (f : LinkPort → LinkPort) : (s.updPort p f).envelope = s.envelope := rfl
@[simp] theorem State.updPort_deferred (s : State) (p : Port) (f : LinkPort → LinkPort) : (s.updPort p f).deferred = s.deferred := rfl
@[simp] theorem State.updPort_store (s : State) (p : Port) (f : LinkPort → LinkPort) : (s.updPort p f).store = s.store := rfl
@[simp] theorem State.updPort_memory (s : State) (p : Port) (f : LinkPort → LinkPort) : (s.updPort p f).memory = s.memory := rfl
@[simp] theorem State.updPort_memoryBusy (s : State) (p : Port) (f : LinkPort → LinkPort) : (s.updPort p f).memoryBusy = s.memoryBusy := rfl
@[simp] theorem State.updPort_owed (s : State) (p : Port) (f : LinkPort → LinkPort) : (s.updPort p f).owed = s.owed := rfl
@[simp] theorem State.updPort_pending (s : State) (p : Port) (f : LinkPort → LinkPort) : (s.updPort p f).pending = s.pending := rfl

@[simp] theorem State.placeReply_now (s : State) (r : Reply) : (s.placeReply r).now = s.now := rfl
@[simp] theorem State.placeReply_obs (s : State) (r : Reply) : (s.placeReply r).obs = s.obs := rfl
@[simp] theorem State.placeReply_switches (s : State) (r : Reply) : (s.placeReply r).switches = s.switches := rfl
@[simp] theorem State.placeReply_timers (s : State) (r : Reply) : (s.placeReply r).timers = s.timers := rfl
@[simp] theorem State.placeReply_working (s : State) (r : Reply) : (s.placeReply r).working = s.working := rfl
@[simp] theorem State.placeReply_committed (s : State) (r : Reply) : (s.placeReply r).committed = s.committed := rfl
@[simp] theorem State.placeReply_unsaved (s : State) (r : Reply) : (s.placeReply r).unsaved = s.unsaved := rfl
@[simp] theorem State.placeReply_table (s : State) (r : Reply) : (s.placeReply r).table = s.table := rfl
@[simp] theorem State.placeReply_monitor (s : State) (r : Reply) : (s.placeReply r).monitor = s.monitor := rfl
@[simp] theorem State.placeReply_control (s : State) (r : Reply) : (s.placeReply r).control = s.control := rfl
@[simp] theorem State.placeReply_envelope (s : State) (r : Reply) : (s.placeReply r).envelope = s.envelope := rfl
@[simp] theorem State.placeReply_deferred (s : State) (r : Reply) : (s.placeReply r).deferred = s.deferred := rfl
@[simp] theorem State.placeReply_store (s : State) (r : Reply) : (s.placeReply r).store = s.store := rfl
@[simp] theorem State.placeReply_memory (s : State) (r : Reply) : (s.placeReply r).memory = s.memory := rfl
@[simp] theorem State.placeReply_memoryBusy (s : State) (r : Reply) : (s.placeReply r).memoryBusy = s.memoryBusy := rfl
@[simp] theorem State.placeReply_owed (s : State) (r : Reply) : (s.placeReply r).owed = s.owed := rfl
@[simp] theorem State.placeReply_pending (s : State) (r : Reply) : (s.placeReply r).pending = s.pending := rfl

@[simp] theorem State.setChip_now (s : State) (c : Chip) : (s.setChip c).now = s.now := rfl
@[simp] theorem State.setChip_ports (s : State) (c : Chip) : (s.setChip c).ports = s.ports := rfl
@[simp] theorem State.setChip_replies (s : State) (c : Chip) : (s.setChip c).replies = s.replies := rfl
@[simp] theorem State.setChip_obs (s : State) (c : Chip) : (s.setChip c).obs = s.obs := rfl
@[simp] theorem State.setChip_switches (s : State) (c : Chip) : (s.setChip c).switches = s.switches := rfl
@[simp] theorem State.setChip_timers (s : State) (c : Chip) : (s.setChip c).timers = s.timers := rfl
@[simp] theorem State.setChip_working (s : State) (c : Chip) : (s.setChip c).working = s.working := rfl
@[simp] theorem State.setChip_committed (s : State) (c : Chip) : (s.setChip c).committed = s.committed := rfl
@[simp] theorem State.setChip_unsaved (s : State) (c : Chip) : (s.setChip c).unsaved = s.unsaved := rfl
@[simp] theorem State.setChip_table (s : State) (c : Chip) : (s.setChip c).table = s.table := rfl
@[simp] theorem State.setChip_monitor (s : State) (c : Chip) : (s.setChip c).monitor = s.monitor := rfl
@[simp] theorem State.setChip_envelope (s : State) (c : Chip) : (s.setChip c).envelope = s.envelope := rfl
@[simp] theorem State.setChip_deferred (s : State) (c : Chip) : (s.setChip c).deferred = s.deferred := rfl
@[simp] theorem State.setChip_store (s : State) (c : Chip) : (s.setChip c).store = s.store := rfl
@[simp] theorem State.setChip_memory (s : State) (c : Chip) : (s.setChip c).memory = s.memory := rfl
@[simp] theorem State.setChip_memoryBusy (s : State) (c : Chip) : (s.setChip c).memoryBusy = s.memoryBusy := rfl
@[simp] theorem State.setChip_owed (s : State) (c : Chip) : (s.setChip c).owed = s.owed := rfl
@[simp] theorem State.setChip_pending (s : State) (c : Chip) : (s.setChip c).pending = s.pending := rfl

@[simp] theorem State.setLines_now (s : State) : (s.setLines).now = s.now := rfl
@[simp] theorem State.setLines_ports (s : State) : (s.setLines).ports = s.ports := rfl
@[simp] theorem State.setLines_replies (s : State) : (s.setLines).replies = s.replies := rfl
@[simp] theorem State.setLines_obs (s : State) : (s.setLines).obs = s.obs := rfl
@[simp] theorem State.setLines_switches (s : State) : (s.setLines).switches = s.switches := rfl
@[simp] theorem State.setLines_timers (s : State) : (s.setLines).timers = s.timers := rfl
@[simp] theorem State.setLines_working (s : State) : (s.setLines).working = s.working := rfl
@[simp] theorem State.setLines_committed (s : State) : (s.setLines).committed = s.committed := rfl
@[simp] theorem State.setLines_unsaved (s : State) : (s.setLines).unsaved = s.unsaved := rfl
@[simp] theorem State.setLines_table (s : State) : (s.setLines).table = s.table := rfl
@[simp] theorem State.setLines_monitor (s : State) : (s.setLines).monitor = s.monitor := rfl
@[simp] theorem State.setLines_envelope (s : State) : (s.setLines).envelope = s.envelope := rfl
@[simp] theorem State.setLines_deferred (s : State) : (s.setLines).deferred = s.deferred := rfl
@[simp] theorem State.setLines_store (s : State) : (s.setLines).store = s.store := rfl
@[simp] theorem State.setLines_memory (s : State) : (s.setLines).memory = s.memory := rfl
@[simp] theorem State.setLines_memoryBusy (s : State) : (s.setLines).memoryBusy = s.memoryBusy := rfl
@[simp] theorem State.setLines_owed (s : State) : (s.setLines).owed = s.owed := rfl
@[simp] theorem State.setLines_pending (s : State) : (s.setLines).pending = s.pending := rfl

@[simp] theorem State.updStore_now (s : State) (f : Store → Store) : (s.updStore f).now = s.now := rfl
@[simp] theorem State.updStore_ports (s : State) (f : Store → Store) : (s.updStore f).ports = s.ports := rfl
@[simp] theorem State.updStore_replies (s : State) (f : Store → Store) : (s.updStore f).replies = s.replies := rfl
@[simp] theorem State.updStore_obs (s : State) (f : Store → Store) : (s.updStore f).obs = s.obs := rfl
@[simp] theorem State.updStore_switches (s : State) (f : Store → Store) : (s.updStore f).switches = s.switches := rfl
@[simp] theorem State.updStore_timers (s : State) (f : Store → Store) : (s.updStore f).timers = s.timers := rfl
@[simp] theorem State.updStore_working (s : State) (f : Store → Store) : (s.updStore f).working = s.working := rfl
@[simp] theorem State.updStore_committed (s : State) (f : Store → Store) : (s.updStore f).committed = s.committed := rfl
@[simp] theorem State.updStore_unsaved (s : State) (f : Store → Store) : (s.updStore f).unsaved = s.unsaved := rfl
@[simp] theorem State.updStore_table (s : State) (f : Store → Store) : (s.updStore f).table = s.table := rfl
@[simp] theorem State.updStore_monitor (s : State) (f : Store → Store) : (s.updStore f).monitor = s.monitor := rfl
@[simp] theorem State.updStore_control (s : State) (f : Store → Store) : (s.updStore f).control = s.control := rfl
@[simp] theorem State.updStore_envelope (s : State) (f : Store → Store) : (s.updStore f).envelope = s.envelope := rfl
@[simp] theorem State.updStore_deferred (s : State) (f : Store → Store) : (s.updStore f).deferred = s.deferred := rfl
@[simp] theorem State.updStore_memory (s : State) (f : Store → Store) : (s.updStore f).memory = s.memory := rfl
@[simp] theorem State.updStore_memoryBusy (s : State) (f : Store → Store) : (s.updStore f).memoryBusy = s.memoryBusy := rfl
@[simp] theorem State.updStore_owed (s : State) (f : Store → Store) : (s.updStore f).owed = s.owed := rfl
@[simp] theorem State.updStore_pending (s : State) (f : Store → Store) : (s.updStore f).pending = s.pending := rfl

@[simp] theorem State.setOp_now (s : State) (o : StoreOp) : (s.setOp o).now = s.now := rfl
@[simp] theorem State.setOp_ports (s : State) (o : StoreOp) : (s.setOp o).ports = s.ports := rfl
@[simp] theorem State.setOp_replies (s : State) (o : StoreOp) : (s.setOp o).replies = s.replies := rfl
@[simp] theorem State.setOp_obs (s : State) (o : StoreOp) : (s.setOp o).obs = s.obs := rfl
@[simp] theorem State.setOp_switches (s : State) (o : StoreOp) : (s.setOp o).switches = s.switches := rfl
@[simp] theorem State.setOp_timers (s : State) (o : StoreOp) : (s.setOp o).timers = s.timers := rfl
@[simp] theorem State.setOp_working (s : State) (o : StoreOp) : (s.setOp o).working = s.working := rfl
@[simp] theorem State.setOp_committed (s : State) (o : StoreOp) : (s.setOp o).committed = s.committed := rfl
@[simp] theorem State.setOp_unsaved (s : State) (o : StoreOp) : (s.setOp o).unsaved = s.unsaved := rfl
@[simp] theorem State.setOp_table (s : State) (o : StoreOp) : (s.setOp o).table = s.table := rfl
@[simp] theorem State.setOp_monitor (s : State) (o : StoreOp) : (s.setOp o).monitor = s.monitor := rfl
@[simp] theorem State.setOp_control (s : State) (o : StoreOp) : (s.setOp o).control = s.control := rfl
@[simp] theorem State.setOp_envelope (s : State) (o : StoreOp) : (s.setOp o).envelope = s.envelope := rfl
@[simp] theorem State.setOp_deferred (s : State) (o : StoreOp) : (s.setOp o).deferred = s.deferred := rfl
@[simp] theorem State.setOp_memory (s : State) (o : StoreOp) : (s.setOp o).memory = s.memory := rfl
@[simp] theorem State.setOp_memoryBusy (s : State) (o : StoreOp) : (s.setOp o).memoryBusy = s.memoryBusy := rfl
@[simp] theorem State.setOp_owed (s : State) (o : StoreOp) : (s.setOp o).owed = s.owed := rfl
@[simp] theorem State.setOp_pending (s : State) (o : StoreOp) : (s.setOp o).pending = s.pending := rfl

@[simp] theorem State.memoryReady_now (s : State) : s.memoryReady.now = s.now := rfl
@[simp] theorem State.memoryReady_ports (s : State) : s.memoryReady.ports = s.ports := rfl
@[simp] theorem State.memoryReady_replies (s : State) : s.memoryReady.replies = s.replies := rfl
@[simp] theorem State.memoryReady_obs (s : State) : s.memoryReady.obs = s.obs := rfl
@[simp] theorem State.memoryReady_switches (s : State) : s.memoryReady.switches = s.switches := rfl
@[simp] theorem State.memoryReady_timers (s : State) : s.memoryReady.timers = s.timers := rfl
@[simp] theorem State.memoryReady_working (s : State) : s.memoryReady.working = s.working := rfl
@[simp] theorem State.memoryReady_committed (s : State) : s.memoryReady.committed = s.committed := rfl
@[simp] theorem State.memoryReady_unsaved (s : State) : s.memoryReady.unsaved = s.unsaved := rfl
@[simp] theorem State.memoryReady_table (s : State) : s.memoryReady.table = s.table := rfl
@[simp] theorem State.memoryReady_monitor (s : State) : s.memoryReady.monitor = s.monitor := rfl
@[simp] theorem State.memoryReady_control (s : State) : s.memoryReady.control = s.control := rfl
@[simp] theorem State.memoryReady_envelope (s : State) : s.memoryReady.envelope = s.envelope := rfl
@[simp] theorem State.memoryReady_deferred (s : State) : s.memoryReady.deferred = s.deferred := rfl
@[simp] theorem State.memoryReady_store (s : State) : s.memoryReady.store = s.store := rfl
@[simp] theorem State.memoryReady_memory (s : State) : s.memoryReady.memory = s.memory := rfl
@[simp] theorem State.memoryReady_owed (s : State) : s.memoryReady.owed = s.owed := rfl
@[simp] theorem State.memoryReady_pending (s : State) : s.memoryReady.pending = s.pending := rfl
@[simp] theorem State.memoryReady_memoryBusy (s : State) : s.memoryReady.memoryBusy = 0 := rfl

@[simp] theorem State.setOp_op (s : State) (o : StoreOp) : (s.setOp o).store.op = o := rfl
@[simp] theorem State.setOp_latchPending (s : State) (o : StoreOp) : (s.setOp o).store.latchPending = s.store.latchPending := rfl
@[simp] theorem State.setOp_savePending (s : State) (o : StoreOp) : (s.setOp o).store.savePending = s.store.savePending := rfl
@[simp] theorem State.setOp_reloadPending (s : State) (o : StoreOp) : (s.setOp o).store.reloadPending = s.store.reloadPending := rfl
@[simp] theorem State.setOp_busy (s : State) (o : StoreOp) : (s.setOp o).store.busy = s.store.busy := rfl
@[simp] theorem State.setOp_imageBuffer (s : State) (o : StoreOp) : (s.setOp o).store.imageBuffer = s.store.imageBuffer := rfl
@[simp] theorem State.setOp_latchBuffer (s : State) (o : StoreOp) : (s.setOp o).store.latchBuffer = s.store.latchBuffer := rfl
@[simp] theorem State.setOp_replaced (s : State) (o : StoreOp) : (s.setOp o).store.replaced = s.store.replaced := rfl

@[simp] theorem State.emptyOverrides_now (s : State) : (s.emptyOverrides).now = s.now := rfl
@[simp] theorem State.emptyOverrides_ports (s : State) : (s.emptyOverrides).ports = s.ports := rfl
@[simp] theorem State.emptyOverrides_replies (s : State) : (s.emptyOverrides).replies = s.replies := rfl
@[simp] theorem State.emptyOverrides_obs (s : State) : (s.emptyOverrides).obs = s.obs := rfl
@[simp] theorem State.emptyOverrides_switches (s : State) : (s.emptyOverrides).switches = s.switches := rfl
@[simp] theorem State.emptyOverrides_timers (s : State) : (s.emptyOverrides).timers = s.timers := rfl
@[simp] theorem State.emptyOverrides_working (s : State) : (s.emptyOverrides).working = s.working := rfl
@[simp] theorem State.emptyOverrides_committed (s : State) : (s.emptyOverrides).committed = s.committed := rfl
@[simp] theorem State.emptyOverrides_unsaved (s : State) : (s.emptyOverrides).unsaved = s.unsaved := rfl
@[simp] theorem State.emptyOverrides_table (s : State) : (s.emptyOverrides).table = s.table := rfl
@[simp] theorem State.emptyOverrides_monitor (s : State) : (s.emptyOverrides).monitor = s.monitor := rfl
@[simp] theorem State.emptyOverrides_envelope (s : State) : (s.emptyOverrides).envelope = s.envelope := rfl
@[simp] theorem State.emptyOverrides_deferred (s : State) : (s.emptyOverrides).deferred = s.deferred := rfl
@[simp] theorem State.emptyOverrides_store (s : State) : (s.emptyOverrides).store = s.store := rfl
@[simp] theorem State.emptyOverrides_memory (s : State) : (s.emptyOverrides).memory = s.memory := rfl
@[simp] theorem State.emptyOverrides_memoryBusy (s : State) : (s.emptyOverrides).memoryBusy = s.memoryBusy := rfl
@[simp] theorem State.emptyOverrides_owed (s : State) : (s.emptyOverrides).owed = s.owed := rfl
@[simp] theorem State.emptyOverrides_pending (s : State) : (s.emptyOverrides).pending = s.pending := rfl

@[simp] theorem State.abandonSweep_now (s : State) : (s.abandonSweep).now = s.now := rfl
@[simp] theorem State.abandonSweep_ports (s : State) : (s.abandonSweep).ports = s.ports := rfl
@[simp] theorem State.abandonSweep_replies (s : State) : (s.abandonSweep).replies = s.replies := rfl
@[simp] theorem State.abandonSweep_obs (s : State) : (s.abandonSweep).obs = s.obs := rfl
@[simp] theorem State.abandonSweep_switches (s : State) : (s.abandonSweep).switches = s.switches := rfl
@[simp] theorem State.abandonSweep_timers (s : State) : (s.abandonSweep).timers = s.timers := rfl
@[simp] theorem State.abandonSweep_working (s : State) : (s.abandonSweep).working = s.working := rfl
@[simp] theorem State.abandonSweep_committed (s : State) : (s.abandonSweep).committed = s.committed := rfl
@[simp] theorem State.abandonSweep_unsaved (s : State) : (s.abandonSweep).unsaved = s.unsaved := rfl
@[simp] theorem State.abandonSweep_monitor (s : State) : (s.abandonSweep).monitor = s.monitor := rfl
@[simp] theorem State.abandonSweep_control (s : State) : (s.abandonSweep).control = s.control := rfl
@[simp] theorem State.abandonSweep_envelope (s : State) : (s.abandonSweep).envelope = s.envelope := rfl
@[simp] theorem State.abandonSweep_deferred (s : State) : (s.abandonSweep).deferred = s.deferred := rfl
@[simp] theorem State.abandonSweep_store (s : State) : (s.abandonSweep).store = s.store := rfl
@[simp] theorem State.abandonSweep_memory (s : State) : (s.abandonSweep).memory = s.memory := rfl
@[simp] theorem State.abandonSweep_memoryBusy (s : State) : (s.abandonSweep).memoryBusy = s.memoryBusy := rfl
@[simp] theorem State.abandonSweep_owed (s : State) : (s.abandonSweep).owed = s.owed := rfl
@[simp] theorem State.abandonSweep_pending (s : State) : (s.abandonSweep).pending = s.pending := rfl

@[simp] theorem State.takeCommand_now (s : State) (i : Instr) : (s.takeCommand i).now = s.now := rfl
@[simp] theorem State.takeCommand_ports (s : State) (i : Instr) : (s.takeCommand i).ports = s.ports := rfl
@[simp] theorem State.takeCommand_replies (s : State) (i : Instr) : (s.takeCommand i).replies = s.replies := rfl
@[simp] theorem State.takeCommand_obs (s : State) (i : Instr) : (s.takeCommand i).obs = s.obs := rfl
@[simp] theorem State.takeCommand_switches (s : State) (i : Instr) : (s.takeCommand i).switches = s.switches := rfl
@[simp] theorem State.takeCommand_timers (s : State) (i : Instr) : (s.takeCommand i).timers = s.timers := rfl
@[simp] theorem State.takeCommand_working (s : State) (i : Instr) : (s.takeCommand i).working = s.working := rfl
@[simp] theorem State.takeCommand_committed (s : State) (i : Instr) : (s.takeCommand i).committed = s.committed := rfl
@[simp] theorem State.takeCommand_unsaved (s : State) (i : Instr) : (s.takeCommand i).unsaved = s.unsaved := rfl
@[simp] theorem State.takeCommand_table (s : State) (i : Instr) : (s.takeCommand i).table = s.table := rfl
@[simp] theorem State.takeCommand_monitor (s : State) (i : Instr) : (s.takeCommand i).monitor = s.monitor := rfl
@[simp] theorem State.takeCommand_control (s : State) (i : Instr) : (s.takeCommand i).control = s.control := rfl
@[simp] theorem State.takeCommand_envelope (s : State) (i : Instr) : (s.takeCommand i).envelope = s.envelope := rfl
@[simp] theorem State.takeCommand_deferred (s : State) (i : Instr) : (s.takeCommand i).deferred = s.deferred := rfl
@[simp] theorem State.takeCommand_store (s : State) (i : Instr) : (s.takeCommand i).store = s.store := rfl
@[simp] theorem State.takeCommand_memory (s : State) (i : Instr) : (s.takeCommand i).memory = s.memory := rfl
@[simp] theorem State.takeCommand_memoryBusy (s : State) (i : Instr) : (s.takeCommand i).memoryBusy = s.memoryBusy := rfl
@[simp] theorem State.takeCommand_pending (s : State) (i : Instr) : (s.takeCommand i).pending = s.pending := rfl

end Sys2Proof.Machine
end

