-- ==== Sys2Proof/Laws/Frames.lean ====
section
/-! SUPPORT. What each compound operation over the state leaves alone, field by field. -/

namespace Sys2Proof.Machine

open Sys2Proof

@[simp] theorem State.rampFor_now (s : State) (a b : Level) : (s.rampFor a b).now = s.now := by
  unfold State.rampFor; split
  · rfl
  · split <;> rfl
@[simp] theorem State.rampFor_ports (s : State) (a b : Level) : (s.rampFor a b).ports = s.ports := by
  unfold State.rampFor; split
  · rfl
  · split <;> rfl
@[simp] theorem State.rampFor_replies (s : State) (a b : Level) : (s.rampFor a b).replies = s.replies := by
  unfold State.rampFor; split
  · rfl
  · split <;> rfl
@[simp] theorem State.rampFor_obs (s : State) (a b : Level) : (s.rampFor a b).obs = s.obs := by
  unfold State.rampFor; split
  · rfl
  · split <;> rfl
@[simp] theorem State.rampFor_switches (s : State) (a b : Level) : (s.rampFor a b).switches = s.switches := by
  unfold State.rampFor; split
  · rfl
  · split <;> rfl
@[simp] theorem State.rampFor_working (s : State) (a b : Level) : (s.rampFor a b).working = s.working := by
  unfold State.rampFor; split
  · rfl
  · split <;> rfl
@[simp] theorem State.rampFor_committed (s : State) (a b : Level) : (s.rampFor a b).committed = s.committed := by
  unfold State.rampFor; split
  · rfl
  · split <;> rfl
@[simp] theorem State.rampFor_unsaved (s : State) (a b : Level) : (s.rampFor a b).unsaved = s.unsaved := by
  unfold State.rampFor; split
  · rfl
  · split <;> rfl
@[simp] theorem State.rampFor_table (s : State) (a b : Level) : (s.rampFor a b).table = s.table := by
  unfold State.rampFor; split
  · rfl
  · split <;> rfl
@[simp] theorem State.rampFor_monitor (s : State) (a b : Level) : (s.rampFor a b).monitor = s.monitor := by
  unfold State.rampFor; split
  · rfl
  · split <;> rfl
@[simp] theorem State.rampFor_envelope (s : State) (a b : Level) : (s.rampFor a b).envelope = s.envelope := by
  unfold State.rampFor; split
  · rfl
  · split <;> rfl
@[simp] theorem State.rampFor_deferred (s : State) (a b : Level) : (s.rampFor a b).deferred = s.deferred := by
  unfold State.rampFor; split
  · rfl
  · split <;> rfl
@[simp] theorem State.rampFor_store (s : State) (a b : Level) : (s.rampFor a b).store = s.store := by
  unfold State.rampFor; split
  · rfl
  · split <;> rfl
@[simp] theorem State.rampFor_memory (s : State) (a b : Level) : (s.rampFor a b).memory = s.memory := by
  unfold State.rampFor; split
  · rfl
  · split <;> rfl
@[simp] theorem State.rampFor_memoryBusy (s : State) (a b : Level) : (s.rampFor a b).memoryBusy = s.memoryBusy := by
  unfold State.rampFor; split
  · rfl
  · split <;> rfl
@[simp] theorem State.rampFor_pending (s : State) (a b : Level) : (s.rampFor a b).pending = s.pending := by
  unfold State.rampFor; split
  · rfl
  · split <;> rfl

@[simp] theorem State.apply_now (s : State) (a : Drive) : (s.apply a).now = s.now := by
  simp [State.apply]
@[simp] theorem State.apply_ports (s : State) (a : Drive) : (s.apply a).ports = s.ports := by
  simp [State.apply]
@[simp] theorem State.apply_replies (s : State) (a : Drive) : (s.apply a).replies = s.replies := by
  simp [State.apply]
@[simp] theorem State.apply_obs (s : State) (a : Drive) : (s.apply a).obs = s.obs := by
  simp [State.apply]
@[simp] theorem State.apply_switches (s : State) (a : Drive) : (s.apply a).switches = s.switches := by
  simp [State.apply]
@[simp] theorem State.apply_working (s : State) (a : Drive) : (s.apply a).working = s.working := by
  simp [State.apply]
@[simp] theorem State.apply_committed (s : State) (a : Drive) : (s.apply a).committed = s.committed := by
  simp [State.apply]
@[simp] theorem State.apply_unsaved (s : State) (a : Drive) : (s.apply a).unsaved = s.unsaved := by
  simp [State.apply]
@[simp] theorem State.apply_table (s : State) (a : Drive) : (s.apply a).table = s.table := by
  simp [State.apply]
@[simp] theorem State.apply_monitor (s : State) (a : Drive) : (s.apply a).monitor = s.monitor := by
  simp [State.apply]
@[simp] theorem State.apply_envelope (s : State) (a : Drive) : (s.apply a).envelope = s.envelope := by
  simp [State.apply]
@[simp] theorem State.apply_deferred (s : State) (a : Drive) : (s.apply a).deferred = s.deferred := by
  simp [State.apply]
@[simp] theorem State.apply_store (s : State) (a : Drive) : (s.apply a).store = s.store := by
  simp [State.apply]
@[simp] theorem State.apply_memory (s : State) (a : Drive) : (s.apply a).memory = s.memory := by
  simp [State.apply]
@[simp] theorem State.apply_memoryBusy (s : State) (a : Drive) : (s.apply a).memoryBusy = s.memoryBusy := by
  simp [State.apply]
@[simp] theorem State.apply_pending (s : State) (a : Drive) : (s.apply a).pending = s.pending := by
  simp [State.apply]

@[simp] theorem State.recomputeCore_now (s : State) : (s.recomputeCore).now = s.now := by
  simp [State.recomputeCore]
@[simp] theorem State.recomputeCore_ports (s : State) : (s.recomputeCore).ports = s.ports := by
  simp [State.recomputeCore]
@[simp] theorem State.recomputeCore_replies (s : State) : (s.recomputeCore).replies = s.replies := by
  simp [State.recomputeCore]
@[simp] theorem State.recomputeCore_obs (s : State) : (s.recomputeCore).obs = s.obs := by
  simp [State.recomputeCore]
@[simp] theorem State.recomputeCore_switches (s : State) : (s.recomputeCore).switches = s.switches := by
  simp [State.recomputeCore]
@[simp] theorem State.recomputeCore_working (s : State) : (s.recomputeCore).working = s.working := by
  simp [State.recomputeCore]
@[simp] theorem State.recomputeCore_committed (s : State) : (s.recomputeCore).committed = s.committed := by
  simp [State.recomputeCore]
@[simp] theorem State.recomputeCore_unsaved (s : State) : (s.recomputeCore).unsaved = s.unsaved := by
  simp [State.recomputeCore]
@[simp] theorem State.recomputeCore_table (s : State) : (s.recomputeCore).table = s.table := by
  simp [State.recomputeCore]
@[simp] theorem State.recomputeCore_monitor (s : State) : (s.recomputeCore).monitor = s.monitor := by
  simp [State.recomputeCore]
@[simp] theorem State.recomputeCore_envelope (s : State) : (s.recomputeCore).envelope = s.envelope := by
  simp [State.recomputeCore]
@[simp] theorem State.recomputeCore_deferred (s : State) : (s.recomputeCore).deferred = s.deferred := by
  simp [State.recomputeCore]
@[simp] theorem State.recomputeCore_store (s : State) : (s.recomputeCore).store = s.store := by
  simp [State.recomputeCore]
@[simp] theorem State.recomputeCore_memory (s : State) : (s.recomputeCore).memory = s.memory := by
  simp [State.recomputeCore]
@[simp] theorem State.recomputeCore_memoryBusy (s : State) : (s.recomputeCore).memoryBusy = s.memoryBusy := by
  simp [State.recomputeCore]
@[simp] theorem State.recomputeCore_pending (s : State) : (s.recomputeCore).pending = s.pending := by
  simp [State.recomputeCore]

@[simp] theorem State.testDrive_now (s : State) : (s.testDrive).now = s.now := by
  unfold State.testDrive; split <;> simp
@[simp] theorem State.testDrive_ports (s : State) : (s.testDrive).ports = s.ports := by
  unfold State.testDrive; split <;> simp
@[simp] theorem State.testDrive_replies (s : State) : (s.testDrive).replies = s.replies := by
  unfold State.testDrive; split <;> simp
@[simp] theorem State.testDrive_obs (s : State) : (s.testDrive).obs = s.obs := by
  unfold State.testDrive; split <;> simp
@[simp] theorem State.testDrive_switches (s : State) : (s.testDrive).switches = s.switches := by
  unfold State.testDrive; split <;> simp
@[simp] theorem State.testDrive_working (s : State) : (s.testDrive).working = s.working := by
  unfold State.testDrive; split <;> simp
@[simp] theorem State.testDrive_committed (s : State) : (s.testDrive).committed = s.committed := by
  unfold State.testDrive; split <;> simp
@[simp] theorem State.testDrive_unsaved (s : State) : (s.testDrive).unsaved = s.unsaved := by
  unfold State.testDrive; split <;> simp
@[simp] theorem State.testDrive_table (s : State) : (s.testDrive).table = s.table := by
  unfold State.testDrive; split <;> simp
@[simp] theorem State.testDrive_monitor (s : State) : (s.testDrive).monitor = s.monitor := by
  unfold State.testDrive; split <;> simp
@[simp] theorem State.testDrive_envelope (s : State) : (s.testDrive).envelope = s.envelope := by
  unfold State.testDrive; split <;> simp
@[simp] theorem State.testDrive_deferred (s : State) : (s.testDrive).deferred = s.deferred := by
  unfold State.testDrive; split <;> simp
@[simp] theorem State.testDrive_store (s : State) : (s.testDrive).store = s.store := by
  unfold State.testDrive; split <;> simp
@[simp] theorem State.testDrive_memory (s : State) : (s.testDrive).memory = s.memory := by
  unfold State.testDrive; split <;> simp
@[simp] theorem State.testDrive_memoryBusy (s : State) : (s.testDrive).memoryBusy = s.memoryBusy := by
  unfold State.testDrive; split <;> simp
@[simp] theorem State.testDrive_pending (s : State) : (s.testDrive).pending = s.pending := by
  unfold State.testDrive; split <;> simp

@[simp] theorem State.recompute_now (s : State) : (s.recompute).now = s.now := by
  simp [State.recompute]
@[simp] theorem State.recompute_ports (s : State) : (s.recompute).ports = s.ports := by
  simp [State.recompute]
@[simp] theorem State.recompute_replies (s : State) : (s.recompute).replies = s.replies := by
  simp [State.recompute]
@[simp] theorem State.recompute_obs (s : State) : (s.recompute).obs = s.obs := by
  simp [State.recompute]
@[simp] theorem State.recompute_switches (s : State) : (s.recompute).switches = s.switches := by
  simp [State.recompute]
@[simp] theorem State.recompute_working (s : State) : (s.recompute).working = s.working := by
  simp [State.recompute]
@[simp] theorem State.recompute_committed (s : State) : (s.recompute).committed = s.committed := by
  simp [State.recompute]
@[simp] theorem State.recompute_unsaved (s : State) : (s.recompute).unsaved = s.unsaved := by
  simp [State.recompute]
@[simp] theorem State.recompute_table (s : State) : (s.recompute).table = s.table := by
  simp [State.recompute]
@[simp] theorem State.recompute_monitor (s : State) : (s.recompute).monitor = s.monitor := by
  simp [State.recompute]
@[simp] theorem State.recompute_envelope (s : State) : (s.recompute).envelope = s.envelope := by
  simp [State.recompute]
@[simp] theorem State.recompute_deferred (s : State) : (s.recompute).deferred = s.deferred := by
  simp [State.recompute]
@[simp] theorem State.recompute_store (s : State) : (s.recompute).store = s.store := by
  simp [State.recompute]
@[simp] theorem State.recompute_memory (s : State) : (s.recompute).memory = s.memory := by
  simp [State.recompute]
@[simp] theorem State.recompute_memoryBusy (s : State) : (s.recompute).memoryBusy = s.memoryBusy := by
  simp [State.recompute]
@[simp] theorem State.recompute_pending (s : State) : (s.recompute).pending = s.pending := by
  simp [State.recompute]

@[simp] theorem State.enterStandby_now (s : State) : (s.enterStandby).now = s.now := by
  simp [State.enterStandby]
@[simp] theorem State.enterStandby_ports (s : State) : (s.enterStandby).ports = s.ports := by
  simp [State.enterStandby]
@[simp] theorem State.enterStandby_replies (s : State) : (s.enterStandby).replies = s.replies := by
  simp [State.enterStandby]
@[simp] theorem State.enterStandby_obs (s : State) : (s.enterStandby).obs = s.obs := by
  simp [State.enterStandby]
@[simp] theorem State.enterStandby_switches (s : State) : (s.enterStandby).switches = s.switches := by
  simp [State.enterStandby]
@[simp] theorem State.enterStandby_working (s : State) : (s.enterStandby).working = s.working := by
  simp [State.enterStandby]
@[simp] theorem State.enterStandby_committed (s : State) : (s.enterStandby).committed = s.committed := by
  simp [State.enterStandby]
@[simp] theorem State.enterStandby_unsaved (s : State) : (s.enterStandby).unsaved = s.unsaved := by
  simp [State.enterStandby]
@[simp] theorem State.enterStandby_table (s : State) : (s.enterStandby).table = s.table := by
  simp [State.enterStandby]
@[simp] theorem State.enterStandby_monitor (s : State) : (s.enterStandby).monitor = s.monitor := by
  simp [State.enterStandby]
@[simp] theorem State.enterStandby_envelope (s : State) : (s.enterStandby).envelope = s.envelope := by
  simp [State.enterStandby]
@[simp] theorem State.enterStandby_deferred (s : State) : (s.enterStandby).deferred = s.deferred := by
  simp [State.enterStandby]
@[simp] theorem State.enterStandby_store (s : State) : (s.enterStandby).store = s.store := by
  simp [State.enterStandby]
@[simp] theorem State.enterStandby_memory (s : State) : (s.enterStandby).memory = s.memory := by
  simp [State.enterStandby]
@[simp] theorem State.enterStandby_memoryBusy (s : State) : (s.enterStandby).memoryBusy = s.memoryBusy := by
  simp [State.enterStandby]
@[simp] theorem State.enterStandby_pending (s : State) : (s.enterStandby).pending = s.pending := by
  simp [State.enterStandby]

@[simp] theorem State.stopGatherIfStandby_now (s : State) : (s.stopGatherIfStandby).now = s.now := by
  unfold State.stopGatherIfStandby; split <;> simp
@[simp] theorem State.stopGatherIfStandby_ports (s : State) : (s.stopGatherIfStandby).ports = s.ports := by
  unfold State.stopGatherIfStandby; split <;> simp
@[simp] theorem State.stopGatherIfStandby_replies (s : State) : (s.stopGatherIfStandby).replies = s.replies := by
  unfold State.stopGatherIfStandby; split <;> simp
@[simp] theorem State.stopGatherIfStandby_obs (s : State) : (s.stopGatherIfStandby).obs = s.obs := by
  unfold State.stopGatherIfStandby; split <;> simp
@[simp] theorem State.stopGatherIfStandby_switches (s : State) : (s.stopGatherIfStandby).switches = s.switches := by
  unfold State.stopGatherIfStandby; split <;> simp
@[simp] theorem State.stopGatherIfStandby_working (s : State) : (s.stopGatherIfStandby).working = s.working := by
  unfold State.stopGatherIfStandby; split <;> simp
@[simp] theorem State.stopGatherIfStandby_committed (s : State) : (s.stopGatherIfStandby).committed = s.committed := by
  unfold State.stopGatherIfStandby; split <;> simp
@[simp] theorem State.stopGatherIfStandby_unsaved (s : State) : (s.stopGatherIfStandby).unsaved = s.unsaved := by
  unfold State.stopGatherIfStandby; split <;> simp
@[simp] theorem State.stopGatherIfStandby_table (s : State) : (s.stopGatherIfStandby).table = s.table := by
  unfold State.stopGatherIfStandby; split <;> simp
@[simp] theorem State.stopGatherIfStandby_monitor (s : State) : (s.stopGatherIfStandby).monitor = s.monitor := by
  unfold State.stopGatherIfStandby; split <;> simp
@[simp] theorem State.stopGatherIfStandby_control (s : State) : (s.stopGatherIfStandby).control = s.control := by
  unfold State.stopGatherIfStandby; split <;> simp
@[simp] theorem State.stopGatherIfStandby_envelope (s : State) : (s.stopGatherIfStandby).envelope = s.envelope := by
  unfold State.stopGatherIfStandby; split <;> simp
@[simp] theorem State.stopGatherIfStandby_deferred (s : State) : (s.stopGatherIfStandby).deferred = s.deferred := by
  unfold State.stopGatherIfStandby; split <;> simp
@[simp] theorem State.stopGatherIfStandby_store (s : State) : (s.stopGatherIfStandby).store = s.store := by
  unfold State.stopGatherIfStandby; split <;> simp
@[simp] theorem State.stopGatherIfStandby_memory (s : State) : (s.stopGatherIfStandby).memory = s.memory := by
  unfold State.stopGatherIfStandby; split <;> simp
@[simp] theorem State.stopGatherIfStandby_memoryBusy (s : State) : (s.stopGatherIfStandby).memoryBusy = s.memoryBusy := by
  unfold State.stopGatherIfStandby; split <;> simp
@[simp] theorem State.stopGatherIfStandby_pending (s : State) : (s.stopGatherIfStandby).pending = s.pending := by
  unfold State.stopGatherIfStandby; split <;> simp

@[simp] theorem State.changeCopy_now (s : State) (c : Copy) : (s.changeCopy c).now = s.now := by
  simp [State.changeCopy]
@[simp] theorem State.changeCopy_ports (s : State) (c : Copy) : (s.changeCopy c).ports = s.ports := by
  simp [State.changeCopy]
@[simp] theorem State.changeCopy_replies (s : State) (c : Copy) : (s.changeCopy c).replies = s.replies := by
  simp [State.changeCopy]
@[simp] theorem State.changeCopy_obs (s : State) (c : Copy) : (s.changeCopy c).obs = s.obs := by
  simp [State.changeCopy]
@[simp] theorem State.changeCopy_switches (s : State) (c : Copy) : (s.changeCopy c).switches = s.switches := by
  simp [State.changeCopy]
@[simp] theorem State.changeCopy_committed (s : State) (c : Copy) : (s.changeCopy c).committed = s.committed := by
  simp [State.changeCopy]
@[simp] theorem State.changeCopy_unsaved (s : State) (c : Copy) : (s.changeCopy c).unsaved = s.unsaved := by
  simp [State.changeCopy]
@[simp] theorem State.changeCopy_monitor (s : State) (c : Copy) : (s.changeCopy c).monitor = s.monitor := by
  simp [State.changeCopy]
@[simp] theorem State.changeCopy_envelope (s : State) (c : Copy) : (s.changeCopy c).envelope = s.envelope := by
  simp [State.changeCopy]
@[simp] theorem State.changeCopy_deferred (s : State) (c : Copy) : (s.changeCopy c).deferred = s.deferred := by
  simp [State.changeCopy]
@[simp] theorem State.changeCopy_store (s : State) (c : Copy) : (s.changeCopy c).store = s.store := by
  simp [State.changeCopy]
@[simp] theorem State.changeCopy_memory (s : State) (c : Copy) : (s.changeCopy c).memory = s.memory := by
  simp [State.changeCopy]
@[simp] theorem State.changeCopy_memoryBusy (s : State) (c : Copy) : (s.changeCopy c).memoryBusy = s.memoryBusy := by
  simp [State.changeCopy]
@[simp] theorem State.changeCopy_pending (s : State) (c : Copy) : (s.changeCopy c).pending = s.pending := by
  simp [State.changeCopy]

@[simp] theorem State.cockpitNotice_now (s : State) : (s.cockpitNotice).now = s.now := by
  unfold State.cockpitNotice; split <;> simp
@[simp] theorem State.cockpitNotice_ports (s : State) : (s.cockpitNotice).ports = s.ports := by
  unfold State.cockpitNotice; split <;> simp
@[simp] theorem State.cockpitNotice_replies (s : State) : (s.cockpitNotice).replies = s.replies := by
  unfold State.cockpitNotice; split <;> simp
@[simp] theorem State.cockpitNotice_obs (s : State) : (s.cockpitNotice).obs = s.obs := by
  unfold State.cockpitNotice; split <;> simp
@[simp] theorem State.cockpitNotice_switches (s : State) : (s.cockpitNotice).switches = s.switches := by
  unfold State.cockpitNotice; split <;> simp
@[simp] theorem State.cockpitNotice_working (s : State) : (s.cockpitNotice).working = s.working := by
  unfold State.cockpitNotice; split <;> simp
@[simp] theorem State.cockpitNotice_committed (s : State) : (s.cockpitNotice).committed = s.committed := by
  unfold State.cockpitNotice; split <;> simp
@[simp] theorem State.cockpitNotice_unsaved (s : State) : (s.cockpitNotice).unsaved = s.unsaved := by
  unfold State.cockpitNotice; split <;> simp
@[simp] theorem State.cockpitNotice_table (s : State) : (s.cockpitNotice).table = s.table := by
  unfold State.cockpitNotice; split <;> simp
@[simp] theorem State.cockpitNotice_monitor (s : State) : (s.cockpitNotice).monitor = s.monitor := by
  unfold State.cockpitNotice; split <;> simp
@[simp] theorem State.cockpitNotice_envelope (s : State) : (s.cockpitNotice).envelope = s.envelope := by
  unfold State.cockpitNotice; split <;> simp
@[simp] theorem State.cockpitNotice_deferred (s : State) : (s.cockpitNotice).deferred = s.deferred := by
  unfold State.cockpitNotice; split <;> simp
@[simp] theorem State.cockpitNotice_store (s : State) : (s.cockpitNotice).store = s.store := by
  unfold State.cockpitNotice; split <;> simp
@[simp] theorem State.cockpitNotice_memory (s : State) : (s.cockpitNotice).memory = s.memory := by
  unfold State.cockpitNotice; split <;> simp
@[simp] theorem State.cockpitNotice_memoryBusy (s : State) : (s.cockpitNotice).memoryBusy = s.memoryBusy := by
  unfold State.cockpitNotice; split <;> simp
@[simp] theorem State.cockpitNotice_pending (s : State) : (s.cockpitNotice).pending = s.pending := by
  unfold State.cockpitNotice; split <;> simp

@[simp] theorem State.motorNotice_now (s : State) : (s.motorNotice).now = s.now := by
  unfold State.motorNotice; split <;> simp
@[simp] theorem State.motorNotice_ports (s : State) : (s.motorNotice).ports = s.ports := by
  unfold State.motorNotice; split <;> simp
@[simp] theorem State.motorNotice_replies (s : State) : (s.motorNotice).replies = s.replies := by
  unfold State.motorNotice; split <;> simp
@[simp] theorem State.motorNotice_obs (s : State) : (s.motorNotice).obs = s.obs := by
  unfold State.motorNotice; split <;> simp
@[simp] theorem State.motorNotice_switches (s : State) : (s.motorNotice).switches = s.switches := by
  unfold State.motorNotice; split <;> simp
@[simp] theorem State.motorNotice_working (s : State) : (s.motorNotice).working = s.working := by
  unfold State.motorNotice; split <;> simp
@[simp] theorem State.motorNotice_committed (s : State) : (s.motorNotice).committed = s.committed := by
  unfold State.motorNotice; split <;> simp
@[simp] theorem State.motorNotice_unsaved (s : State) : (s.motorNotice).unsaved = s.unsaved := by
  unfold State.motorNotice; split <;> simp
@[simp] theorem State.motorNotice_table (s : State) : (s.motorNotice).table = s.table := by
  unfold State.motorNotice; split <;> simp
@[simp] theorem State.motorNotice_monitor (s : State) : (s.motorNotice).monitor = s.monitor := by
  unfold State.motorNotice; split <;> simp
@[simp] theorem State.motorNotice_envelope (s : State) : (s.motorNotice).envelope = s.envelope := by
  unfold State.motorNotice; split <;> simp
@[simp] theorem State.motorNotice_deferred (s : State) : (s.motorNotice).deferred = s.deferred := by
  unfold State.motorNotice; split <;> simp
@[simp] theorem State.motorNotice_store (s : State) : (s.motorNotice).store = s.store := by
  unfold State.motorNotice; split <;> simp
@[simp] theorem State.motorNotice_memory (s : State) : (s.motorNotice).memory = s.memory := by
  unfold State.motorNotice; split <;> simp
@[simp] theorem State.motorNotice_memoryBusy (s : State) : (s.motorNotice).memoryBusy = s.memoryBusy := by
  unfold State.motorNotice; split <;> simp
@[simp] theorem State.motorNotice_pending (s : State) : (s.motorNotice).pending = s.pending := by
  unfold State.motorNotice; split <;> simp

@[simp] theorem State.noticeOf_now (s : State) (u : Reporter) : (s.noticeOf u).now = s.now := by
  cases u <;> simp [State.noticeOf]
@[simp] theorem State.noticeOf_ports (s : State) (u : Reporter) : (s.noticeOf u).ports = s.ports := by
  cases u <;> simp [State.noticeOf]
@[simp] theorem State.noticeOf_replies (s : State) (u : Reporter) : (s.noticeOf u).replies = s.replies := by
  cases u <;> simp [State.noticeOf]
@[simp] theorem State.noticeOf_obs (s : State) (u : Reporter) : (s.noticeOf u).obs = s.obs := by
  cases u <;> simp [State.noticeOf]
@[simp] theorem State.noticeOf_switches (s : State) (u : Reporter) : (s.noticeOf u).switches = s.switches := by
  cases u <;> simp [State.noticeOf]
@[simp] theorem State.noticeOf_working (s : State) (u : Reporter) : (s.noticeOf u).working = s.working := by
  cases u <;> simp [State.noticeOf]
@[simp] theorem State.noticeOf_committed (s : State) (u : Reporter) : (s.noticeOf u).committed = s.committed := by
  cases u <;> simp [State.noticeOf]
@[simp] theorem State.noticeOf_unsaved (s : State) (u : Reporter) : (s.noticeOf u).unsaved = s.unsaved := by
  cases u <;> simp [State.noticeOf]
@[simp] theorem State.noticeOf_table (s : State) (u : Reporter) : (s.noticeOf u).table = s.table := by
  cases u <;> simp [State.noticeOf]
@[simp] theorem State.noticeOf_monitor (s : State) (u : Reporter) : (s.noticeOf u).monitor = s.monitor := by
  cases u <;> simp [State.noticeOf]
@[simp] theorem State.noticeOf_envelope (s : State) (u : Reporter) : (s.noticeOf u).envelope = s.envelope := by
  cases u <;> simp [State.noticeOf]
@[simp] theorem State.noticeOf_deferred (s : State) (u : Reporter) : (s.noticeOf u).deferred = s.deferred := by
  cases u <;> simp [State.noticeOf]
@[simp] theorem State.noticeOf_store (s : State) (u : Reporter) : (s.noticeOf u).store = s.store := by
  cases u <;> simp [State.noticeOf]
@[simp] theorem State.noticeOf_memory (s : State) (u : Reporter) : (s.noticeOf u).memory = s.memory := by
  cases u <;> simp [State.noticeOf]
@[simp] theorem State.noticeOf_memoryBusy (s : State) (u : Reporter) : (s.noticeOf u).memoryBusy = s.memoryBusy := by
  cases u <;> simp [State.noticeOf]
@[simp] theorem State.noticeOf_pending (s : State) (u : Reporter) : (s.noticeOf u).pending = s.pending := by
  cases u <;> simp [State.noticeOf]

@[simp] theorem State.keyCycle_now (s : State) : (s.keyCycle).now = s.now := by
  simp [State.keyCycle]
@[simp] theorem State.keyCycle_ports (s : State) : (s.keyCycle).ports = s.ports := by
  simp [State.keyCycle]
@[simp] theorem State.keyCycle_replies (s : State) : (s.keyCycle).replies = s.replies := by
  simp [State.keyCycle]
@[simp] theorem State.keyCycle_obs (s : State) : (s.keyCycle).obs = s.obs := by
  simp [State.keyCycle]
@[simp] theorem State.keyCycle_switches (s : State) : (s.keyCycle).switches = s.switches := by
  simp [State.keyCycle]
@[simp] theorem State.keyCycle_working (s : State) : (s.keyCycle).working = s.working := by
  simp [State.keyCycle]
@[simp] theorem State.keyCycle_committed (s : State) : (s.keyCycle).committed = s.committed := by
  simp [State.keyCycle]
@[simp] theorem State.keyCycle_unsaved (s : State) : (s.keyCycle).unsaved = s.unsaved := by
  simp [State.keyCycle]
@[simp] theorem State.keyCycle_monitor (s : State) : (s.keyCycle).monitor = s.monitor := by
  simp [State.keyCycle]
@[simp] theorem State.keyCycle_envelope (s : State) : (s.keyCycle).envelope = s.envelope := by
  simp [State.keyCycle]
@[simp] theorem State.keyCycle_deferred (s : State) : (s.keyCycle).deferred = s.deferred := by
  simp [State.keyCycle]
@[simp] theorem State.keyCycle_store (s : State) : (s.keyCycle).store = s.store := by
  simp [State.keyCycle]
@[simp] theorem State.keyCycle_memory (s : State) : (s.keyCycle).memory = s.memory := by
  simp [State.keyCycle]
@[simp] theorem State.keyCycle_memoryBusy (s : State) : (s.keyCycle).memoryBusy = s.memoryBusy := by
  simp [State.keyCycle]
@[simp] theorem State.keyCycle_pending (s : State) : (s.keyCycle).pending = s.pending := by
  simp [State.keyCycle]

@[simp] theorem State.acceptWake_now (s : State) (b : Bool) : (s.acceptWake b).now = s.now := by
  unfold State.acceptWake; split <;> rfl
@[simp] theorem State.acceptWake_ports (s : State) (b : Bool) : (s.acceptWake b).ports = s.ports := by
  unfold State.acceptWake; split <;> rfl
@[simp] theorem State.acceptWake_replies (s : State) (b : Bool) : (s.acceptWake b).replies = s.replies := by
  unfold State.acceptWake; split <;> rfl
@[simp] theorem State.acceptWake_obs (s : State) (b : Bool) : (s.acceptWake b).obs = s.obs := by
  unfold State.acceptWake; split <;> rfl
@[simp] theorem State.acceptWake_timers (s : State) (b : Bool) : (s.acceptWake b).timers = s.timers := by
  unfold State.acceptWake; split <;> rfl
@[simp] theorem State.acceptWake_working (s : State) (b : Bool) : (s.acceptWake b).working = s.working := by
  unfold State.acceptWake; split <;> rfl
@[simp] theorem State.acceptWake_committed (s : State) (b : Bool) : (s.acceptWake b).committed = s.committed := by
  unfold State.acceptWake; split <;> rfl
@[simp] theorem State.acceptWake_unsaved (s : State) (b : Bool) : (s.acceptWake b).unsaved = s.unsaved := by
  unfold State.acceptWake; split <;> rfl
@[simp] theorem State.acceptWake_table (s : State) (b : Bool) : (s.acceptWake b).table = s.table := by
  unfold State.acceptWake; split <;> rfl
@[simp] theorem State.acceptWake_monitor (s : State) (b : Bool) : (s.acceptWake b).monitor = s.monitor := by
  unfold State.acceptWake; split <;> rfl
@[simp] theorem State.acceptWake_envelope (s : State) (b : Bool) : (s.acceptWake b).envelope = s.envelope := by
  unfold State.acceptWake; split <;> rfl
@[simp] theorem State.acceptWake_deferred (s : State) (b : Bool) : (s.acceptWake b).deferred = s.deferred := by
  unfold State.acceptWake; split <;> rfl
@[simp] theorem State.acceptWake_store (s : State) (b : Bool) : (s.acceptWake b).store = s.store := by
  unfold State.acceptWake; split <;> rfl
@[simp] theorem State.acceptWake_memory (s : State) (b : Bool) : (s.acceptWake b).memory = s.memory := by
  unfold State.acceptWake; split <;> rfl
@[simp] theorem State.acceptWake_memoryBusy (s : State) (b : Bool) : (s.acceptWake b).memoryBusy = s.memoryBusy := by
  unfold State.acceptWake; split <;> rfl
@[simp] theorem State.acceptWake_pending (s : State) (b : Bool) : (s.acceptWake b).pending = s.pending := by
  unfold State.acceptWake; split <;> rfl

@[simp] theorem State.revertIfInvalid_now (s : State) (f : Option Failure) : (s.revertIfInvalid f).now = s.now := by
  cases f <;> simp [State.revertIfInvalid]
@[simp] theorem State.revertIfInvalid_ports (s : State) (f : Option Failure) : (s.revertIfInvalid f).ports = s.ports := by
  cases f <;> simp [State.revertIfInvalid]
@[simp] theorem State.revertIfInvalid_replies (s : State) (f : Option Failure) : (s.revertIfInvalid f).replies = s.replies := by
  cases f <;> simp [State.revertIfInvalid]
@[simp] theorem State.revertIfInvalid_obs (s : State) (f : Option Failure) : (s.revertIfInvalid f).obs = s.obs := by
  cases f <;> simp [State.revertIfInvalid]
@[simp] theorem State.revertIfInvalid_switches (s : State) (f : Option Failure) : (s.revertIfInvalid f).switches = s.switches := by
  cases f <;> simp [State.revertIfInvalid]
@[simp] theorem State.revertIfInvalid_committed (s : State) (f : Option Failure) : (s.revertIfInvalid f).committed = s.committed := by
  cases f <;> simp [State.revertIfInvalid]
@[simp] theorem State.revertIfInvalid_monitor (s : State) (f : Option Failure) : (s.revertIfInvalid f).monitor = s.monitor := by
  cases f <;> simp [State.revertIfInvalid]
@[simp] theorem State.revertIfInvalid_envelope (s : State) (f : Option Failure) : (s.revertIfInvalid f).envelope = s.envelope := by
  cases f <;> simp [State.revertIfInvalid]
@[simp] theorem State.revertIfInvalid_deferred (s : State) (f : Option Failure) : (s.revertIfInvalid f).deferred = s.deferred := by
  cases f <;> simp [State.revertIfInvalid]
@[simp] theorem State.revertIfInvalid_memory (s : State) (f : Option Failure) : (s.revertIfInvalid f).memory = s.memory := by
  cases f <;> simp [State.revertIfInvalid]
@[simp] theorem State.revertIfInvalid_memoryBusy (s : State) (f : Option Failure) : (s.revertIfInvalid f).memoryBusy = s.memoryBusy := by
  cases f <;> simp [State.revertIfInvalid]
@[simp] theorem State.revertIfInvalid_pending (s : State) (f : Option Failure) : (s.revertIfInvalid f).pending = s.pending := by
  cases f <;> simp [State.revertIfInvalid]

@[simp] theorem State.forcedLeave_now (s : State) (f : Option Failure) : (s.forcedLeave f).now = s.now := by
  simp [State.forcedLeave]
@[simp] theorem State.forcedLeave_ports (s : State) (f : Option Failure) : (s.forcedLeave f).ports = s.ports := by
  simp [State.forcedLeave]
@[simp] theorem State.forcedLeave_replies (s : State) (f : Option Failure) : (s.forcedLeave f).replies = s.replies := by
  simp [State.forcedLeave]
@[simp] theorem State.forcedLeave_obs (s : State) (f : Option Failure) : (s.forcedLeave f).obs = s.obs := by
  simp [State.forcedLeave]
@[simp] theorem State.forcedLeave_switches (s : State) (f : Option Failure) : (s.forcedLeave f).switches = s.switches := by
  simp [State.forcedLeave]
@[simp] theorem State.forcedLeave_committed (s : State) (f : Option Failure) : (s.forcedLeave f).committed = s.committed := by
  simp [State.forcedLeave]
@[simp] theorem State.forcedLeave_monitor (s : State) (f : Option Failure) : (s.forcedLeave f).monitor = s.monitor := by
  simp [State.forcedLeave]
@[simp] theorem State.forcedLeave_envelope (s : State) (f : Option Failure) : (s.forcedLeave f).envelope = s.envelope := by
  simp [State.forcedLeave]
@[simp] theorem State.forcedLeave_deferred (s : State) (f : Option Failure) : (s.forcedLeave f).deferred = s.deferred := by
  simp [State.forcedLeave]
@[simp] theorem State.forcedLeave_memory (s : State) (f : Option Failure) : (s.forcedLeave f).memory = s.memory := by
  simp [State.forcedLeave]
@[simp] theorem State.forcedLeave_memoryBusy (s : State) (f : Option Failure) : (s.forcedLeave f).memoryBusy = s.memoryBusy := by
  simp [State.forcedLeave]
@[simp] theorem State.forcedLeave_pending (s : State) (f : Option Failure) : (s.forcedLeave f).pending = s.pending := by
  simp [State.forcedLeave]

@[simp] theorem State.haltRampEnds_now (s : State) : (s.haltRampEnds).now = s.now := by
  unfold State.haltRampEnds; split <;> rfl
@[simp] theorem State.haltRampEnds_ports (s : State) : (s.haltRampEnds).ports = s.ports := by
  unfold State.haltRampEnds; split <;> rfl
@[simp] theorem State.haltRampEnds_replies (s : State) : (s.haltRampEnds).replies = s.replies := by
  unfold State.haltRampEnds; split <;> rfl
@[simp] theorem State.haltRampEnds_obs (s : State) : (s.haltRampEnds).obs = s.obs := by
  unfold State.haltRampEnds; split <;> rfl
@[simp] theorem State.haltRampEnds_switches (s : State) : (s.haltRampEnds).switches = s.switches := by
  unfold State.haltRampEnds; split <;> rfl
@[simp] theorem State.haltRampEnds_timers (s : State) : (s.haltRampEnds).timers = s.timers := by
  unfold State.haltRampEnds; split <;> rfl
@[simp] theorem State.haltRampEnds_working (s : State) : (s.haltRampEnds).working = s.working := by
  unfold State.haltRampEnds; split <;> rfl
@[simp] theorem State.haltRampEnds_committed (s : State) : (s.haltRampEnds).committed = s.committed := by
  unfold State.haltRampEnds; split <;> rfl
@[simp] theorem State.haltRampEnds_unsaved (s : State) : (s.haltRampEnds).unsaved = s.unsaved := by
  unfold State.haltRampEnds; split <;> rfl
@[simp] theorem State.haltRampEnds_table (s : State) : (s.haltRampEnds).table = s.table := by
  unfold State.haltRampEnds; split <;> rfl
@[simp] theorem State.haltRampEnds_monitor (s : State) : (s.haltRampEnds).monitor = s.monitor := by
  unfold State.haltRampEnds; split <;> rfl
@[simp] theorem State.haltRampEnds_envelope (s : State) : (s.haltRampEnds).envelope = s.envelope := by
  unfold State.haltRampEnds; split <;> rfl
@[simp] theorem State.haltRampEnds_deferred (s : State) : (s.haltRampEnds).deferred = s.deferred := by
  unfold State.haltRampEnds; split <;> rfl
@[simp] theorem State.haltRampEnds_store (s : State) : (s.haltRampEnds).store = s.store := by
  unfold State.haltRampEnds; split <;> rfl
@[simp] theorem State.haltRampEnds_memory (s : State) : (s.haltRampEnds).memory = s.memory := by
  unfold State.haltRampEnds; split <;> rfl
@[simp] theorem State.haltRampEnds_memoryBusy (s : State) : (s.haltRampEnds).memoryBusy = s.memoryBusy := by
  unfold State.haltRampEnds; split <;> rfl
@[simp] theorem State.haltRampEnds_owed (s : State) : (s.haltRampEnds).owed = s.owed := by
  unfold State.haltRampEnds; split <;> rfl
@[simp] theorem State.haltRampEnds_pending (s : State) : (s.haltRampEnds).pending = s.pending := by
  unfold State.haltRampEnds; split <;> rfl

@[simp] theorem State.gatherFinished_now (s : State) : (s.gatherFinished).now = s.now := by
  simp [State.gatherFinished]
@[simp] theorem State.gatherFinished_ports (s : State) : (s.gatherFinished).ports = s.ports := by
  simp [State.gatherFinished]
@[simp] theorem State.gatherFinished_replies (s : State) : (s.gatherFinished).replies = s.replies := by
  simp [State.gatherFinished]
@[simp] theorem State.gatherFinished_obs (s : State) : (s.gatherFinished).obs = s.obs := by
  simp [State.gatherFinished]
@[simp] theorem State.gatherFinished_switches (s : State) : (s.gatherFinished).switches = s.switches := by
  simp [State.gatherFinished]
@[simp] theorem State.gatherFinished_working (s : State) : (s.gatherFinished).working = s.working := by
  simp [State.gatherFinished]
@[simp] theorem State.gatherFinished_committed (s : State) : (s.gatherFinished).committed = s.committed := by
  simp [State.gatherFinished]
@[simp] theorem State.gatherFinished_unsaved (s : State) : (s.gatherFinished).unsaved = s.unsaved := by
  simp [State.gatherFinished]
@[simp] theorem State.gatherFinished_table (s : State) : (s.gatherFinished).table = s.table := by
  simp [State.gatherFinished]
@[simp] theorem State.gatherFinished_monitor (s : State) : (s.gatherFinished).monitor = s.monitor := by
  simp [State.gatherFinished]
@[simp] theorem State.gatherFinished_envelope (s : State) : (s.gatherFinished).envelope = s.envelope := by
  simp [State.gatherFinished]
@[simp] theorem State.gatherFinished_deferred (s : State) : (s.gatherFinished).deferred = s.deferred := by
  simp [State.gatherFinished]
@[simp] theorem State.gatherFinished_store (s : State) : (s.gatherFinished).store = s.store := by
  simp [State.gatherFinished]
@[simp] theorem State.gatherFinished_memory (s : State) : (s.gatherFinished).memory = s.memory := by
  simp [State.gatherFinished]
@[simp] theorem State.gatherFinished_memoryBusy (s : State) : (s.gatherFinished).memoryBusy = s.memoryBusy := by
  simp [State.gatherFinished]
@[simp] theorem State.gatherFinished_pending (s : State) : (s.gatherFinished).pending = s.pending := by
  simp [State.gatherFinished]

@[simp] theorem State.gatherExpires_now (s : State) : (s.gatherExpires).now = s.now := by
  unfold State.gatherExpires; split
  · split <;> simp
  · rfl
@[simp] theorem State.gatherExpires_ports (s : State) : (s.gatherExpires).ports = s.ports := by
  unfold State.gatherExpires; split
  · split <;> simp
  · rfl
@[simp] theorem State.gatherExpires_replies (s : State) : (s.gatherExpires).replies = s.replies := by
  unfold State.gatherExpires; split
  · split <;> simp
  · rfl
@[simp] theorem State.gatherExpires_obs (s : State) : (s.gatherExpires).obs = s.obs := by
  unfold State.gatherExpires; split
  · split <;> simp
  · rfl
@[simp] theorem State.gatherExpires_switches (s : State) : (s.gatherExpires).switches = s.switches := by
  unfold State.gatherExpires; split
  · split <;> simp
  · rfl
@[simp] theorem State.gatherExpires_working (s : State) : (s.gatherExpires).working = s.working := by
  unfold State.gatherExpires; split
  · split <;> simp
  · rfl
@[simp] theorem State.gatherExpires_committed (s : State) : (s.gatherExpires).committed = s.committed := by
  unfold State.gatherExpires; split
  · split <;> simp
  · rfl
@[simp] theorem State.gatherExpires_unsaved (s : State) : (s.gatherExpires).unsaved = s.unsaved := by
  unfold State.gatherExpires; split
  · split <;> simp
  · rfl
@[simp] theorem State.gatherExpires_monitor (s : State) : (s.gatherExpires).monitor = s.monitor := by
  unfold State.gatherExpires; split
  · split <;> simp
  · rfl
@[simp] theorem State.gatherExpires_envelope (s : State) : (s.gatherExpires).envelope = s.envelope := by
  unfold State.gatherExpires; split
  · split <;> simp
  · rfl
@[simp] theorem State.gatherExpires_deferred (s : State) : (s.gatherExpires).deferred = s.deferred := by
  unfold State.gatherExpires; split
  · split <;> simp
  · rfl
@[simp] theorem State.gatherExpires_store (s : State) : (s.gatherExpires).store = s.store := by
  unfold State.gatherExpires; split
  · split <;> simp
  · rfl
@[simp] theorem State.gatherExpires_memory (s : State) : (s.gatherExpires).memory = s.memory := by
  unfold State.gatherExpires; split
  · split <;> simp
  · rfl
@[simp] theorem State.gatherExpires_memoryBusy (s : State) : (s.gatherExpires).memoryBusy = s.memoryBusy := by
  unfold State.gatherExpires; split
  · split <;> simp
  · rfl
@[simp] theorem State.gatherExpires_pending (s : State) : (s.gatherExpires).pending = s.pending := by
  unfold State.gatherExpires; split
  · split <;> simp
  · rfl

@[simp] theorem State.endLoading_now (s : State) : (s.endLoading).now = s.now := by
  simp only [State.endLoading]; split <;> simp
@[simp] theorem State.endLoading_ports (s : State) : (s.endLoading).ports = s.ports := by
  simp only [State.endLoading]; split <;> simp
@[simp] theorem State.endLoading_replies (s : State) : (s.endLoading).replies = s.replies := by
  simp only [State.endLoading]; split <;> simp
@[simp] theorem State.endLoading_obs (s : State) : (s.endLoading).obs = s.obs := by
  simp only [State.endLoading]; split <;> simp
@[simp] theorem State.endLoading_switches (s : State) : (s.endLoading).switches = s.switches := by
  simp only [State.endLoading]; split <;> simp
@[simp] theorem State.endLoading_working (s : State) : (s.endLoading).working = s.working := by
  simp only [State.endLoading]; split <;> simp
@[simp] theorem State.endLoading_committed (s : State) : (s.endLoading).committed = s.committed := by
  simp only [State.endLoading]; split <;> simp
@[simp] theorem State.endLoading_unsaved (s : State) : (s.endLoading).unsaved = s.unsaved := by
  simp only [State.endLoading]; split <;> simp
@[simp] theorem State.endLoading_table (s : State) : (s.endLoading).table = s.table := by
  simp only [State.endLoading]; split <;> simp
@[simp] theorem State.endLoading_monitor (s : State) : (s.endLoading).monitor = s.monitor := by
  simp only [State.endLoading]; split <;> simp
@[simp] theorem State.endLoading_envelope (s : State) : (s.endLoading).envelope = s.envelope := by
  simp only [State.endLoading]; split <;> simp
@[simp] theorem State.endLoading_deferred (s : State) : (s.endLoading).deferred = s.deferred := by
  simp only [State.endLoading]; split <;> simp
@[simp] theorem State.endLoading_store (s : State) : (s.endLoading).store = s.store := by
  simp only [State.endLoading]; split <;> simp
@[simp] theorem State.endLoading_memory (s : State) : (s.endLoading).memory = s.memory := by
  simp only [State.endLoading]; split <;> simp
@[simp] theorem State.endLoading_memoryBusy (s : State) : (s.endLoading).memoryBusy = s.memoryBusy := by
  simp only [State.endLoading]; split <;> simp
@[simp] theorem State.endLoading_pending (s : State) : (s.endLoading).pending = s.pending := by
  simp only [State.endLoading]; split <;> simp

@[simp] theorem State.receiveError_now (s : State) (p : Port) (e : RxError) : (s.receiveError p e).now = s.now := by
  simp [State.receiveError]
@[simp] theorem State.receiveError_replies (s : State) (p : Port) (e : RxError) : (s.receiveError p e).replies = s.replies := by
  simp [State.receiveError]
@[simp] theorem State.receiveError_obs (s : State) (p : Port) (e : RxError) : (s.receiveError p e).obs = s.obs := by
  simp [State.receiveError]
@[simp] theorem State.receiveError_switches (s : State) (p : Port) (e : RxError) : (s.receiveError p e).switches = s.switches := by
  simp [State.receiveError]
@[simp] theorem State.receiveError_timers (s : State) (p : Port) (e : RxError) : (s.receiveError p e).timers = s.timers := by
  simp [State.receiveError]
@[simp] theorem State.receiveError_working (s : State) (p : Port) (e : RxError) : (s.receiveError p e).working = s.working := by
  simp [State.receiveError]
@[simp] theorem State.receiveError_committed (s : State) (p : Port) (e : RxError) : (s.receiveError p e).committed = s.committed := by
  simp [State.receiveError]
@[simp] theorem State.receiveError_unsaved (s : State) (p : Port) (e : RxError) : (s.receiveError p e).unsaved = s.unsaved := by
  simp [State.receiveError]
@[simp] theorem State.receiveError_monitor (s : State) (p : Port) (e : RxError) : (s.receiveError p e).monitor = s.monitor := by
  simp [State.receiveError]
@[simp] theorem State.receiveError_control (s : State) (p : Port) (e : RxError) : (s.receiveError p e).control = s.control := by
  simp [State.receiveError]
@[simp] theorem State.receiveError_envelope (s : State) (p : Port) (e : RxError) : (s.receiveError p e).envelope = s.envelope := by
  simp [State.receiveError]
@[simp] theorem State.receiveError_deferred (s : State) (p : Port) (e : RxError) : (s.receiveError p e).deferred = s.deferred := by
  simp [State.receiveError]
@[simp] theorem State.receiveError_store (s : State) (p : Port) (e : RxError) : (s.receiveError p e).store = s.store := by
  simp [State.receiveError]
@[simp] theorem State.receiveError_memory (s : State) (p : Port) (e : RxError) : (s.receiveError p e).memory = s.memory := by
  simp [State.receiveError]
@[simp] theorem State.receiveError_memoryBusy (s : State) (p : Port) (e : RxError) : (s.receiveError p e).memoryBusy = s.memoryBusy := by
  simp [State.receiveError]
@[simp] theorem State.receiveError_pending (s : State) (p : Port) (e : RxError) : (s.receiveError p e).pending = s.pending := by
  simp [State.receiveError]

@[simp] theorem State.acceptFrame_now (s : State) (p : Port) (c : SeqClass) (q : Byte) : (s.acceptFrame p c q).now = s.now := by
  simp [State.acceptFrame]
@[simp] theorem State.acceptFrame_replies (s : State) (p : Port) (c : SeqClass) (q : Byte) : (s.acceptFrame p c q).replies = s.replies := by
  simp [State.acceptFrame]
@[simp] theorem State.acceptFrame_obs (s : State) (p : Port) (c : SeqClass) (q : Byte) : (s.acceptFrame p c q).obs = s.obs := by
  simp [State.acceptFrame]
@[simp] theorem State.acceptFrame_switches (s : State) (p : Port) (c : SeqClass) (q : Byte) : (s.acceptFrame p c q).switches = s.switches := by
  simp [State.acceptFrame]
@[simp] theorem State.acceptFrame_working (s : State) (p : Port) (c : SeqClass) (q : Byte) : (s.acceptFrame p c q).working = s.working := by
  simp [State.acceptFrame]
@[simp] theorem State.acceptFrame_committed (s : State) (p : Port) (c : SeqClass) (q : Byte) : (s.acceptFrame p c q).committed = s.committed := by
  simp [State.acceptFrame]
@[simp] theorem State.acceptFrame_unsaved (s : State) (p : Port) (c : SeqClass) (q : Byte) : (s.acceptFrame p c q).unsaved = s.unsaved := by
  simp [State.acceptFrame]
@[simp] theorem State.acceptFrame_monitor (s : State) (p : Port) (c : SeqClass) (q : Byte) : (s.acceptFrame p c q).monitor = s.monitor := by
  simp [State.acceptFrame]
@[simp] theorem State.acceptFrame_control (s : State) (p : Port) (c : SeqClass) (q : Byte) : (s.acceptFrame p c q).control = s.control := by
  simp [State.acceptFrame]
@[simp] theorem State.acceptFrame_envelope (s : State) (p : Port) (c : SeqClass) (q : Byte) : (s.acceptFrame p c q).envelope = s.envelope := by
  simp [State.acceptFrame]
@[simp] theorem State.acceptFrame_deferred (s : State) (p : Port) (c : SeqClass) (q : Byte) : (s.acceptFrame p c q).deferred = s.deferred := by
  simp [State.acceptFrame]
@[simp] theorem State.acceptFrame_store (s : State) (p : Port) (c : SeqClass) (q : Byte) : (s.acceptFrame p c q).store = s.store := by
  simp [State.acceptFrame]
@[simp] theorem State.acceptFrame_memory (s : State) (p : Port) (c : SeqClass) (q : Byte) : (s.acceptFrame p c q).memory = s.memory := by
  simp [State.acceptFrame]
@[simp] theorem State.acceptFrame_memoryBusy (s : State) (p : Port) (c : SeqClass) (q : Byte) : (s.acceptFrame p c q).memoryBusy = s.memoryBusy := by
  simp [State.acceptFrame]
@[simp] theorem State.acceptFrame_pending (s : State) (p : Port) (c : SeqClass) (q : Byte) : (s.acceptFrame p c q).pending = s.pending := by
  simp [State.acceptFrame]

@[simp] theorem State.handCommand_now (s : State) (i : Instr) : (s.handCommand i).now = s.now := by
  unfold State.handCommand; split <;> simp
@[simp] theorem State.handCommand_replies (s : State) (i : Instr) : (s.handCommand i).replies = s.replies := by
  unfold State.handCommand; split <;> simp
@[simp] theorem State.handCommand_obs (s : State) (i : Instr) : (s.handCommand i).obs = s.obs := by
  unfold State.handCommand; split <;> simp
@[simp] theorem State.handCommand_switches (s : State) (i : Instr) : (s.handCommand i).switches = s.switches := by
  unfold State.handCommand; split <;> simp
@[simp] theorem State.handCommand_timers (s : State) (i : Instr) : (s.handCommand i).timers = s.timers := by
  unfold State.handCommand; split <;> simp
@[simp] theorem State.handCommand_working (s : State) (i : Instr) : (s.handCommand i).working = s.working := by
  unfold State.handCommand; split <;> simp
@[simp] theorem State.handCommand_committed (s : State) (i : Instr) : (s.handCommand i).committed = s.committed := by
  unfold State.handCommand; split <;> simp
@[simp] theorem State.handCommand_unsaved (s : State) (i : Instr) : (s.handCommand i).unsaved = s.unsaved := by
  unfold State.handCommand; split <;> simp
@[simp] theorem State.handCommand_table (s : State) (i : Instr) : (s.handCommand i).table = s.table := by
  unfold State.handCommand; split <;> simp
@[simp] theorem State.handCommand_monitor (s : State) (i : Instr) : (s.handCommand i).monitor = s.monitor := by
  unfold State.handCommand; split <;> simp
@[simp] theorem State.handCommand_control (s : State) (i : Instr) : (s.handCommand i).control = s.control := by
  unfold State.handCommand; split <;> simp
@[simp] theorem State.handCommand_envelope (s : State) (i : Instr) : (s.handCommand i).envelope = s.envelope := by
  unfold State.handCommand; split <;> simp
@[simp] theorem State.handCommand_deferred (s : State) (i : Instr) : (s.handCommand i).deferred = s.deferred := by
  unfold State.handCommand; split <;> simp
@[simp] theorem State.handCommand_store (s : State) (i : Instr) : (s.handCommand i).store = s.store := by
  unfold State.handCommand; split <;> simp
@[simp] theorem State.handCommand_memory (s : State) (i : Instr) : (s.handCommand i).memory = s.memory := by
  unfold State.handCommand; split <;> simp
@[simp] theorem State.handCommand_memoryBusy (s : State) (i : Instr) : (s.handCommand i).memoryBusy = s.memoryBusy := by
  unfold State.handCommand; split <;> simp
@[simp] theorem State.handCommand_pending (s : State) (i : Instr) : (s.handCommand i).pending = s.pending := by
  unfold State.handCommand; split <;> simp

@[simp] theorem State.deliverClaim_now (s : State) (u : FaultUnit) (cs : List Kind) (k : Kind) : (State.deliverClaim u cs s k).now = s.now := by
  unfold State.deliverClaim; split <;> simp
@[simp] theorem State.deliverClaim_ports (s : State) (u : FaultUnit) (cs : List Kind) (k : Kind) : (State.deliverClaim u cs s k).ports = s.ports := by
  unfold State.deliverClaim; split <;> simp
@[simp] theorem State.deliverClaim_replies (s : State) (u : FaultUnit) (cs : List Kind) (k : Kind) : (State.deliverClaim u cs s k).replies = s.replies := by
  unfold State.deliverClaim; split <;> simp
@[simp] theorem State.deliverClaim_obs (s : State) (u : FaultUnit) (cs : List Kind) (k : Kind) : (State.deliverClaim u cs s k).obs = s.obs := by
  unfold State.deliverClaim; split <;> simp
@[simp] theorem State.deliverClaim_switches (s : State) (u : FaultUnit) (cs : List Kind) (k : Kind) : (State.deliverClaim u cs s k).switches = s.switches := by
  unfold State.deliverClaim; split <;> simp
@[simp] theorem State.deliverClaim_timers (s : State) (u : FaultUnit) (cs : List Kind) (k : Kind) : (State.deliverClaim u cs s k).timers = s.timers := by
  unfold State.deliverClaim; split <;> simp
@[simp] theorem State.deliverClaim_working (s : State) (u : FaultUnit) (cs : List Kind) (k : Kind) : (State.deliverClaim u cs s k).working = s.working := by
  unfold State.deliverClaim; split <;> simp
@[simp] theorem State.deliverClaim_committed (s : State) (u : FaultUnit) (cs : List Kind) (k : Kind) : (State.deliverClaim u cs s k).committed = s.committed := by
  unfold State.deliverClaim; split <;> simp
@[simp] theorem State.deliverClaim_unsaved (s : State) (u : FaultUnit) (cs : List Kind) (k : Kind) : (State.deliverClaim u cs s k).unsaved = s.unsaved := by
  unfold State.deliverClaim; split <;> simp
@[simp] theorem State.deliverClaim_monitor (s : State) (u : FaultUnit) (cs : List Kind) (k : Kind) : (State.deliverClaim u cs s k).monitor = s.monitor := by
  unfold State.deliverClaim; split <;> simp
@[simp] theorem State.deliverClaim_control (s : State) (u : FaultUnit) (cs : List Kind) (k : Kind) : (State.deliverClaim u cs s k).control = s.control := by
  unfold State.deliverClaim; split <;> simp
@[simp] theorem State.deliverClaim_envelope (s : State) (u : FaultUnit) (cs : List Kind) (k : Kind) : (State.deliverClaim u cs s k).envelope = s.envelope := by
  unfold State.deliverClaim; split <;> simp
@[simp] theorem State.deliverClaim_deferred (s : State) (u : FaultUnit) (cs : List Kind) (k : Kind) : (State.deliverClaim u cs s k).deferred = s.deferred := by
  unfold State.deliverClaim; split <;> simp
@[simp] theorem State.deliverClaim_store (s : State) (u : FaultUnit) (cs : List Kind) (k : Kind) : (State.deliverClaim u cs s k).store = s.store := by
  unfold State.deliverClaim; split <;> simp
@[simp] theorem State.deliverClaim_memory (s : State) (u : FaultUnit) (cs : List Kind) (k : Kind) : (State.deliverClaim u cs s k).memory = s.memory := by
  unfold State.deliverClaim; split <;> simp
@[simp] theorem State.deliverClaim_memoryBusy (s : State) (u : FaultUnit) (cs : List Kind) (k : Kind) : (State.deliverClaim u cs s k).memoryBusy = s.memoryBusy := by
  unfold State.deliverClaim; split <;> simp
@[simp] theorem State.deliverClaim_pending (s : State) (u : FaultUnit) (cs : List Kind) (k : Kind) : (State.deliverClaim u cs s k).pending = s.pending := by
  unfold State.deliverClaim; split <;> simp
theorem foldl_deliverClaim_now (s : State) (u : FaultUnit) (cs ks : List Kind) :
    (ks.foldl (State.deliverClaim u cs) s).now = s.now := by
  induction ks generalizing s with
  | nil => rfl
  | cons k ks ih => simp [List.foldl_cons, ih]
theorem foldl_deliverClaim_ports (s : State) (u : FaultUnit) (cs ks : List Kind) :
    (ks.foldl (State.deliverClaim u cs) s).ports = s.ports := by
  induction ks generalizing s with
  | nil => rfl
  | cons k ks ih => simp [List.foldl_cons, ih]
theorem foldl_deliverClaim_replies (s : State) (u : FaultUnit) (cs ks : List Kind) :
    (ks.foldl (State.deliverClaim u cs) s).replies = s.replies := by
  induction ks generalizing s with
  | nil => rfl
  | cons k ks ih => simp [List.foldl_cons, ih]
theorem foldl_deliverClaim_obs (s : State) (u : FaultUnit) (cs ks : List Kind) :
    (ks.foldl (State.deliverClaim u cs) s).obs = s.obs := by
  induction ks generalizing s with
  | nil => rfl
  | cons k ks ih => simp [List.foldl_cons, ih]
theorem foldl_deliverClaim_switches (s : State) (u : FaultUnit) (cs ks : List Kind) :
    (ks.foldl (State.deliverClaim u cs) s).switches = s.switches := by
  induction ks generalizing s with
  | nil => rfl
  | cons k ks ih => simp [List.foldl_cons, ih]
theorem foldl_deliverClaim_timers (s : State) (u : FaultUnit) (cs ks : List Kind) :
    (ks.foldl (State.deliverClaim u cs) s).timers = s.timers := by
  induction ks generalizing s with
  | nil => rfl
  | cons k ks ih => simp [List.foldl_cons, ih]
theorem foldl_deliverClaim_working (s : State) (u : FaultUnit) (cs ks : List Kind) :
    (ks.foldl (State.deliverClaim u cs) s).working = s.working := by
  induction ks generalizing s with
  | nil => rfl
  | cons k ks ih => simp [List.foldl_cons, ih]
theorem foldl_deliverClaim_committed (s : State) (u : FaultUnit) (cs ks : List Kind) :
    (ks.foldl (State.deliverClaim u cs) s).committed = s.committed := by
  induction ks generalizing s with
  | nil => rfl
  | cons k ks ih => simp [List.foldl_cons, ih]
theorem foldl_deliverClaim_unsaved (s : State) (u : FaultUnit) (cs ks : List Kind) :
    (ks.foldl (State.deliverClaim u cs) s).unsaved = s.unsaved := by
  induction ks generalizing s with
  | nil => rfl
  | cons k ks ih => simp [List.foldl_cons, ih]
theorem foldl_deliverClaim_monitor (s : State) (u : FaultUnit) (cs ks : List Kind) :
    (ks.foldl (State.deliverClaim u cs) s).monitor = s.monitor := by
  induction ks generalizing s with
  | nil => rfl
  | cons k ks ih => simp [List.foldl_cons, ih]
theorem foldl_deliverClaim_control (s : State) (u : FaultUnit) (cs ks : List Kind) :
    (ks.foldl (State.deliverClaim u cs) s).control = s.control := by
  induction ks generalizing s with
  | nil => rfl
  | cons k ks ih => simp [List.foldl_cons, ih]
theorem foldl_deliverClaim_envelope (s : State) (u : FaultUnit) (cs ks : List Kind) :
    (ks.foldl (State.deliverClaim u cs) s).envelope = s.envelope := by
  induction ks generalizing s with
  | nil => rfl
  | cons k ks ih => simp [List.foldl_cons, ih]
theorem foldl_deliverClaim_deferred (s : State) (u : FaultUnit) (cs ks : List Kind) :
    (ks.foldl (State.deliverClaim u cs) s).deferred = s.deferred := by
  induction ks generalizing s with
  | nil => rfl
  | cons k ks ih => simp [List.foldl_cons, ih]
theorem foldl_deliverClaim_store (s : State) (u : FaultUnit) (cs ks : List Kind) :
    (ks.foldl (State.deliverClaim u cs) s).store = s.store := by
  induction ks generalizing s with
  | nil => rfl
  | cons k ks ih => simp [List.foldl_cons, ih]
theorem foldl_deliverClaim_memory (s : State) (u : FaultUnit) (cs ks : List Kind) :
    (ks.foldl (State.deliverClaim u cs) s).memory = s.memory := by
  induction ks generalizing s with
  | nil => rfl
  | cons k ks ih => simp [List.foldl_cons, ih]
theorem foldl_deliverClaim_memoryBusy (s : State) (u : FaultUnit) (cs ks : List Kind) :
    (ks.foldl (State.deliverClaim u cs) s).memoryBusy = s.memoryBusy := by
  induction ks generalizing s with
  | nil => rfl
  | cons k ks ih => simp [List.foldl_cons, ih]
theorem foldl_deliverClaim_pending (s : State) (u : FaultUnit) (cs ks : List Kind) :
    (ks.foldl (State.deliverClaim u cs) s).pending = s.pending := by
  induction ks generalizing s with
  | nil => rfl
  | cons k ks ih => simp [List.foldl_cons, ih]

@[simp] theorem State.reportVerdicts_now (s : State) (u : FaultUnit) (n : Option Nat) (cs : List Kind) : (s.reportVerdicts u n cs).now = s.now := by
  simp [State.reportVerdicts, foldl_deliverClaim_now]
@[simp] theorem State.reportVerdicts_ports (s : State) (u : FaultUnit) (n : Option Nat) (cs : List Kind) : (s.reportVerdicts u n cs).ports = s.ports := by
  simp [State.reportVerdicts, foldl_deliverClaim_ports]
@[simp] theorem State.reportVerdicts_replies (s : State) (u : FaultUnit) (n : Option Nat) (cs : List Kind) : (s.reportVerdicts u n cs).replies = s.replies := by
  simp [State.reportVerdicts, foldl_deliverClaim_replies]
@[simp] theorem State.reportVerdicts_obs (s : State) (u : FaultUnit) (n : Option Nat) (cs : List Kind) : (s.reportVerdicts u n cs).obs = s.obs := by
  simp [State.reportVerdicts, foldl_deliverClaim_obs]
@[simp] theorem State.reportVerdicts_switches (s : State) (u : FaultUnit) (n : Option Nat) (cs : List Kind) : (s.reportVerdicts u n cs).switches = s.switches := by
  simp [State.reportVerdicts, foldl_deliverClaim_switches]
@[simp] theorem State.reportVerdicts_timers (s : State) (u : FaultUnit) (n : Option Nat) (cs : List Kind) : (s.reportVerdicts u n cs).timers = s.timers := by
  simp [State.reportVerdicts, foldl_deliverClaim_timers]
@[simp] theorem State.reportVerdicts_working (s : State) (u : FaultUnit) (n : Option Nat) (cs : List Kind) : (s.reportVerdicts u n cs).working = s.working := by
  simp [State.reportVerdicts, foldl_deliverClaim_working]
@[simp] theorem State.reportVerdicts_committed (s : State) (u : FaultUnit) (n : Option Nat) (cs : List Kind) : (s.reportVerdicts u n cs).committed = s.committed := by
  simp [State.reportVerdicts, foldl_deliverClaim_committed]
@[simp] theorem State.reportVerdicts_unsaved (s : State) (u : FaultUnit) (n : Option Nat) (cs : List Kind) : (s.reportVerdicts u n cs).unsaved = s.unsaved := by
  simp [State.reportVerdicts, foldl_deliverClaim_unsaved]
@[simp] theorem State.reportVerdicts_monitor (s : State) (u : FaultUnit) (n : Option Nat) (cs : List Kind) : (s.reportVerdicts u n cs).monitor = s.monitor := by
  simp [State.reportVerdicts, foldl_deliverClaim_monitor]
@[simp] theorem State.reportVerdicts_control (s : State) (u : FaultUnit) (n : Option Nat) (cs : List Kind) : (s.reportVerdicts u n cs).control = s.control := by
  simp [State.reportVerdicts, foldl_deliverClaim_control]
@[simp] theorem State.reportVerdicts_envelope (s : State) (u : FaultUnit) (n : Option Nat) (cs : List Kind) : (s.reportVerdicts u n cs).envelope = s.envelope := by
  simp [State.reportVerdicts, foldl_deliverClaim_envelope]
@[simp] theorem State.reportVerdicts_deferred (s : State) (u : FaultUnit) (n : Option Nat) (cs : List Kind) : (s.reportVerdicts u n cs).deferred = s.deferred := by
  simp [State.reportVerdicts, foldl_deliverClaim_deferred]
@[simp] theorem State.reportVerdicts_store (s : State) (u : FaultUnit) (n : Option Nat) (cs : List Kind) : (s.reportVerdicts u n cs).store = s.store := by
  simp [State.reportVerdicts, foldl_deliverClaim_store]
@[simp] theorem State.reportVerdicts_memory (s : State) (u : FaultUnit) (n : Option Nat) (cs : List Kind) : (s.reportVerdicts u n cs).memory = s.memory := by
  simp [State.reportVerdicts, foldl_deliverClaim_memory]
@[simp] theorem State.reportVerdicts_memoryBusy (s : State) (u : FaultUnit) (n : Option Nat) (cs : List Kind) : (s.reportVerdicts u n cs).memoryBusy = s.memoryBusy := by
  simp [State.reportVerdicts, foldl_deliverClaim_memoryBusy]
@[simp] theorem State.reportVerdicts_pending (s : State) (u : FaultUnit) (n : Option Nat) (cs : List Kind) : (s.reportVerdicts u n cs).pending = s.pending := by
  simp [State.reportVerdicts, foldl_deliverClaim_pending]

@[simp] theorem State.takeMotorReport_now (s : State) (m : Motor) (l : List Byte) : (s.takeMotorReport m l).now = s.now := by
  simp [State.takeMotorReport]
@[simp] theorem State.takeMotorReport_ports (s : State) (m : Motor) (l : List Byte) : (s.takeMotorReport m l).ports = s.ports := by
  simp [State.takeMotorReport]
@[simp] theorem State.takeMotorReport_replies (s : State) (m : Motor) (l : List Byte) : (s.takeMotorReport m l).replies = s.replies := by
  simp [State.takeMotorReport]
@[simp] theorem State.takeMotorReport_switches (s : State) (m : Motor) (l : List Byte) : (s.takeMotorReport m l).switches = s.switches := by
  simp [State.takeMotorReport]
@[simp] theorem State.takeMotorReport_timers (s : State) (m : Motor) (l : List Byte) : (s.takeMotorReport m l).timers = s.timers := by
  simp [State.takeMotorReport]
@[simp] theorem State.takeMotorReport_working (s : State) (m : Motor) (l : List Byte) : (s.takeMotorReport m l).working = s.working := by
  simp [State.takeMotorReport]
@[simp] theorem State.takeMotorReport_committed (s : State) (m : Motor) (l : List Byte) : (s.takeMotorReport m l).committed = s.committed := by
  simp [State.takeMotorReport]
@[simp] theorem State.takeMotorReport_unsaved (s : State) (m : Motor) (l : List Byte) : (s.takeMotorReport m l).unsaved = s.unsaved := by
  simp [State.takeMotorReport]
@[simp] theorem State.takeMotorReport_monitor (s : State) (m : Motor) (l : List Byte) : (s.takeMotorReport m l).monitor = s.monitor := by
  simp [State.takeMotorReport]
@[simp] theorem State.takeMotorReport_control (s : State) (m : Motor) (l : List Byte) : (s.takeMotorReport m l).control = s.control := by
  simp [State.takeMotorReport]
@[simp] theorem State.takeMotorReport_envelope (s : State) (m : Motor) (l : List Byte) : (s.takeMotorReport m l).envelope = s.envelope := by
  simp [State.takeMotorReport]
@[simp] theorem State.takeMotorReport_deferred (s : State) (m : Motor) (l : List Byte) : (s.takeMotorReport m l).deferred = s.deferred := by
  simp [State.takeMotorReport]
@[simp] theorem State.takeMotorReport_store (s : State) (m : Motor) (l : List Byte) : (s.takeMotorReport m l).store = s.store := by
  simp [State.takeMotorReport]
@[simp] theorem State.takeMotorReport_memory (s : State) (m : Motor) (l : List Byte) : (s.takeMotorReport m l).memory = s.memory := by
  simp [State.takeMotorReport]
@[simp] theorem State.takeMotorReport_memoryBusy (s : State) (m : Motor) (l : List Byte) : (s.takeMotorReport m l).memoryBusy = s.memoryBusy := by
  simp [State.takeMotorReport]
@[simp] theorem State.takeMotorReport_pending (s : State) (m : Motor) (l : List Byte) : (s.takeMotorReport m l).pending = s.pending := by
  simp [State.takeMotorReport]

@[simp] theorem State.takePackReport_now (s : State) (l : List Byte) : (s.takePackReport l).now = s.now := by
  simp [State.takePackReport]
@[simp] theorem State.takePackReport_ports (s : State) (l : List Byte) : (s.takePackReport l).ports = s.ports := by
  simp [State.takePackReport]
@[simp] theorem State.takePackReport_replies (s : State) (l : List Byte) : (s.takePackReport l).replies = s.replies := by
  simp [State.takePackReport]
@[simp] theorem State.takePackReport_switches (s : State) (l : List Byte) : (s.takePackReport l).switches = s.switches := by
  simp [State.takePackReport]
@[simp] theorem State.takePackReport_timers (s : State) (l : List Byte) : (s.takePackReport l).timers = s.timers := by
  simp [State.takePackReport]
@[simp] theorem State.takePackReport_working (s : State) (l : List Byte) : (s.takePackReport l).working = s.working := by
  simp [State.takePackReport]
@[simp] theorem State.takePackReport_committed (s : State) (l : List Byte) : (s.takePackReport l).committed = s.committed := by
  simp [State.takePackReport]
@[simp] theorem State.takePackReport_unsaved (s : State) (l : List Byte) : (s.takePackReport l).unsaved = s.unsaved := by
  simp [State.takePackReport]
@[simp] theorem State.takePackReport_monitor (s : State) (l : List Byte) : (s.takePackReport l).monitor = s.monitor := by
  simp [State.takePackReport]
@[simp] theorem State.takePackReport_control (s : State) (l : List Byte) : (s.takePackReport l).control = s.control := by
  simp [State.takePackReport]
@[simp] theorem State.takePackReport_envelope (s : State) (l : List Byte) : (s.takePackReport l).envelope = s.envelope := by
  simp [State.takePackReport]
@[simp] theorem State.takePackReport_deferred (s : State) (l : List Byte) : (s.takePackReport l).deferred = s.deferred := by
  simp [State.takePackReport]
@[simp] theorem State.takePackReport_store (s : State) (l : List Byte) : (s.takePackReport l).store = s.store := by
  simp [State.takePackReport]
@[simp] theorem State.takePackReport_memory (s : State) (l : List Byte) : (s.takePackReport l).memory = s.memory := by
  simp [State.takePackReport]
@[simp] theorem State.takePackReport_memoryBusy (s : State) (l : List Byte) : (s.takePackReport l).memoryBusy = s.memoryBusy := by
  simp [State.takePackReport]
@[simp] theorem State.takePackReport_pending (s : State) (l : List Byte) : (s.takePackReport l).pending = s.pending := by
  simp [State.takePackReport]

@[simp] theorem State.takeDemand_now (s : State) (l : List Byte) : (s.takeDemand l).now = s.now := by
  simp [State.takeDemand]
@[simp] theorem State.takeDemand_ports (s : State) (l : List Byte) : (s.takeDemand l).ports = s.ports := by
  simp [State.takeDemand]
@[simp] theorem State.takeDemand_replies (s : State) (l : List Byte) : (s.takeDemand l).replies = s.replies := by
  simp [State.takeDemand]
@[simp] theorem State.takeDemand_switches (s : State) (l : List Byte) : (s.takeDemand l).switches = s.switches := by
  simp [State.takeDemand]
@[simp] theorem State.takeDemand_timers (s : State) (l : List Byte) : (s.takeDemand l).timers = s.timers := by
  simp [State.takeDemand]
@[simp] theorem State.takeDemand_working (s : State) (l : List Byte) : (s.takeDemand l).working = s.working := by
  simp [State.takeDemand]
@[simp] theorem State.takeDemand_committed (s : State) (l : List Byte) : (s.takeDemand l).committed = s.committed := by
  simp [State.takeDemand]
@[simp] theorem State.takeDemand_unsaved (s : State) (l : List Byte) : (s.takeDemand l).unsaved = s.unsaved := by
  simp [State.takeDemand]
@[simp] theorem State.takeDemand_monitor (s : State) (l : List Byte) : (s.takeDemand l).monitor = s.monitor := by
  simp [State.takeDemand]
@[simp] theorem State.takeDemand_control (s : State) (l : List Byte) : (s.takeDemand l).control = s.control := by
  simp [State.takeDemand]
@[simp] theorem State.takeDemand_envelope (s : State) (l : List Byte) : (s.takeDemand l).envelope = s.envelope := by
  simp [State.takeDemand]
@[simp] theorem State.takeDemand_deferred (s : State) (l : List Byte) : (s.takeDemand l).deferred = s.deferred := by
  simp [State.takeDemand]
@[simp] theorem State.takeDemand_store (s : State) (l : List Byte) : (s.takeDemand l).store = s.store := by
  simp [State.takeDemand]
@[simp] theorem State.takeDemand_memory (s : State) (l : List Byte) : (s.takeDemand l).memory = s.memory := by
  simp [State.takeDemand]
@[simp] theorem State.takeDemand_memoryBusy (s : State) (l : List Byte) : (s.takeDemand l).memoryBusy = s.memoryBusy := by
  simp [State.takeDemand]
@[simp] theorem State.takeDemand_pending (s : State) (l : List Byte) : (s.takeDemand l).pending = s.pending := by
  simp [State.takeDemand]

@[simp] theorem State.handOn_now (s : State) (p : Port) (k : FrameKind) (q : Byte) (l : List Byte) : (s.handOn p k q l).now = s.now := by
  cases k <;> cases p <;> simp [State.handOn]
@[simp] theorem State.handOn_replies (s : State) (p : Port) (k : FrameKind) (q : Byte) (l : List Byte) : (s.handOn p k q l).replies = s.replies := by
  cases k <;> cases p <;> simp [State.handOn]
@[simp] theorem State.handOn_switches (s : State) (p : Port) (k : FrameKind) (q : Byte) (l : List Byte) : (s.handOn p k q l).switches = s.switches := by
  cases k <;> cases p <;> simp [State.handOn]
@[simp] theorem State.handOn_timers (s : State) (p : Port) (k : FrameKind) (q : Byte) (l : List Byte) : (s.handOn p k q l).timers = s.timers := by
  cases k <;> cases p <;> simp [State.handOn]
@[simp] theorem State.handOn_working (s : State) (p : Port) (k : FrameKind) (q : Byte) (l : List Byte) : (s.handOn p k q l).working = s.working := by
  cases k <;> cases p <;> simp [State.handOn]
@[simp] theorem State.handOn_committed (s : State) (p : Port) (k : FrameKind) (q : Byte) (l : List Byte) : (s.handOn p k q l).committed = s.committed := by
  cases k <;> cases p <;> simp [State.handOn]
@[simp] theorem State.handOn_unsaved (s : State) (p : Port) (k : FrameKind) (q : Byte) (l : List Byte) : (s.handOn p k q l).unsaved = s.unsaved := by
  cases k <;> cases p <;> simp [State.handOn]
@[simp] theorem State.handOn_monitor (s : State) (p : Port) (k : FrameKind) (q : Byte) (l : List Byte) : (s.handOn p k q l).monitor = s.monitor := by
  cases k <;> cases p <;> simp [State.handOn]
@[simp] theorem State.handOn_control (s : State) (p : Port) (k : FrameKind) (q : Byte) (l : List Byte) : (s.handOn p k q l).control = s.control := by
  cases k <;> cases p <;> simp [State.handOn]
@[simp] theorem State.handOn_envelope (s : State) (p : Port) (k : FrameKind) (q : Byte) (l : List Byte) : (s.handOn p k q l).envelope = s.envelope := by
  cases k <;> cases p <;> simp [State.handOn]
@[simp] theorem State.handOn_deferred (s : State) (p : Port) (k : FrameKind) (q : Byte) (l : List Byte) : (s.handOn p k q l).deferred = s.deferred := by
  cases k <;> cases p <;> simp [State.handOn]
@[simp] theorem State.handOn_store (s : State) (p : Port) (k : FrameKind) (q : Byte) (l : List Byte) : (s.handOn p k q l).store = s.store := by
  cases k <;> cases p <;> simp [State.handOn]
@[simp] theorem State.handOn_memory (s : State) (p : Port) (k : FrameKind) (q : Byte) (l : List Byte) : (s.handOn p k q l).memory = s.memory := by
  cases k <;> cases p <;> simp [State.handOn]
@[simp] theorem State.handOn_memoryBusy (s : State) (p : Port) (k : FrameKind) (q : Byte) (l : List Byte) : (s.handOn p k q l).memoryBusy = s.memoryBusy := by
  cases k <;> cases p <;> simp [State.handOn]
@[simp] theorem State.handOn_pending (s : State) (p : Port) (k : FrameKind) (q : Byte) (l : List Byte) : (s.handOn p k q l).pending = s.pending := by
  cases k <;> cases p <;> simp [State.handOn]

@[simp] theorem State.sequenceFrame_now (s : State) (p : Port) (k : FrameKind) (q : Byte) (l : List Byte) : (s.sequenceFrame p k q l).now = s.now := by
  simp only [State.sequenceFrame]; split <;> simp
@[simp] theorem State.sequenceFrame_replies (s : State) (p : Port) (k : FrameKind) (q : Byte) (l : List Byte) : (s.sequenceFrame p k q l).replies = s.replies := by
  simp only [State.sequenceFrame]; split <;> simp
@[simp] theorem State.sequenceFrame_switches (s : State) (p : Port) (k : FrameKind) (q : Byte) (l : List Byte) : (s.sequenceFrame p k q l).switches = s.switches := by
  simp only [State.sequenceFrame]; split <;> simp
@[simp] theorem State.sequenceFrame_working (s : State) (p : Port) (k : FrameKind) (q : Byte) (l : List Byte) : (s.sequenceFrame p k q l).working = s.working := by
  simp only [State.sequenceFrame]; split <;> simp
@[simp] theorem State.sequenceFrame_committed (s : State) (p : Port) (k : FrameKind) (q : Byte) (l : List Byte) : (s.sequenceFrame p k q l).committed = s.committed := by
  simp only [State.sequenceFrame]; split <;> simp
@[simp] theorem State.sequenceFrame_unsaved (s : State) (p : Port) (k : FrameKind) (q : Byte) (l : List Byte) : (s.sequenceFrame p k q l).unsaved = s.unsaved := by
  simp only [State.sequenceFrame]; split <;> simp
@[simp] theorem State.sequenceFrame_monitor (s : State) (p : Port) (k : FrameKind) (q : Byte) (l : List Byte) : (s.sequenceFrame p k q l).monitor = s.monitor := by
  simp only [State.sequenceFrame]; split <;> simp
@[simp] theorem State.sequenceFrame_control (s : State) (p : Port) (k : FrameKind) (q : Byte) (l : List Byte) : (s.sequenceFrame p k q l).control = s.control := by
  simp only [State.sequenceFrame]; split <;> simp
@[simp] theorem State.sequenceFrame_envelope (s : State) (p : Port) (k : FrameKind) (q : Byte) (l : List Byte) : (s.sequenceFrame p k q l).envelope = s.envelope := by
  simp only [State.sequenceFrame]; split <;> simp
@[simp] theorem State.sequenceFrame_deferred (s : State) (p : Port) (k : FrameKind) (q : Byte) (l : List Byte) : (s.sequenceFrame p k q l).deferred = s.deferred := by
  simp only [State.sequenceFrame]; split <;> simp
@[simp] theorem State.sequenceFrame_store (s : State) (p : Port) (k : FrameKind) (q : Byte) (l : List Byte) : (s.sequenceFrame p k q l).store = s.store := by
  simp only [State.sequenceFrame]; split <;> simp
@[simp] theorem State.sequenceFrame_memory (s : State) (p : Port) (k : FrameKind) (q : Byte) (l : List Byte) : (s.sequenceFrame p k q l).memory = s.memory := by
  simp only [State.sequenceFrame]; split <;> simp
@[simp] theorem State.sequenceFrame_memoryBusy (s : State) (p : Port) (k : FrameKind) (q : Byte) (l : List Byte) : (s.sequenceFrame p k q l).memoryBusy = s.memoryBusy := by
  simp only [State.sequenceFrame]; split <;> simp
@[simp] theorem State.sequenceFrame_pending (s : State) (p : Port) (k : FrameKind) (q : Byte) (l : List Byte) : (s.sequenceFrame p k q l).pending = s.pending := by
  simp only [State.sequenceFrame]; split <;> simp

@[simp] theorem State.checkFrame_now (s : State) (p : Port) (l : List Byte) : (s.checkFrame p l).now = s.now := by
  unfold State.checkFrame; split
  · simp
  · split <;> simp
@[simp] theorem State.checkFrame_replies (s : State) (p : Port) (l : List Byte) : (s.checkFrame p l).replies = s.replies := by
  unfold State.checkFrame; split
  · simp
  · split <;> simp
@[simp] theorem State.checkFrame_switches (s : State) (p : Port) (l : List Byte) : (s.checkFrame p l).switches = s.switches := by
  unfold State.checkFrame; split
  · simp
  · split <;> simp
@[simp] theorem State.checkFrame_working (s : State) (p : Port) (l : List Byte) : (s.checkFrame p l).working = s.working := by
  unfold State.checkFrame; split
  · simp
  · split <;> simp
@[simp] theorem State.checkFrame_committed (s : State) (p : Port) (l : List Byte) : (s.checkFrame p l).committed = s.committed := by
  unfold State.checkFrame; split
  · simp
  · split <;> simp
@[simp] theorem State.checkFrame_unsaved (s : State) (p : Port) (l : List Byte) : (s.checkFrame p l).unsaved = s.unsaved := by
  unfold State.checkFrame; split
  · simp
  · split <;> simp
@[simp] theorem State.checkFrame_monitor (s : State) (p : Port) (l : List Byte) : (s.checkFrame p l).monitor = s.monitor := by
  unfold State.checkFrame; split
  · simp
  · split <;> simp
@[simp] theorem State.checkFrame_control (s : State) (p : Port) (l : List Byte) : (s.checkFrame p l).control = s.control := by
  unfold State.checkFrame; split
  · simp
  · split <;> simp
@[simp] theorem State.checkFrame_envelope (s : State) (p : Port) (l : List Byte) : (s.checkFrame p l).envelope = s.envelope := by
  unfold State.checkFrame; split
  · simp
  · split <;> simp
@[simp] theorem State.checkFrame_deferred (s : State) (p : Port) (l : List Byte) : (s.checkFrame p l).deferred = s.deferred := by
  unfold State.checkFrame; split
  · simp
  · split <;> simp
@[simp] theorem State.checkFrame_store (s : State) (p : Port) (l : List Byte) : (s.checkFrame p l).store = s.store := by
  unfold State.checkFrame; split
  · simp
  · split <;> simp
@[simp] theorem State.checkFrame_memory (s : State) (p : Port) (l : List Byte) : (s.checkFrame p l).memory = s.memory := by
  unfold State.checkFrame; split
  · simp
  · split <;> simp
@[simp] theorem State.checkFrame_memoryBusy (s : State) (p : Port) (l : List Byte) : (s.checkFrame p l).memoryBusy = s.memoryBusy := by
  unfold State.checkFrame; split
  · simp
  · split <;> simp
@[simp] theorem State.checkFrame_pending (s : State) (p : Port) (l : List Byte) : (s.checkFrame p l).pending = s.pending := by
  unfold State.checkFrame; split
  · simp
  · split <;> simp

@[simp] theorem State.closeFrame_now (s : State) (p : Port) (l : List Byte) : (s.closeFrame p l).now = s.now := by
  unfold State.closeFrame; split
  · simp
  · split <;> simp
@[simp] theorem State.closeFrame_replies (s : State) (p : Port) (l : List Byte) : (s.closeFrame p l).replies = s.replies := by
  unfold State.closeFrame; split
  · simp
  · split <;> simp
@[simp] theorem State.closeFrame_switches (s : State) (p : Port) (l : List Byte) : (s.closeFrame p l).switches = s.switches := by
  unfold State.closeFrame; split
  · simp
  · split <;> simp
@[simp] theorem State.closeFrame_working (s : State) (p : Port) (l : List Byte) : (s.closeFrame p l).working = s.working := by
  unfold State.closeFrame; split
  · simp
  · split <;> simp
@[simp] theorem State.closeFrame_committed (s : State) (p : Port) (l : List Byte) : (s.closeFrame p l).committed = s.committed := by
  unfold State.closeFrame; split
  · simp
  · split <;> simp
@[simp] theorem State.closeFrame_unsaved (s : State) (p : Port) (l : List Byte) : (s.closeFrame p l).unsaved = s.unsaved := by
  unfold State.closeFrame; split
  · simp
  · split <;> simp
@[simp] theorem State.closeFrame_monitor (s : State) (p : Port) (l : List Byte) : (s.closeFrame p l).monitor = s.monitor := by
  unfold State.closeFrame; split
  · simp
  · split <;> simp
@[simp] theorem State.closeFrame_control (s : State) (p : Port) (l : List Byte) : (s.closeFrame p l).control = s.control := by
  unfold State.closeFrame; split
  · simp
  · split <;> simp
@[simp] theorem State.closeFrame_envelope (s : State) (p : Port) (l : List Byte) : (s.closeFrame p l).envelope = s.envelope := by
  unfold State.closeFrame; split
  · simp
  · split <;> simp
@[simp] theorem State.closeFrame_deferred (s : State) (p : Port) (l : List Byte) : (s.closeFrame p l).deferred = s.deferred := by
  unfold State.closeFrame; split
  · simp
  · split <;> simp
@[simp] theorem State.closeFrame_store (s : State) (p : Port) (l : List Byte) : (s.closeFrame p l).store = s.store := by
  unfold State.closeFrame; split
  · simp
  · split <;> simp
@[simp] theorem State.closeFrame_memory (s : State) (p : Port) (l : List Byte) : (s.closeFrame p l).memory = s.memory := by
  unfold State.closeFrame; split
  · simp
  · split <;> simp
@[simp] theorem State.closeFrame_memoryBusy (s : State) (p : Port) (l : List Byte) : (s.closeFrame p l).memoryBusy = s.memoryBusy := by
  unfold State.closeFrame; split
  · simp
  · split <;> simp
@[simp] theorem State.closeFrame_pending (s : State) (p : Port) (l : List Byte) : (s.closeFrame p l).pending = s.pending := by
  unfold State.closeFrame; split
  · simp
  · split <;> simp

@[simp] theorem State.appendByte_now (s : State) (p : Port) (b : Byte) : (s.appendByte p b).now = s.now := by
  unfold State.appendByte; split <;> simp
@[simp] theorem State.appendByte_replies (s : State) (p : Port) (b : Byte) : (s.appendByte p b).replies = s.replies := by
  unfold State.appendByte; split <;> simp
@[simp] theorem State.appendByte_obs (s : State) (p : Port) (b : Byte) : (s.appendByte p b).obs = s.obs := by
  unfold State.appendByte; split <;> simp
@[simp] theorem State.appendByte_switches (s : State) (p : Port) (b : Byte) : (s.appendByte p b).switches = s.switches := by
  unfold State.appendByte; split <;> simp
@[simp] theorem State.appendByte_timers (s : State) (p : Port) (b : Byte) : (s.appendByte p b).timers = s.timers := by
  unfold State.appendByte; split <;> simp
@[simp] theorem State.appendByte_working (s : State) (p : Port) (b : Byte) : (s.appendByte p b).working = s.working := by
  unfold State.appendByte; split <;> simp
@[simp] theorem State.appendByte_committed (s : State) (p : Port) (b : Byte) : (s.appendByte p b).committed = s.committed := by
  unfold State.appendByte; split <;> simp
@[simp] theorem State.appendByte_unsaved (s : State) (p : Port) (b : Byte) : (s.appendByte p b).unsaved = s.unsaved := by
  unfold State.appendByte; split <;> simp
@[simp] theorem State.appendByte_monitor (s : State) (p : Port) (b : Byte) : (s.appendByte p b).monitor = s.monitor := by
  unfold State.appendByte; split <;> simp
@[simp] theorem State.appendByte_control (s : State) (p : Port) (b : Byte) : (s.appendByte p b).control = s.control := by
  unfold State.appendByte; split <;> simp
@[simp] theorem State.appendByte_envelope (s : State) (p : Port) (b : Byte) : (s.appendByte p b).envelope = s.envelope := by
  unfold State.appendByte; split <;> simp
@[simp] theorem State.appendByte_deferred (s : State) (p : Port) (b : Byte) : (s.appendByte p b).deferred = s.deferred := by
  unfold State.appendByte; split <;> simp
@[simp] theorem State.appendByte_store (s : State) (p : Port) (b : Byte) : (s.appendByte p b).store = s.store := by
  unfold State.appendByte; split <;> simp
@[simp] theorem State.appendByte_memory (s : State) (p : Port) (b : Byte) : (s.appendByte p b).memory = s.memory := by
  unfold State.appendByte; split <;> simp
@[simp] theorem State.appendByte_memoryBusy (s : State) (p : Port) (b : Byte) : (s.appendByte p b).memoryBusy = s.memoryBusy := by
  unfold State.appendByte; split <;> simp
@[simp] theorem State.appendByte_pending (s : State) (p : Port) (b : Byte) : (s.appendByte p b).pending = s.pending := by
  unfold State.appendByte; split <;> simp

@[simp] theorem State.frameItem_now (s : State) (p : Port) (i : RxItem) : (s.frameItem p i).now = s.now := by
  unfold State.frameItem State.inHunt State.inBody State.inEscaped
  (repeat' split) <;> simp
@[simp] theorem State.frameItem_replies (s : State) (p : Port) (i : RxItem) : (s.frameItem p i).replies = s.replies := by
  unfold State.frameItem State.inHunt State.inBody State.inEscaped
  (repeat' split) <;> simp
@[simp] theorem State.frameItem_switches (s : State) (p : Port) (i : RxItem) : (s.frameItem p i).switches = s.switches := by
  unfold State.frameItem State.inHunt State.inBody State.inEscaped
  (repeat' split) <;> simp
@[simp] theorem State.frameItem_working (s : State) (p : Port) (i : RxItem) : (s.frameItem p i).working = s.working := by
  unfold State.frameItem State.inHunt State.inBody State.inEscaped
  (repeat' split) <;> simp
@[simp] theorem State.frameItem_committed (s : State) (p : Port) (i : RxItem) : (s.frameItem p i).committed = s.committed := by
  unfold State.frameItem State.inHunt State.inBody State.inEscaped
  (repeat' split) <;> simp
@[simp] theorem State.frameItem_unsaved (s : State) (p : Port) (i : RxItem) : (s.frameItem p i).unsaved = s.unsaved := by
  unfold State.frameItem State.inHunt State.inBody State.inEscaped
  (repeat' split) <;> simp
@[simp] theorem State.frameItem_monitor (s : State) (p : Port) (i : RxItem) : (s.frameItem p i).monitor = s.monitor := by
  unfold State.frameItem State.inHunt State.inBody State.inEscaped
  (repeat' split) <;> simp
@[simp] theorem State.frameItem_control (s : State) (p : Port) (i : RxItem) : (s.frameItem p i).control = s.control := by
  unfold State.frameItem State.inHunt State.inBody State.inEscaped
  (repeat' split) <;> simp
@[simp] theorem State.frameItem_envelope (s : State) (p : Port) (i : RxItem) : (s.frameItem p i).envelope = s.envelope := by
  unfold State.frameItem State.inHunt State.inBody State.inEscaped
  (repeat' split) <;> simp
@[simp] theorem State.frameItem_deferred (s : State) (p : Port) (i : RxItem) : (s.frameItem p i).deferred = s.deferred := by
  unfold State.frameItem State.inHunt State.inBody State.inEscaped
  (repeat' split) <;> simp
@[simp] theorem State.frameItem_store (s : State) (p : Port) (i : RxItem) : (s.frameItem p i).store = s.store := by
  unfold State.frameItem State.inHunt State.inBody State.inEscaped
  (repeat' split) <;> simp
@[simp] theorem State.frameItem_memory (s : State) (p : Port) (i : RxItem) : (s.frameItem p i).memory = s.memory := by
  unfold State.frameItem State.inHunt State.inBody State.inEscaped
  (repeat' split) <;> simp
@[simp] theorem State.frameItem_memoryBusy (s : State) (p : Port) (i : RxItem) : (s.frameItem p i).memoryBusy = s.memoryBusy := by
  unfold State.frameItem State.inHunt State.inBody State.inEscaped
  (repeat' split) <;> simp
@[simp] theorem State.frameItem_pending (s : State) (p : Port) (i : RxItem) : (s.frameItem p i).pending = s.pending := by
  unfold State.frameItem State.inHunt State.inBody State.inEscaped
  (repeat' split) <;> simp

@[simp] theorem State.emptyReplies_now (s : State) (p : Port) : (s.emptyReplies p).now = s.now := by
  cases p <;> rfl
@[simp] theorem State.emptyReplies_obs (s : State) (p : Port) : (s.emptyReplies p).obs = s.obs := by
  cases p <;> rfl
@[simp] theorem State.emptyReplies_switches (s : State) (p : Port) : (s.emptyReplies p).switches = s.switches := by
  cases p <;> rfl
@[simp] theorem State.emptyReplies_timers (s : State) (p : Port) : (s.emptyReplies p).timers = s.timers := by
  cases p <;> rfl
@[simp] theorem State.emptyReplies_working (s : State) (p : Port) : (s.emptyReplies p).working = s.working := by
  cases p <;> rfl
@[simp] theorem State.emptyReplies_committed (s : State) (p : Port) : (s.emptyReplies p).committed = s.committed := by
  cases p <;> rfl
@[simp] theorem State.emptyReplies_unsaved (s : State) (p : Port) : (s.emptyReplies p).unsaved = s.unsaved := by
  cases p <;> rfl
@[simp] theorem State.emptyReplies_table (s : State) (p : Port) : (s.emptyReplies p).table = s.table := by
  cases p <;> rfl
@[simp] theorem State.emptyReplies_monitor (s : State) (p : Port) : (s.emptyReplies p).monitor = s.monitor := by
  cases p <;> rfl
@[simp] theorem State.emptyReplies_control (s : State) (p : Port) : (s.emptyReplies p).control = s.control := by
  cases p <;> rfl
@[simp] theorem State.emptyReplies_envelope (s : State) (p : Port) : (s.emptyReplies p).envelope = s.envelope := by
  cases p <;> rfl
@[simp] theorem State.emptyReplies_deferred (s : State) (p : Port) : (s.emptyReplies p).deferred = s.deferred := by
  cases p <;> rfl
@[simp] theorem State.emptyReplies_store (s : State) (p : Port) : (s.emptyReplies p).store = s.store := by
  cases p <;> rfl
@[simp] theorem State.emptyReplies_memory (s : State) (p : Port) : (s.emptyReplies p).memory = s.memory := by
  cases p <;> rfl
@[simp] theorem State.emptyReplies_memoryBusy (s : State) (p : Port) : (s.emptyReplies p).memoryBusy = s.memoryBusy := by
  cases p <;> rfl
@[simp] theorem State.emptyReplies_owed (s : State) (p : Port) : (s.emptyReplies p).owed = s.owed := by
  cases p <;> rfl
@[simp] theorem State.emptyReplies_pending (s : State) (p : Port) : (s.emptyReplies p).pending = s.pending := by
  cases p <;> rfl

@[simp] theorem State.breakLink_now (s : State) (p : Port) : (s.breakLink p).now = s.now := by
  simp only [State.breakLink]; split <;> simp
@[simp] theorem State.breakLink_switches (s : State) (p : Port) : (s.breakLink p).switches = s.switches := by
  simp only [State.breakLink]; split <;> simp
@[simp] theorem State.breakLink_working (s : State) (p : Port) : (s.breakLink p).working = s.working := by
  simp only [State.breakLink]; split <;> simp
@[simp] theorem State.breakLink_committed (s : State) (p : Port) : (s.breakLink p).committed = s.committed := by
  simp only [State.breakLink]; split <;> simp
@[simp] theorem State.breakLink_unsaved (s : State) (p : Port) : (s.breakLink p).unsaved = s.unsaved := by
  simp only [State.breakLink]; split <;> simp
@[simp] theorem State.breakLink_monitor (s : State) (p : Port) : (s.breakLink p).monitor = s.monitor := by
  simp only [State.breakLink]; split <;> simp
@[simp] theorem State.breakLink_control (s : State) (p : Port) : (s.breakLink p).control = s.control := by
  simp only [State.breakLink]; split <;> simp
@[simp] theorem State.breakLink_envelope (s : State) (p : Port) : (s.breakLink p).envelope = s.envelope := by
  simp only [State.breakLink]; split <;> simp
@[simp] theorem State.breakLink_deferred (s : State) (p : Port) : (s.breakLink p).deferred = s.deferred := by
  simp only [State.breakLink]; split <;> simp
@[simp] theorem State.breakLink_store (s : State) (p : Port) : (s.breakLink p).store = s.store := by
  simp only [State.breakLink]; split <;> simp
@[simp] theorem State.breakLink_memory (s : State) (p : Port) : (s.breakLink p).memory = s.memory := by
  simp only [State.breakLink]; split <;> simp
@[simp] theorem State.breakLink_memoryBusy (s : State) (p : Port) : (s.breakLink p).memoryBusy = s.memoryBusy := by
  simp only [State.breakLink]; split <;> simp
@[simp] theorem State.breakLink_pending (s : State) (p : Port) : (s.breakLink p).pending = s.pending := by
  simp only [State.breakLink]; split <;> simp

@[simp] theorem State.silence_now (s : State) (p : Port) : (s.silence p).now = s.now := by
  unfold State.silence; split <;> simp
@[simp] theorem State.silence_replies (s : State) (p : Port) : (s.silence p).replies = s.replies := by
  unfold State.silence; split <;> simp
@[simp] theorem State.silence_switches (s : State) (p : Port) : (s.silence p).switches = s.switches := by
  unfold State.silence; split <;> simp
@[simp] theorem State.silence_timers (s : State) (p : Port) : (s.silence p).timers = s.timers := by
  unfold State.silence; split <;> simp
@[simp] theorem State.silence_working (s : State) (p : Port) : (s.silence p).working = s.working := by
  unfold State.silence; split <;> simp
@[simp] theorem State.silence_committed (s : State) (p : Port) : (s.silence p).committed = s.committed := by
  unfold State.silence; split <;> simp
@[simp] theorem State.silence_unsaved (s : State) (p : Port) : (s.silence p).unsaved = s.unsaved := by
  unfold State.silence; split <;> simp
@[simp] theorem State.silence_monitor (s : State) (p : Port) : (s.silence p).monitor = s.monitor := by
  unfold State.silence; split <;> simp
@[simp] theorem State.silence_control (s : State) (p : Port) : (s.silence p).control = s.control := by
  unfold State.silence; split <;> simp
@[simp] theorem State.silence_envelope (s : State) (p : Port) : (s.silence p).envelope = s.envelope := by
  unfold State.silence; split <;> simp
@[simp] theorem State.silence_deferred (s : State) (p : Port) : (s.silence p).deferred = s.deferred := by
  unfold State.silence; split <;> simp
@[simp] theorem State.silence_store (s : State) (p : Port) : (s.silence p).store = s.store := by
  unfold State.silence; split <;> simp
@[simp] theorem State.silence_memory (s : State) (p : Port) : (s.silence p).memory = s.memory := by
  unfold State.silence; split <;> simp
@[simp] theorem State.silence_memoryBusy (s : State) (p : Port) : (s.silence p).memoryBusy = s.memoryBusy := by
  unfold State.silence; split <;> simp
@[simp] theorem State.silence_pending (s : State) (p : Port) : (s.silence p).pending = s.pending := by
  unfold State.silence; split <;> simp

@[simp] theorem State.sendPart_now (s : State) : (s.sendPart).now = s.now := by
  unfold State.sendPart; (repeat' split) <;> simp
@[simp] theorem State.sendPart_obs (s : State) : (s.sendPart).obs = s.obs := by
  unfold State.sendPart; (repeat' split) <;> simp
@[simp] theorem State.sendPart_switches (s : State) : (s.sendPart).switches = s.switches := by
  unfold State.sendPart; (repeat' split) <;> simp
@[simp] theorem State.sendPart_timers (s : State) : (s.sendPart).timers = s.timers := by
  unfold State.sendPart; (repeat' split) <;> simp
@[simp] theorem State.sendPart_working (s : State) : (s.sendPart).working = s.working := by
  unfold State.sendPart; (repeat' split) <;> simp
@[simp] theorem State.sendPart_committed (s : State) : (s.sendPart).committed = s.committed := by
  unfold State.sendPart; (repeat' split) <;> simp
@[simp] theorem State.sendPart_unsaved (s : State) : (s.sendPart).unsaved = s.unsaved := by
  unfold State.sendPart; (repeat' split) <;> simp
@[simp] theorem State.sendPart_table (s : State) : (s.sendPart).table = s.table := by
  unfold State.sendPart; (repeat' split) <;> simp
@[simp] theorem State.sendPart_monitor (s : State) : (s.sendPart).monitor = s.monitor := by
  unfold State.sendPart; (repeat' split) <;> simp
@[simp] theorem State.sendPart_control (s : State) : (s.sendPart).control = s.control := by
  unfold State.sendPart; (repeat' split) <;> simp
@[simp] theorem State.sendPart_envelope (s : State) : (s.sendPart).envelope = s.envelope := by
  unfold State.sendPart; (repeat' split) <;> simp
@[simp] theorem State.sendPart_deferred (s : State) : (s.sendPart).deferred = s.deferred := by
  unfold State.sendPart; (repeat' split) <;> simp
@[simp] theorem State.sendPart_store (s : State) : (s.sendPart).store = s.store := by
  unfold State.sendPart; (repeat' split) <;> simp
@[simp] theorem State.sendPart_memory (s : State) : (s.sendPart).memory = s.memory := by
  unfold State.sendPart; (repeat' split) <;> simp
@[simp] theorem State.sendPart_memoryBusy (s : State) : (s.sendPart).memoryBusy = s.memoryBusy := by
  unfold State.sendPart; (repeat' split) <;> simp
@[simp] theorem State.sendPart_owed (s : State) : (s.sendPart).owed = s.owed := by
  unfold State.sendPart; (repeat' split) <;> simp
@[simp] theorem State.sendPart_pending (s : State) : (s.sendPart).pending = s.pending := by
  unfold State.sendPart; (repeat' split) <;> simp

@[simp] theorem State.check_now (s : State) : (s.check).now = s.now := by
  simp [State.check]
@[simp] theorem State.check_ports (s : State) : (s.check).ports = s.ports := by
  simp [State.check]
@[simp] theorem State.check_replies (s : State) : (s.check).replies = s.replies := by
  simp [State.check]
@[simp] theorem State.check_obs (s : State) : (s.check).obs = s.obs := by
  simp [State.check]
@[simp] theorem State.check_switches (s : State) : (s.check).switches = s.switches := by
  simp [State.check]
@[simp] theorem State.check_timers (s : State) : (s.check).timers = s.timers := by
  simp [State.check]
@[simp] theorem State.check_working (s : State) : (s.check).working = s.working := by
  simp [State.check]
@[simp] theorem State.check_committed (s : State) : (s.check).committed = s.committed := by
  simp [State.check]
@[simp] theorem State.check_unsaved (s : State) : (s.check).unsaved = s.unsaved := by
  simp [State.check]
@[simp] theorem State.check_control (s : State) : (s.check).control = s.control := by
  simp [State.check]
@[simp] theorem State.check_envelope (s : State) : (s.check).envelope = s.envelope := by
  simp [State.check]
@[simp] theorem State.check_deferred (s : State) : (s.check).deferred = s.deferred := by
  simp [State.check]
@[simp] theorem State.check_store (s : State) : (s.check).store = s.store := by
  simp [State.check]
@[simp] theorem State.check_memory (s : State) : (s.check).memory = s.memory := by
  simp [State.check]
@[simp] theorem State.check_memoryBusy (s : State) : (s.check).memoryBusy = s.memoryBusy := by
  simp [State.check]
@[simp] theorem State.check_pending (s : State) : (s.check).pending = s.pending := by
  simp [State.check]

@[simp] theorem State.envelopeEvent_now (s : State) : (s.envelopeEvent).now = s.now := by
  unfold State.envelopeEvent; split <;> rfl
@[simp] theorem State.envelopeEvent_replies (s : State) : (s.envelopeEvent).replies = s.replies := by
  unfold State.envelopeEvent; split <;> rfl
@[simp] theorem State.envelopeEvent_obs (s : State) : (s.envelopeEvent).obs = s.obs := by
  unfold State.envelopeEvent; split <;> rfl
@[simp] theorem State.envelopeEvent_switches (s : State) : (s.envelopeEvent).switches = s.switches := by
  unfold State.envelopeEvent; split <;> rfl
@[simp] theorem State.envelopeEvent_timers (s : State) : (s.envelopeEvent).timers = s.timers := by
  unfold State.envelopeEvent; split <;> rfl
@[simp] theorem State.envelopeEvent_working (s : State) : (s.envelopeEvent).working = s.working := by
  unfold State.envelopeEvent; split <;> rfl
@[simp] theorem State.envelopeEvent_committed (s : State) : (s.envelopeEvent).committed = s.committed := by
  unfold State.envelopeEvent; split <;> rfl
@[simp] theorem State.envelopeEvent_unsaved (s : State) : (s.envelopeEvent).unsaved = s.unsaved := by
  unfold State.envelopeEvent; split <;> rfl
@[simp] theorem State.envelopeEvent_table (s : State) : (s.envelopeEvent).table = s.table := by
  unfold State.envelopeEvent; split <;> rfl
@[simp] theorem State.envelopeEvent_monitor (s : State) : (s.envelopeEvent).monitor = s.monitor := by
  unfold State.envelopeEvent; split <;> rfl
@[simp] theorem State.envelopeEvent_control (s : State) : (s.envelopeEvent).control = s.control := by
  unfold State.envelopeEvent; split <;> rfl
@[simp] theorem State.envelopeEvent_deferred (s : State) : (s.envelopeEvent).deferred = s.deferred := by
  unfold State.envelopeEvent; split <;> rfl
@[simp] theorem State.envelopeEvent_store (s : State) : (s.envelopeEvent).store = s.store := by
  unfold State.envelopeEvent; split <;> rfl
@[simp] theorem State.envelopeEvent_memory (s : State) : (s.envelopeEvent).memory = s.memory := by
  unfold State.envelopeEvent; split <;> rfl
@[simp] theorem State.envelopeEvent_memoryBusy (s : State) : (s.envelopeEvent).memoryBusy = s.memoryBusy := by
  unfold State.envelopeEvent; split <;> rfl
@[simp] theorem State.envelopeEvent_owed (s : State) : (s.envelopeEvent).owed = s.owed := by
  unfold State.envelopeEvent; split <;> rfl
@[simp] theorem State.envelopeEvent_pending (s : State) : (s.envelopeEvent).pending = s.pending := by
  unfold State.envelopeEvent; split <;> rfl

@[simp] theorem State.beginLatch_now (s : State) : (s.beginLatch).now = s.now := rfl
@[simp] theorem State.beginLatch_ports (s : State) : (s.beginLatch).ports = s.ports := rfl
@[simp] theorem State.beginLatch_replies (s : State) : (s.beginLatch).replies = s.replies := rfl
@[simp] theorem State.beginLatch_obs (s : State) : (s.beginLatch).obs = s.obs := rfl
@[simp] theorem State.beginLatch_switches (s : State) : (s.beginLatch).switches = s.switches := rfl
@[simp] theorem State.beginLatch_timers (s : State) : (s.beginLatch).timers = s.timers := rfl
@[simp] theorem State.beginLatch_working (s : State) : (s.beginLatch).working = s.working := rfl
@[simp] theorem State.beginLatch_committed (s : State) : (s.beginLatch).committed = s.committed := rfl
@[simp] theorem State.beginLatch_unsaved (s : State) : (s.beginLatch).unsaved = s.unsaved := rfl
@[simp] theorem State.beginLatch_table (s : State) : (s.beginLatch).table = s.table := rfl
@[simp] theorem State.beginLatch_monitor (s : State) : (s.beginLatch).monitor = s.monitor := rfl
@[simp] theorem State.beginLatch_control (s : State) : (s.beginLatch).control = s.control := rfl
@[simp] theorem State.beginLatch_envelope (s : State) : (s.beginLatch).envelope = s.envelope := rfl
@[simp] theorem State.beginLatch_deferred (s : State) : (s.beginLatch).deferred = s.deferred := rfl
@[simp] theorem State.beginLatch_memory (s : State) : (s.beginLatch).memory = s.memory := rfl
@[simp] theorem State.beginLatch_memoryBusy (s : State) : (s.beginLatch).memoryBusy = s.memoryBusy := rfl
@[simp] theorem State.beginLatch_owed (s : State) : (s.beginLatch).owed = s.owed := rfl
@[simp] theorem State.beginLatch_pending (s : State) : (s.beginLatch).pending = s.pending := rfl

@[simp] theorem State.beginPending_now (s : State) : (s.beginPending).now = s.now := by
  unfold State.beginPending; (repeat' split) <;> simp
@[simp] theorem State.beginPending_ports (s : State) : (s.beginPending).ports = s.ports := by
  unfold State.beginPending; (repeat' split) <;> simp
@[simp] theorem State.beginPending_replies (s : State) : (s.beginPending).replies = s.replies := by
  unfold State.beginPending; (repeat' split) <;> simp
@[simp] theorem State.beginPending_obs (s : State) : (s.beginPending).obs = s.obs := by
  unfold State.beginPending; (repeat' split) <;> simp
@[simp] theorem State.beginPending_switches (s : State) : (s.beginPending).switches = s.switches := by
  unfold State.beginPending; (repeat' split) <;> simp
@[simp] theorem State.beginPending_timers (s : State) : (s.beginPending).timers = s.timers := by
  unfold State.beginPending; (repeat' split) <;> simp
@[simp] theorem State.beginPending_working (s : State) : (s.beginPending).working = s.working := by
  unfold State.beginPending; (repeat' split) <;> simp
@[simp] theorem State.beginPending_committed (s : State) : (s.beginPending).committed = s.committed := by
  unfold State.beginPending; (repeat' split) <;> simp
@[simp] theorem State.beginPending_unsaved (s : State) : (s.beginPending).unsaved = s.unsaved := by
  unfold State.beginPending; (repeat' split) <;> simp
@[simp] theorem State.beginPending_table (s : State) : (s.beginPending).table = s.table := by
  unfold State.beginPending; (repeat' split) <;> simp
@[simp] theorem State.beginPending_monitor (s : State) : (s.beginPending).monitor = s.monitor := by
  unfold State.beginPending; (repeat' split) <;> simp
@[simp] theorem State.beginPending_control (s : State) : (s.beginPending).control = s.control := by
  unfold State.beginPending; (repeat' split) <;> simp
@[simp] theorem State.beginPending_envelope (s : State) : (s.beginPending).envelope = s.envelope := by
  unfold State.beginPending; (repeat' split) <;> simp
@[simp] theorem State.beginPending_deferred (s : State) : (s.beginPending).deferred = s.deferred := by
  unfold State.beginPending; (repeat' split) <;> simp
@[simp] theorem State.beginPending_memory (s : State) : (s.beginPending).memory = s.memory := by
  unfold State.beginPending; (repeat' split) <;> simp
@[simp] theorem State.beginPending_memoryBusy (s : State) : (s.beginPending).memoryBusy = s.memoryBusy := by
  unfold State.beginPending; (repeat' split) <;> simp
@[simp] theorem State.beginPending_owed (s : State) : (s.beginPending).owed = s.owed := by
  unfold State.beginPending; (repeat' split) <;> simp
@[simp] theorem State.beginPending_pending (s : State) : (s.beginPending).pending = s.pending := by
  unfold State.beginPending; (repeat' split) <;> simp

@[simp] theorem State.endOperation_now (s : State) : (s.endOperation).now = s.now := by
  simp [State.endOperation]
@[simp] theorem State.endOperation_ports (s : State) : (s.endOperation).ports = s.ports := by
  simp [State.endOperation]
@[simp] theorem State.endOperation_replies (s : State) : (s.endOperation).replies = s.replies := by
  simp [State.endOperation]
@[simp] theorem State.endOperation_obs (s : State) : (s.endOperation).obs = s.obs := by
  simp [State.endOperation]
@[simp] theorem State.endOperation_switches (s : State) : (s.endOperation).switches = s.switches := by
  simp [State.endOperation]
@[simp] theorem State.endOperation_timers (s : State) : (s.endOperation).timers = s.timers := by
  simp [State.endOperation]
@[simp] theorem State.endOperation_working (s : State) : (s.endOperation).working = s.working := by
  simp [State.endOperation]
@[simp] theorem State.endOperation_committed (s : State) : (s.endOperation).committed = s.committed := by
  simp [State.endOperation]
@[simp] theorem State.endOperation_unsaved (s : State) : (s.endOperation).unsaved = s.unsaved := by
  simp [State.endOperation]
@[simp] theorem State.endOperation_table (s : State) : (s.endOperation).table = s.table := by
  simp [State.endOperation]
@[simp] theorem State.endOperation_monitor (s : State) : (s.endOperation).monitor = s.monitor := by
  simp [State.endOperation]
@[simp] theorem State.endOperation_control (s : State) : (s.endOperation).control = s.control := by
  simp [State.endOperation]
@[simp] theorem State.endOperation_envelope (s : State) : (s.endOperation).envelope = s.envelope := by
  simp [State.endOperation]
@[simp] theorem State.endOperation_deferred (s : State) : (s.endOperation).deferred = s.deferred := by
  simp [State.endOperation]
@[simp] theorem State.endOperation_memory (s : State) : (s.endOperation).memory = s.memory := by
  simp [State.endOperation]
@[simp] theorem State.endOperation_memoryBusy (s : State) : (s.endOperation).memoryBusy = s.memoryBusy := by
  simp [State.endOperation]
@[simp] theorem State.endOperation_owed (s : State) : (s.endOperation).owed = s.owed := by
  simp [State.endOperation]
@[simp] theorem State.endOperation_pending (s : State) : (s.endOperation).pending = s.pending := by
  simp [State.endOperation]

@[simp] theorem State.handSave_now (s : State) : (s.handSave).now = s.now := by
  simp [State.handSave]
@[simp] theorem State.handSave_ports (s : State) : (s.handSave).ports = s.ports := by
  simp [State.handSave]
@[simp] theorem State.handSave_replies (s : State) : (s.handSave).replies = s.replies := by
  simp [State.handSave]
@[simp] theorem State.handSave_obs (s : State) : (s.handSave).obs = s.obs := by
  simp [State.handSave]
@[simp] theorem State.handSave_switches (s : State) : (s.handSave).switches = s.switches := by
  simp [State.handSave]
@[simp] theorem State.handSave_timers (s : State) : (s.handSave).timers = s.timers := by
  simp [State.handSave]
@[simp] theorem State.handSave_working (s : State) : (s.handSave).working = s.working := by
  simp [State.handSave]
@[simp] theorem State.handSave_committed (s : State) : (s.handSave).committed = s.committed := by
  simp [State.handSave]
@[simp] theorem State.handSave_unsaved (s : State) : (s.handSave).unsaved = s.unsaved := by
  simp [State.handSave]
@[simp] theorem State.handSave_table (s : State) : (s.handSave).table = s.table := by
  simp [State.handSave]
@[simp] theorem State.handSave_monitor (s : State) : (s.handSave).monitor = s.monitor := by
  simp [State.handSave]
@[simp] theorem State.handSave_control (s : State) : (s.handSave).control = s.control := by
  simp [State.handSave]
@[simp] theorem State.handSave_envelope (s : State) : (s.handSave).envelope = s.envelope := by
  simp [State.handSave]
@[simp] theorem State.handSave_deferred (s : State) : (s.handSave).deferred = s.deferred := by
  simp [State.handSave]
@[simp] theorem State.handSave_memory (s : State) : (s.handSave).memory = s.memory := by
  simp [State.handSave]
@[simp] theorem State.handSave_memoryBusy (s : State) : (s.handSave).memoryBusy = s.memoryBusy := by
  simp [State.handSave]
@[simp] theorem State.handSave_owed (s : State) : (s.handSave).owed = s.owed := by
  simp [State.handSave]
@[simp] theorem State.handSave_pending (s : State) : (s.handSave).pending = s.pending := by
  simp [State.handSave]

@[simp] theorem State.handReload_now (s : State) : (s.handReload).now = s.now := by
  simp [State.handReload]
@[simp] theorem State.handReload_ports (s : State) : (s.handReload).ports = s.ports := by
  simp [State.handReload]
@[simp] theorem State.handReload_replies (s : State) : (s.handReload).replies = s.replies := by
  simp [State.handReload]
@[simp] theorem State.handReload_obs (s : State) : (s.handReload).obs = s.obs := by
  simp [State.handReload]
@[simp] theorem State.handReload_switches (s : State) : (s.handReload).switches = s.switches := by
  simp [State.handReload]
@[simp] theorem State.handReload_timers (s : State) : (s.handReload).timers = s.timers := by
  simp [State.handReload]
@[simp] theorem State.handReload_working (s : State) : (s.handReload).working = s.working := by
  simp [State.handReload]
@[simp] theorem State.handReload_committed (s : State) : (s.handReload).committed = s.committed := by
  simp [State.handReload]
@[simp] theorem State.handReload_unsaved (s : State) : (s.handReload).unsaved = s.unsaved := by
  simp [State.handReload]
@[simp] theorem State.handReload_table (s : State) : (s.handReload).table = s.table := by
  simp [State.handReload]
@[simp] theorem State.handReload_monitor (s : State) : (s.handReload).monitor = s.monitor := by
  simp [State.handReload]
@[simp] theorem State.handReload_control (s : State) : (s.handReload).control = s.control := by
  simp [State.handReload]
@[simp] theorem State.handReload_envelope (s : State) : (s.handReload).envelope = s.envelope := by
  simp [State.handReload]
@[simp] theorem State.handReload_deferred (s : State) : (s.handReload).deferred = s.deferred := by
  simp [State.handReload]
@[simp] theorem State.handReload_memory (s : State) : (s.handReload).memory = s.memory := by
  simp [State.handReload]
@[simp] theorem State.handReload_memoryBusy (s : State) : (s.handReload).memoryBusy = s.memoryBusy := by
  simp [State.handReload]
@[simp] theorem State.handReload_owed (s : State) : (s.handReload).owed = s.owed := by
  simp [State.handReload]
@[simp] theorem State.handReload_pending (s : State) : (s.handReload).pending = s.pending := by
  simp [State.handReload]

@[simp] theorem State.replaceCopies_now (s : State) (c : Copy) : (s.replaceCopies c).now = s.now := by
  simp [State.replaceCopies]
@[simp] theorem State.replaceCopies_ports (s : State) (c : Copy) : (s.replaceCopies c).ports = s.ports := by
  simp [State.replaceCopies]
@[simp] theorem State.replaceCopies_replies (s : State) (c : Copy) : (s.replaceCopies c).replies = s.replies := by
  simp [State.replaceCopies]
@[simp] theorem State.replaceCopies_obs (s : State) (c : Copy) : (s.replaceCopies c).obs = s.obs := by
  simp [State.replaceCopies]
@[simp] theorem State.replaceCopies_switches (s : State) (c : Copy) : (s.replaceCopies c).switches = s.switches := by
  simp [State.replaceCopies]
@[simp] theorem State.replaceCopies_monitor (s : State) (c : Copy) : (s.replaceCopies c).monitor = s.monitor := by
  simp [State.replaceCopies]
@[simp] theorem State.replaceCopies_envelope (s : State) (c : Copy) : (s.replaceCopies c).envelope = s.envelope := by
  simp [State.replaceCopies]
@[simp] theorem State.replaceCopies_deferred (s : State) (c : Copy) : (s.replaceCopies c).deferred = s.deferred := by
  simp [State.replaceCopies]
@[simp] theorem State.replaceCopies_store (s : State) (c : Copy) : (s.replaceCopies c).store = s.store := by
  simp [State.replaceCopies]
@[simp] theorem State.replaceCopies_memory (s : State) (c : Copy) : (s.replaceCopies c).memory = s.memory := by
  simp [State.replaceCopies]
@[simp] theorem State.replaceCopies_memoryBusy (s : State) (c : Copy) : (s.replaceCopies c).memoryBusy = s.memoryBusy := by
  simp [State.replaceCopies]
@[simp] theorem State.replaceCopies_pending (s : State) (c : Copy) : (s.replaceCopies c).pending = s.pending := by
  simp [State.replaceCopies]

@[simp] theorem State.loadResults_now (s : State) (i : ImageOutcome) (l : LatchOutcome) : (s.loadResults i l).now = s.now := by
  simp [State.loadResults]
@[simp] theorem State.loadResults_ports (s : State) (i : ImageOutcome) (l : LatchOutcome) : (s.loadResults i l).ports = s.ports := by
  simp [State.loadResults]
@[simp] theorem State.loadResults_replies (s : State) (i : ImageOutcome) (l : LatchOutcome) : (s.loadResults i l).replies = s.replies := by
  simp [State.loadResults]
@[simp] theorem State.loadResults_obs (s : State) (i : ImageOutcome) (l : LatchOutcome) : (s.loadResults i l).obs = s.obs := by
  simp [State.loadResults]
@[simp] theorem State.loadResults_switches (s : State) (i : ImageOutcome) (l : LatchOutcome) : (s.loadResults i l).switches = s.switches := by
  simp [State.loadResults]
@[simp] theorem State.loadResults_monitor (s : State) (i : ImageOutcome) (l : LatchOutcome) : (s.loadResults i l).monitor = s.monitor := by
  simp [State.loadResults]
@[simp] theorem State.loadResults_envelope (s : State) (i : ImageOutcome) (l : LatchOutcome) : (s.loadResults i l).envelope = s.envelope := by
  simp [State.loadResults]
@[simp] theorem State.loadResults_deferred (s : State) (i : ImageOutcome) (l : LatchOutcome) : (s.loadResults i l).deferred = s.deferred := by
  simp [State.loadResults]
@[simp] theorem State.loadResults_memory (s : State) (i : ImageOutcome) (l : LatchOutcome) : (s.loadResults i l).memory = s.memory := by
  simp [State.loadResults]
@[simp] theorem State.loadResults_memoryBusy (s : State) (i : ImageOutcome) (l : LatchOutcome) : (s.loadResults i l).memoryBusy = s.memoryBusy := by
  simp [State.loadResults]
@[simp] theorem State.loadResults_pending (s : State) (i : ImageOutcome) (l : LatchOutcome) : (s.loadResults i l).pending = s.pending := by
  simp [State.loadResults]

@[simp] theorem State.writePage_now (s : State) (a : Nat) (l : List Byte) : (s.writePage a l).now = s.now := by
  simp [State.writePage]
@[simp] theorem State.writePage_ports (s : State) (a : Nat) (l : List Byte) : (s.writePage a l).ports = s.ports := by
  simp [State.writePage]
@[simp] theorem State.writePage_replies (s : State) (a : Nat) (l : List Byte) : (s.writePage a l).replies = s.replies := by
  simp [State.writePage]
@[simp] theorem State.writePage_obs (s : State) (a : Nat) (l : List Byte) : (s.writePage a l).obs = s.obs := by
  simp [State.writePage]
@[simp] theorem State.writePage_switches (s : State) (a : Nat) (l : List Byte) : (s.writePage a l).switches = s.switches := by
  simp [State.writePage]
@[simp] theorem State.writePage_working (s : State) (a : Nat) (l : List Byte) : (s.writePage a l).working = s.working := by
  simp [State.writePage]
@[simp] theorem State.writePage_committed (s : State) (a : Nat) (l : List Byte) : (s.writePage a l).committed = s.committed := by
  simp [State.writePage]
@[simp] theorem State.writePage_unsaved (s : State) (a : Nat) (l : List Byte) : (s.writePage a l).unsaved = s.unsaved := by
  simp [State.writePage]
@[simp] theorem State.writePage_table (s : State) (a : Nat) (l : List Byte) : (s.writePage a l).table = s.table := by
  simp [State.writePage]
@[simp] theorem State.writePage_monitor (s : State) (a : Nat) (l : List Byte) : (s.writePage a l).monitor = s.monitor := by
  simp [State.writePage]
@[simp] theorem State.writePage_control (s : State) (a : Nat) (l : List Byte) : (s.writePage a l).control = s.control := by
  simp [State.writePage]
@[simp] theorem State.writePage_envelope (s : State) (a : Nat) (l : List Byte) : (s.writePage a l).envelope = s.envelope := by
  simp [State.writePage]
@[simp] theorem State.writePage_deferred (s : State) (a : Nat) (l : List Byte) : (s.writePage a l).deferred = s.deferred := by
  simp [State.writePage]
@[simp] theorem State.writePage_store (s : State) (a : Nat) (l : List Byte) : (s.writePage a l).store = s.store := by
  simp [State.writePage]
@[simp] theorem State.writePage_pending (s : State) (a : Nat) (l : List Byte) : (s.writePage a l).pending = s.pending := by
  simp [State.writePage]

@[simp] theorem State.endReported_now (s : State) (d : Delivery) (e : StoreEnd) : (s.endReported d e).now = s.now := by
  simp [State.endReported]
@[simp] theorem State.endReported_ports (s : State) (d : Delivery) (e : StoreEnd) : (s.endReported d e).ports = s.ports := by
  simp [State.endReported]
@[simp] theorem State.endReported_replies (s : State) (d : Delivery) (e : StoreEnd) : (s.endReported d e).replies = s.replies := by
  simp [State.endReported]
@[simp] theorem State.endReported_obs (s : State) (d : Delivery) (e : StoreEnd) : (s.endReported d e).obs = s.obs := by
  simp [State.endReported]
@[simp] theorem State.endReported_switches (s : State) (d : Delivery) (e : StoreEnd) : (s.endReported d e).switches = s.switches := by
  simp [State.endReported]
@[simp] theorem State.endReported_timers (s : State) (d : Delivery) (e : StoreEnd) : (s.endReported d e).timers = s.timers := by
  simp [State.endReported]
@[simp] theorem State.endReported_working (s : State) (d : Delivery) (e : StoreEnd) : (s.endReported d e).working = s.working := by
  simp [State.endReported]
@[simp] theorem State.endReported_committed (s : State) (d : Delivery) (e : StoreEnd) : (s.endReported d e).committed = s.committed := by
  simp [State.endReported]
@[simp] theorem State.endReported_unsaved (s : State) (d : Delivery) (e : StoreEnd) : (s.endReported d e).unsaved = s.unsaved := by
  simp [State.endReported]
@[simp] theorem State.endReported_monitor (s : State) (d : Delivery) (e : StoreEnd) : (s.endReported d e).monitor = s.monitor := by
  simp [State.endReported]
@[simp] theorem State.endReported_control (s : State) (d : Delivery) (e : StoreEnd) : (s.endReported d e).control = s.control := by
  simp [State.endReported]
@[simp] theorem State.endReported_envelope (s : State) (d : Delivery) (e : StoreEnd) : (s.endReported d e).envelope = s.envelope := by
  simp [State.endReported]
@[simp] theorem State.endReported_deferred (s : State) (d : Delivery) (e : StoreEnd) : (s.endReported d e).deferred = s.deferred := by
  simp [State.endReported]
@[simp] theorem State.endReported_memory (s : State) (d : Delivery) (e : StoreEnd) : (s.endReported d e).memory = s.memory := by
  simp [State.endReported]
@[simp] theorem State.endReported_memoryBusy (s : State) (d : Delivery) (e : StoreEnd) : (s.endReported d e).memoryBusy = s.memoryBusy := by
  simp [State.endReported]
@[simp] theorem State.endReported_pending (s : State) (d : Delivery) (e : StoreEnd) : (s.endReported d e).pending = s.pending := by
  simp [State.endReported]

@[simp] theorem State.saveFailed_now (s : State) : (s.saveFailed).now = s.now := by
  simp [State.saveFailed]
@[simp] theorem State.saveFailed_ports (s : State) : (s.saveFailed).ports = s.ports := by
  simp [State.saveFailed]
@[simp] theorem State.saveFailed_replies (s : State) : (s.saveFailed).replies = s.replies := by
  simp [State.saveFailed]
@[simp] theorem State.saveFailed_obs (s : State) : (s.saveFailed).obs = s.obs := by
  simp [State.saveFailed]
@[simp] theorem State.saveFailed_switches (s : State) : (s.saveFailed).switches = s.switches := by
  simp [State.saveFailed]
@[simp] theorem State.saveFailed_timers (s : State) : (s.saveFailed).timers = s.timers := by
  simp [State.saveFailed]
@[simp] theorem State.saveFailed_working (s : State) : (s.saveFailed).working = s.working := by
  simp [State.saveFailed]
@[simp] theorem State.saveFailed_committed (s : State) : (s.saveFailed).committed = s.committed := by
  simp [State.saveFailed]
@[simp] theorem State.saveFailed_unsaved (s : State) : (s.saveFailed).unsaved = s.unsaved := by
  simp [State.saveFailed]
@[simp] theorem State.saveFailed_monitor (s : State) : (s.saveFailed).monitor = s.monitor := by
  simp [State.saveFailed]
@[simp] theorem State.saveFailed_control (s : State) : (s.saveFailed).control = s.control := by
  simp [State.saveFailed]
@[simp] theorem State.saveFailed_envelope (s : State) : (s.saveFailed).envelope = s.envelope := by
  simp [State.saveFailed]
@[simp] theorem State.saveFailed_deferred (s : State) : (s.saveFailed).deferred = s.deferred := by
  simp [State.saveFailed]
@[simp] theorem State.saveFailed_memory (s : State) : (s.saveFailed).memory = s.memory := by
  simp [State.saveFailed]
@[simp] theorem State.saveFailed_memoryBusy (s : State) : (s.saveFailed).memoryBusy = s.memoryBusy := by
  simp [State.saveFailed]
@[simp] theorem State.saveFailed_pending (s : State) : (s.saveFailed).pending = s.pending := by
  simp [State.saveFailed]

@[simp] theorem State.saveMatched_now (s : State) : (s.saveMatched).now = s.now := by
  simp [State.saveMatched]
@[simp] theorem State.saveMatched_ports (s : State) : (s.saveMatched).ports = s.ports := by
  simp [State.saveMatched]
@[simp] theorem State.saveMatched_replies (s : State) : (s.saveMatched).replies = s.replies := by
  simp [State.saveMatched]
@[simp] theorem State.saveMatched_obs (s : State) : (s.saveMatched).obs = s.obs := by
  simp [State.saveMatched]
@[simp] theorem State.saveMatched_switches (s : State) : (s.saveMatched).switches = s.switches := by
  simp [State.saveMatched]
@[simp] theorem State.saveMatched_timers (s : State) : (s.saveMatched).timers = s.timers := by
  simp [State.saveMatched]
@[simp] theorem State.saveMatched_working (s : State) : (s.saveMatched).working = s.working := by
  simp [State.saveMatched]
@[simp] theorem State.saveMatched_monitor (s : State) : (s.saveMatched).monitor = s.monitor := by
  simp [State.saveMatched]
@[simp] theorem State.saveMatched_control (s : State) : (s.saveMatched).control = s.control := by
  simp [State.saveMatched]
@[simp] theorem State.saveMatched_envelope (s : State) : (s.saveMatched).envelope = s.envelope := by
  simp [State.saveMatched]
@[simp] theorem State.saveMatched_deferred (s : State) : (s.saveMatched).deferred = s.deferred := by
  simp [State.saveMatched]
@[simp] theorem State.saveMatched_memory (s : State) : (s.saveMatched).memory = s.memory := by
  simp [State.saveMatched]
@[simp] theorem State.saveMatched_memoryBusy (s : State) : (s.saveMatched).memoryBusy = s.memoryBusy := by
  simp [State.saveMatched]
@[simp] theorem State.saveMatched_pending (s : State) : (s.saveMatched).pending = s.pending := by
  simp [State.saveMatched]

@[simp] theorem State.storeWaited_now (s : State) : (s.storeWaited).now = s.now := by
  unfold State.storeWaited; split <;> simp
@[simp] theorem State.storeWaited_ports (s : State) : (s.storeWaited).ports = s.ports := by
  unfold State.storeWaited; split <;> simp
@[simp] theorem State.storeWaited_replies (s : State) : (s.storeWaited).replies = s.replies := by
  unfold State.storeWaited; split <;> simp
@[simp] theorem State.storeWaited_obs (s : State) : (s.storeWaited).obs = s.obs := by
  unfold State.storeWaited; split <;> simp
@[simp] theorem State.storeWaited_switches (s : State) : (s.storeWaited).switches = s.switches := by
  unfold State.storeWaited; split <;> simp
@[simp] theorem State.storeWaited_timers (s : State) : (s.storeWaited).timers = s.timers := by
  unfold State.storeWaited; split <;> simp
@[simp] theorem State.storeWaited_working (s : State) : (s.storeWaited).working = s.working := by
  unfold State.storeWaited; split <;> simp
@[simp] theorem State.storeWaited_committed (s : State) : (s.storeWaited).committed = s.committed := by
  unfold State.storeWaited; split <;> simp
@[simp] theorem State.storeWaited_unsaved (s : State) : (s.storeWaited).unsaved = s.unsaved := by
  unfold State.storeWaited; split <;> simp
@[simp] theorem State.storeWaited_monitor (s : State) : (s.storeWaited).monitor = s.monitor := by
  unfold State.storeWaited; split <;> simp
@[simp] theorem State.storeWaited_control (s : State) : (s.storeWaited).control = s.control := by
  unfold State.storeWaited; split <;> simp
@[simp] theorem State.storeWaited_envelope (s : State) : (s.storeWaited).envelope = s.envelope := by
  unfold State.storeWaited; split <;> simp
@[simp] theorem State.storeWaited_deferred (s : State) : (s.storeWaited).deferred = s.deferred := by
  unfold State.storeWaited; split <;> simp
@[simp] theorem State.storeWaited_memory (s : State) : (s.storeWaited).memory = s.memory := by
  unfold State.storeWaited; split <;> simp
@[simp] theorem State.storeWaited_pending (s : State) : (s.storeWaited).pending = s.pending := by
  unfold State.storeWaited; split <;> simp

@[simp] theorem State.reloadEnd_now (s : State) (i : ImageOutcome) : (s.reloadEnd i).now = s.now := by
  cases i <;> simp [State.reloadEnd]
@[simp] theorem State.reloadEnd_ports (s : State) (i : ImageOutcome) : (s.reloadEnd i).ports = s.ports := by
  cases i <;> simp [State.reloadEnd]
@[simp] theorem State.reloadEnd_replies (s : State) (i : ImageOutcome) : (s.reloadEnd i).replies = s.replies := by
  cases i <;> simp [State.reloadEnd]
@[simp] theorem State.reloadEnd_obs (s : State) (i : ImageOutcome) : (s.reloadEnd i).obs = s.obs := by
  cases i <;> simp [State.reloadEnd]
@[simp] theorem State.reloadEnd_switches (s : State) (i : ImageOutcome) : (s.reloadEnd i).switches = s.switches := by
  cases i <;> simp [State.reloadEnd]
@[simp] theorem State.reloadEnd_monitor (s : State) (i : ImageOutcome) : (s.reloadEnd i).monitor = s.monitor := by
  cases i <;> simp [State.reloadEnd]
@[simp] theorem State.reloadEnd_envelope (s : State) (i : ImageOutcome) : (s.reloadEnd i).envelope = s.envelope := by
  cases i <;> simp [State.reloadEnd]
@[simp] theorem State.reloadEnd_deferred (s : State) (i : ImageOutcome) : (s.reloadEnd i).deferred = s.deferred := by
  cases i <;> simp [State.reloadEnd]
@[simp] theorem State.reloadEnd_memory (s : State) (i : ImageOutcome) : (s.reloadEnd i).memory = s.memory := by
  cases i <;> simp [State.reloadEnd]
@[simp] theorem State.reloadEnd_memoryBusy (s : State) (i : ImageOutcome) : (s.reloadEnd i).memoryBusy = s.memoryBusy := by
  cases i <;> simp [State.reloadEnd]
@[simp] theorem State.reloadEnd_pending (s : State) (i : ImageOutcome) : (s.reloadEnd i).pending = s.pending := by
  cases i <;> simp [State.reloadEnd]

@[simp] theorem State.enterService_now (s : State) : (s.enterService).now = s.now := by
  simp [State.enterService]
@[simp] theorem State.enterService_ports (s : State) : (s.enterService).ports = s.ports := by
  simp [State.enterService]
@[simp] theorem State.enterService_replies (s : State) : (s.enterService).replies = s.replies := by
  simp [State.enterService]
@[simp] theorem State.enterService_obs (s : State) : (s.enterService).obs = s.obs := by
  simp [State.enterService]
@[simp] theorem State.enterService_switches (s : State) : (s.enterService).switches = s.switches := by
  simp [State.enterService]
@[simp] theorem State.enterService_working (s : State) : (s.enterService).working = s.working := by
  simp [State.enterService]
@[simp] theorem State.enterService_committed (s : State) : (s.enterService).committed = s.committed := by
  simp [State.enterService]
@[simp] theorem State.enterService_unsaved (s : State) : (s.enterService).unsaved = s.unsaved := by
  simp [State.enterService]
@[simp] theorem State.enterService_table (s : State) : (s.enterService).table = s.table := by
  simp [State.enterService]
@[simp] theorem State.enterService_monitor (s : State) : (s.enterService).monitor = s.monitor := by
  simp [State.enterService]
@[simp] theorem State.enterService_envelope (s : State) : (s.enterService).envelope = s.envelope := by
  simp [State.enterService]
@[simp] theorem State.enterService_deferred (s : State) : (s.enterService).deferred = s.deferred := by
  simp [State.enterService]
@[simp] theorem State.enterService_store (s : State) : (s.enterService).store = s.store := by
  simp [State.enterService]
@[simp] theorem State.enterService_memory (s : State) : (s.enterService).memory = s.memory := by
  simp [State.enterService]
@[simp] theorem State.enterService_memoryBusy (s : State) : (s.enterService).memoryBusy = s.memoryBusy := by
  simp [State.enterService]
@[simp] theorem State.enterService_pending (s : State) : (s.enterService).pending = s.pending := by
  simp [State.enterService]

@[simp] theorem State.writeRow_now (s : State) (k : Kind) (r : Row) : (s.writeRow k r).now = s.now := by
  simp [State.writeRow]
@[simp] theorem State.writeRow_ports (s : State) (k : Kind) (r : Row) : (s.writeRow k r).ports = s.ports := by
  simp [State.writeRow]
@[simp] theorem State.writeRow_replies (s : State) (k : Kind) (r : Row) : (s.writeRow k r).replies = s.replies := by
  simp [State.writeRow]
@[simp] theorem State.writeRow_obs (s : State) (k : Kind) (r : Row) : (s.writeRow k r).obs = s.obs := by
  simp [State.writeRow]
@[simp] theorem State.writeRow_switches (s : State) (k : Kind) (r : Row) : (s.writeRow k r).switches = s.switches := by
  simp [State.writeRow]
@[simp] theorem State.writeRow_committed (s : State) (k : Kind) (r : Row) : (s.writeRow k r).committed = s.committed := by
  simp [State.writeRow]
@[simp] theorem State.writeRow_monitor (s : State) (k : Kind) (r : Row) : (s.writeRow k r).monitor = s.monitor := by
  simp [State.writeRow]
@[simp] theorem State.writeRow_envelope (s : State) (k : Kind) (r : Row) : (s.writeRow k r).envelope = s.envelope := by
  simp [State.writeRow]
@[simp] theorem State.writeRow_deferred (s : State) (k : Kind) (r : Row) : (s.writeRow k r).deferred = s.deferred := by
  simp [State.writeRow]
@[simp] theorem State.writeRow_store (s : State) (k : Kind) (r : Row) : (s.writeRow k r).store = s.store := by
  simp [State.writeRow]
@[simp] theorem State.writeRow_memory (s : State) (k : Kind) (r : Row) : (s.writeRow k r).memory = s.memory := by
  simp [State.writeRow]
@[simp] theorem State.writeRow_memoryBusy (s : State) (k : Kind) (r : Row) : (s.writeRow k r).memoryBusy = s.memoryBusy := by
  simp [State.writeRow]
@[simp] theorem State.writeRow_pending (s : State) (k : Kind) (r : Row) : (s.writeRow k r).pending = s.pending := by
  simp [State.writeRow]

@[simp] theorem State.freeSlot_now (s : State) (i : Nat) : (s.freeSlot i).now = s.now := by
  simp only [State.freeSlot]; split <;> simp
@[simp] theorem State.freeSlot_ports (s : State) (i : Nat) : (s.freeSlot i).ports = s.ports := by
  simp only [State.freeSlot]; split <;> simp
@[simp] theorem State.freeSlot_replies (s : State) (i : Nat) : (s.freeSlot i).replies = s.replies := by
  simp only [State.freeSlot]; split <;> simp
@[simp] theorem State.freeSlot_obs (s : State) (i : Nat) : (s.freeSlot i).obs = s.obs := by
  simp only [State.freeSlot]; split <;> simp
@[simp] theorem State.freeSlot_switches (s : State) (i : Nat) : (s.freeSlot i).switches = s.switches := by
  simp only [State.freeSlot]; split <;> simp
@[simp] theorem State.freeSlot_working (s : State) (i : Nat) : (s.freeSlot i).working = s.working := by
  simp only [State.freeSlot]; split <;> simp
@[simp] theorem State.freeSlot_committed (s : State) (i : Nat) : (s.freeSlot i).committed = s.committed := by
  simp only [State.freeSlot]; split <;> simp
@[simp] theorem State.freeSlot_unsaved (s : State) (i : Nat) : (s.freeSlot i).unsaved = s.unsaved := by
  simp only [State.freeSlot]; split <;> simp
@[simp] theorem State.freeSlot_monitor (s : State) (i : Nat) : (s.freeSlot i).monitor = s.monitor := by
  simp only [State.freeSlot]; split <;> simp
@[simp] theorem State.freeSlot_envelope (s : State) (i : Nat) : (s.freeSlot i).envelope = s.envelope := by
  simp only [State.freeSlot]; split <;> simp
@[simp] theorem State.freeSlot_deferred (s : State) (i : Nat) : (s.freeSlot i).deferred = s.deferred := by
  simp only [State.freeSlot]; split <;> simp
@[simp] theorem State.freeSlot_store (s : State) (i : Nat) : (s.freeSlot i).store = s.store := by
  simp only [State.freeSlot]; split <;> simp
@[simp] theorem State.freeSlot_memory (s : State) (i : Nat) : (s.freeSlot i).memory = s.memory := by
  simp only [State.freeSlot]; split <;> simp
@[simp] theorem State.freeSlot_memoryBusy (s : State) (i : Nat) : (s.freeSlot i).memoryBusy = s.memoryBusy := by
  simp only [State.freeSlot]; split <;> simp
@[simp] theorem State.freeSlot_pending (s : State) (i : Nat) : (s.freeSlot i).pending = s.pending := by
  simp only [State.freeSlot]; split <;> simp

@[simp] theorem State.setOverrides_now (s : State) (os : List Override) : (s.setOverrides os).now = s.now := by
  simp [State.setOverrides]
@[simp] theorem State.setOverrides_ports (s : State) (os : List Override) : (s.setOverrides os).ports = s.ports := by
  simp [State.setOverrides]
@[simp] theorem State.setOverrides_replies (s : State) (os : List Override) : (s.setOverrides os).replies = s.replies := by
  simp [State.setOverrides]
@[simp] theorem State.setOverrides_obs (s : State) (os : List Override) : (s.setOverrides os).obs = s.obs := by
  simp [State.setOverrides]
@[simp] theorem State.setOverrides_switches (s : State) (os : List Override) : (s.setOverrides os).switches = s.switches := by
  simp [State.setOverrides]
@[simp] theorem State.setOverrides_working (s : State) (os : List Override) : (s.setOverrides os).working = s.working := by
  simp [State.setOverrides]
@[simp] theorem State.setOverrides_committed (s : State) (os : List Override) : (s.setOverrides os).committed = s.committed := by
  simp [State.setOverrides]
@[simp] theorem State.setOverrides_unsaved (s : State) (os : List Override) : (s.setOverrides os).unsaved = s.unsaved := by
  simp [State.setOverrides]
@[simp] theorem State.setOverrides_table (s : State) (os : List Override) : (s.setOverrides os).table = s.table := by
  simp [State.setOverrides]
@[simp] theorem State.setOverrides_monitor (s : State) (os : List Override) : (s.setOverrides os).monitor = s.monitor := by
  simp [State.setOverrides]
@[simp] theorem State.setOverrides_envelope (s : State) (os : List Override) : (s.setOverrides os).envelope = s.envelope := by
  simp [State.setOverrides]
@[simp] theorem State.setOverrides_deferred (s : State) (os : List Override) : (s.setOverrides os).deferred = s.deferred := by
  simp [State.setOverrides]
@[simp] theorem State.setOverrides_store (s : State) (os : List Override) : (s.setOverrides os).store = s.store := by
  simp [State.setOverrides]
@[simp] theorem State.setOverrides_memory (s : State) (os : List Override) : (s.setOverrides os).memory = s.memory := by
  simp [State.setOverrides]
@[simp] theorem State.setOverrides_memoryBusy (s : State) (os : List Override) : (s.setOverrides os).memoryBusy = s.memoryBusy := by
  simp [State.setOverrides]
@[simp] theorem State.setOverrides_pending (s : State) (os : List Override) : (s.setOverrides os).pending = s.pending := by
  simp [State.setOverrides]

@[simp] theorem State.leaveToStandby_now (s : State) : (s.leaveToStandby).now = s.now := by
  simp [State.leaveToStandby]
@[simp] theorem State.leaveToStandby_ports (s : State) : (s.leaveToStandby).ports = s.ports := by
  simp [State.leaveToStandby]
@[simp] theorem State.leaveToStandby_replies (s : State) : (s.leaveToStandby).replies = s.replies := by
  simp [State.leaveToStandby]
@[simp] theorem State.leaveToStandby_obs (s : State) : (s.leaveToStandby).obs = s.obs := by
  simp [State.leaveToStandby]
@[simp] theorem State.leaveToStandby_switches (s : State) : (s.leaveToStandby).switches = s.switches := by
  simp [State.leaveToStandby]
@[simp] theorem State.leaveToStandby_working (s : State) : (s.leaveToStandby).working = s.working := by
  simp [State.leaveToStandby]
@[simp] theorem State.leaveToStandby_committed (s : State) : (s.leaveToStandby).committed = s.committed := by
  simp [State.leaveToStandby]
@[simp] theorem State.leaveToStandby_unsaved (s : State) : (s.leaveToStandby).unsaved = s.unsaved := by
  simp [State.leaveToStandby]
@[simp] theorem State.leaveToStandby_table (s : State) : (s.leaveToStandby).table = s.table := by
  simp [State.leaveToStandby]
@[simp] theorem State.leaveToStandby_monitor (s : State) : (s.leaveToStandby).monitor = s.monitor := by
  simp [State.leaveToStandby]
@[simp] theorem State.leaveToStandby_envelope (s : State) : (s.leaveToStandby).envelope = s.envelope := by
  simp [State.leaveToStandby]
@[simp] theorem State.leaveToStandby_deferred (s : State) : (s.leaveToStandby).deferred = s.deferred := by
  simp [State.leaveToStandby]
@[simp] theorem State.leaveToStandby_store (s : State) : (s.leaveToStandby).store = s.store := by
  simp [State.leaveToStandby]
@[simp] theorem State.leaveToStandby_memory (s : State) : (s.leaveToStandby).memory = s.memory := by
  simp [State.leaveToStandby]
@[simp] theorem State.leaveToStandby_memoryBusy (s : State) : (s.leaveToStandby).memoryBusy = s.memoryBusy := by
  simp [State.leaveToStandby]
@[simp] theorem State.leaveToStandby_pending (s : State) : (s.leaveToStandby).pending = s.pending := by
  simp [State.leaveToStandby]

@[simp] theorem State.idleLeave_now (s : State) : (s.idleLeave).now = s.now := by
  simp [State.idleLeave]
@[simp] theorem State.idleLeave_ports (s : State) : (s.idleLeave).ports = s.ports := by
  simp [State.idleLeave]
@[simp] theorem State.idleLeave_replies (s : State) : (s.idleLeave).replies = s.replies := by
  simp [State.idleLeave]
@[simp] theorem State.idleLeave_obs (s : State) : (s.idleLeave).obs = s.obs := by
  simp [State.idleLeave]
@[simp] theorem State.idleLeave_switches (s : State) : (s.idleLeave).switches = s.switches := by
  simp [State.idleLeave]
@[simp] theorem State.idleLeave_committed (s : State) : (s.idleLeave).committed = s.committed := by
  simp [State.idleLeave]
@[simp] theorem State.idleLeave_monitor (s : State) : (s.idleLeave).monitor = s.monitor := by
  simp [State.idleLeave]
@[simp] theorem State.idleLeave_envelope (s : State) : (s.idleLeave).envelope = s.envelope := by
  simp [State.idleLeave]
@[simp] theorem State.idleLeave_deferred (s : State) : (s.idleLeave).deferred = s.deferred := by
  simp [State.idleLeave]
@[simp] theorem State.idleLeave_memory (s : State) : (s.idleLeave).memory = s.memory := by
  simp [State.idleLeave]
@[simp] theorem State.idleLeave_memoryBusy (s : State) : (s.idleLeave).memoryBusy = s.memoryBusy := by
  simp [State.idleLeave]
@[simp] theorem State.idleLeave_pending (s : State) : (s.idleLeave).pending = s.pending := by
  simp [State.idleLeave]

@[simp] theorem State.shutDown_now (s : State) : (s.shutDown).now = s.now := by
  simp [State.shutDown]
@[simp] theorem State.shutDown_ports (s : State) : (s.shutDown).ports = s.ports := by
  simp [State.shutDown]
@[simp] theorem State.shutDown_replies (s : State) : (s.shutDown).replies = s.replies := by
  simp [State.shutDown]
@[simp] theorem State.shutDown_obs (s : State) : (s.shutDown).obs = s.obs := by
  simp [State.shutDown]
@[simp] theorem State.shutDown_switches (s : State) : (s.shutDown).switches = s.switches := by
  simp [State.shutDown]
@[simp] theorem State.shutDown_working (s : State) : (s.shutDown).working = s.working := by
  simp [State.shutDown]
@[simp] theorem State.shutDown_committed (s : State) : (s.shutDown).committed = s.committed := by
  simp [State.shutDown]
@[simp] theorem State.shutDown_unsaved (s : State) : (s.shutDown).unsaved = s.unsaved := by
  simp [State.shutDown]
@[simp] theorem State.shutDown_table (s : State) : (s.shutDown).table = s.table := by
  simp [State.shutDown]
@[simp] theorem State.shutDown_monitor (s : State) : (s.shutDown).monitor = s.monitor := by
  simp [State.shutDown]
@[simp] theorem State.shutDown_envelope (s : State) : (s.shutDown).envelope = s.envelope := by
  simp [State.shutDown]
@[simp] theorem State.shutDown_deferred (s : State) : (s.shutDown).deferred = s.deferred := by
  simp [State.shutDown]
@[simp] theorem State.shutDown_store (s : State) : (s.shutDown).store = s.store := by
  simp [State.shutDown]
@[simp] theorem State.shutDown_memory (s : State) : (s.shutDown).memory = s.memory := by
  simp [State.shutDown]
@[simp] theorem State.shutDown_memoryBusy (s : State) : (s.shutDown).memoryBusy = s.memoryBusy := by
  simp [State.shutDown]
@[simp] theorem State.shutDown_pending (s : State) : (s.shutDown).pending = s.pending := by
  simp [State.shutDown]

@[simp] theorem State.wakeFell_now (s : State) : (s.wakeFell).now = s.now := by
  unfold State.wakeFell; split <;> simp
@[simp] theorem State.wakeFell_ports (s : State) : (s.wakeFell).ports = s.ports := by
  unfold State.wakeFell; split <;> simp
@[simp] theorem State.wakeFell_replies (s : State) : (s.wakeFell).replies = s.replies := by
  unfold State.wakeFell; split <;> simp
@[simp] theorem State.wakeFell_obs (s : State) : (s.wakeFell).obs = s.obs := by
  unfold State.wakeFell; split <;> simp
@[simp] theorem State.wakeFell_switches (s : State) : (s.wakeFell).switches = s.switches := by
  unfold State.wakeFell; split <;> simp
@[simp] theorem State.wakeFell_committed (s : State) : (s.wakeFell).committed = s.committed := by
  unfold State.wakeFell; split <;> simp
@[simp] theorem State.wakeFell_monitor (s : State) : (s.wakeFell).monitor = s.monitor := by
  unfold State.wakeFell; split <;> simp
@[simp] theorem State.wakeFell_envelope (s : State) : (s.wakeFell).envelope = s.envelope := by
  unfold State.wakeFell; split <;> simp
@[simp] theorem State.wakeFell_deferred (s : State) : (s.wakeFell).deferred = s.deferred := by
  unfold State.wakeFell; split <;> simp
@[simp] theorem State.wakeFell_memory (s : State) : (s.wakeFell).memory = s.memory := by
  unfold State.wakeFell; split <;> simp
@[simp] theorem State.wakeFell_memoryBusy (s : State) : (s.wakeFell).memoryBusy = s.memoryBusy := by
  unfold State.wakeFell; split <;> simp
@[simp] theorem State.wakeFell_pending (s : State) : (s.wakeFell).pending = s.pending := by
  unfold State.wakeFell; split <;> simp

@[simp] theorem State.takeStoreEnd_now (s : State) (e : StoreEnd) : (s.takeStoreEnd e).now = s.now := by
  simp only [State.takeStoreEnd]; split <;> simp
@[simp] theorem State.takeStoreEnd_obs (s : State) (e : StoreEnd) : (s.takeStoreEnd e).obs = s.obs := by
  simp only [State.takeStoreEnd]; split <;> simp
@[simp] theorem State.takeStoreEnd_switches (s : State) (e : StoreEnd) : (s.takeStoreEnd e).switches = s.switches := by
  simp only [State.takeStoreEnd]; split <;> simp
@[simp] theorem State.takeStoreEnd_timers (s : State) (e : StoreEnd) : (s.takeStoreEnd e).timers = s.timers := by
  simp only [State.takeStoreEnd]; split <;> simp
@[simp] theorem State.takeStoreEnd_working (s : State) (e : StoreEnd) : (s.takeStoreEnd e).working = s.working := by
  simp only [State.takeStoreEnd]; split <;> simp
@[simp] theorem State.takeStoreEnd_committed (s : State) (e : StoreEnd) : (s.takeStoreEnd e).committed = s.committed := by
  simp only [State.takeStoreEnd]; split <;> simp
@[simp] theorem State.takeStoreEnd_unsaved (s : State) (e : StoreEnd) : (s.takeStoreEnd e).unsaved = s.unsaved := by
  simp only [State.takeStoreEnd]; split <;> simp
@[simp] theorem State.takeStoreEnd_table (s : State) (e : StoreEnd) : (s.takeStoreEnd e).table = s.table := by
  simp only [State.takeStoreEnd]; split <;> simp
@[simp] theorem State.takeStoreEnd_monitor (s : State) (e : StoreEnd) : (s.takeStoreEnd e).monitor = s.monitor := by
  simp only [State.takeStoreEnd]; split <;> simp
@[simp] theorem State.takeStoreEnd_control (s : State) (e : StoreEnd) : (s.takeStoreEnd e).control = s.control := by
  simp only [State.takeStoreEnd]; split <;> simp
@[simp] theorem State.takeStoreEnd_envelope (s : State) (e : StoreEnd) : (s.takeStoreEnd e).envelope = s.envelope := by
  simp only [State.takeStoreEnd]; split <;> simp
@[simp] theorem State.takeStoreEnd_memory (s : State) (e : StoreEnd) : (s.takeStoreEnd e).memory = s.memory := by
  simp only [State.takeStoreEnd]; split <;> simp
@[simp] theorem State.takeStoreEnd_memoryBusy (s : State) (e : StoreEnd) : (s.takeStoreEnd e).memoryBusy = s.memoryBusy := by
  simp only [State.takeStoreEnd]; split <;> simp
@[simp] theorem State.takeStoreEnd_owed (s : State) (e : StoreEnd) : (s.takeStoreEnd e).owed = s.owed := by
  simp only [State.takeStoreEnd]; split <;> simp
@[simp] theorem State.takeStoreEnd_pending (s : State) (e : StoreEnd) : (s.takeStoreEnd e).pending = s.pending := by
  simp only [State.takeStoreEnd]; split <;> simp

end Sys2Proof.Machine
end

