-- ==== Sys2Proof/Laws/Memory.lean ====
section
/-! SUPPORT. The external memory: what a read finds after a write, and that every write keeps the canonical form. -/

namespace Sys2Proof.Machine

open Sys2Proof

theorem Memory.wfFrom_mono {m : Memory} {a b : Nat} (h : Memory.wfFrom b m = true) (hab : a ≤ b) :
    Memory.wfFrom a m = true := by
  cases m with
  | nil => rfl
  | cons c rest =>
    obtain ⟨x, v⟩ := c
    simp only [Memory.wfFrom, Bool.and_eq_true, decide_eq_true_eq] at h ⊢
    exact ⟨⟨⟨by omega, h.1.1.2⟩, h.1.2⟩, h.2⟩

theorem Memory.wfFrom_cons {m : Memory} {low a : Nat} {v : Byte} (h : Memory.wfFrom (a + 1) m = true)
    (hl : low ≤ a) (ha : a < Config.memorySize) : Memory.wfFrom low (Memory.cons a v m) = true := by
  unfold Memory.cons
  split
  · exact Memory.wfFrom_mono h (by omega)
  · simp [Memory.wfFrom, *]

theorem Memory.wfFrom_write {m : Memory} {low a : Nat} {v : Byte} (h : Memory.wfFrom low m = true)
    (hl : low ≤ a) (ha : a < Config.memorySize) : Memory.wfFrom low (m.write a v) = true := by
  induction m generalizing low with
  | nil => exact Memory.wfFrom_cons rfl hl ha
  | cons c rest ih =>
    obtain ⟨x, b⟩ := c
    simp only [Memory.wfFrom, Bool.and_eq_true, decide_eq_true_eq] at h
    unfold Memory.write
    split
    · refine Memory.wfFrom_cons ?_ hl ha
      simp only [Memory.wfFrom, Bool.and_eq_true, decide_eq_true_eq]
      exact ⟨⟨⟨by omega, h.1.1.2⟩, h.1.2⟩, h.2⟩
    · split
      · subst_vars; exact Memory.wfFrom_cons h.2 hl ha
      · simp only [Memory.wfFrom, Bool.and_eq_true, decide_eq_true_eq]
        exact ⟨h.1, ih h.2 (by omega)⟩

/-- A write inside the memory keeps the canonical form. -/
theorem Memory.wf_write {m : Memory} {a : Nat} {v : Byte} (h : m.wf = true) (ha : a < Config.memorySize) :
    (m.write a v).wf = true := Memory.wfFrom_write h (Nat.zero_le _) ha

/-- A run of writes inside the memory keeps the canonical form. -/
theorem Memory.wf_writeAll {m : Memory} {a : Nat} {l : List Byte} (h : m.wf = true)
    (ha : a + l.length ≤ Config.memorySize) : (m.writeAll a l).wf = true := by
  induction l generalizing m a with
  | nil => exact h
  | cons b bs ih =>
    simp only [List.length_cons] at ha
    exact ih (Memory.wf_write h (by omega)) (by omega)

/-- Addresses strictly rising from at least `low`: what the reads need of the canonical form. -/
def Memory.Rising : Nat → Memory → Prop
  | _, [] => True
  | low, (x, _) :: rest => low ≤ x ∧ Memory.Rising (x + 1) rest

theorem Memory.Rising.mono {m : Memory} {a b : Nat} (h : Memory.Rising b m) (hab : a ≤ b) : Memory.Rising a m := by
  cases m with
  | nil => trivial
  | cons c rest => exact ⟨Nat.le_trans hab h.1, h.2⟩

theorem Memory.rising_of_wfFrom {m : Memory} {low : Nat} (h : Memory.wfFrom low m = true) : Memory.Rising low m := by
  induction m generalizing low with
  | nil => trivial
  | cons c rest ih =>
    simp only [Memory.wfFrom, Bool.and_eq_true, decide_eq_true_eq] at h
    exact ⟨h.1.1.1, ih h.2⟩

/-- Nothing is listed below the lowest address. -/
theorem Memory.Rising.read_below {m : Memory} {low y : Nat} (h : Memory.Rising low m) (hy : y < low) :
    m.read y = Config.erased := by
  induction m generalizing low with
  | nil => rfl
  | cons c rest ih =>
    have hc := h.1
    have : y ≠ c.1 := by omega
    simp only [Memory.read, if_neg this]
    exact ih h.2 (by omega)

theorem Memory.Rising.cons {m : Memory} {low a : Nat} {v : Byte} (h : Memory.Rising (a + 1) m) (hl : low ≤ a) :
    Memory.Rising low (Memory.cons a v m) := by
  unfold Memory.cons
  split
  · exact h.mono (by omega)
  · exact ⟨hl, h⟩

theorem Memory.Rising.read_cons {m : Memory} {a : Nat} (h : Memory.Rising (a + 1) m) (v : Byte) (x : Nat) :
    (Memory.cons a v m).read x = if x = a then v else m.read x := by
  unfold Memory.cons
  split
  · split
    · subst_vars; exact h.read_below (by omega)
    · rfl
  · rfl

/-- What one write does to a memory with rising addresses: they still rise, and a read finds the byte written or what
was there. -/
theorem Memory.Rising.write {m : Memory} {low a : Nat} (h : Memory.Rising low m) (hl : low ≤ a) (v : Byte) :
    Memory.Rising low (m.write a v) ∧ ∀ x, (m.write a v).read x = if x = a then v else m.read x := by
  induction m generalizing low with
  | nil => exact ⟨Memory.Rising.cons (m := []) trivial hl, Memory.Rising.read_cons (m := []) trivial v⟩
  | cons c rest ih =>
    obtain ⟨z, b⟩ := c
    have hz := h.1
    have hr := h.2
    unfold Memory.write
    split
    · have hc : Memory.Rising (a + 1) ((z, b) :: rest) := ⟨by omega, hr⟩
      exact ⟨hc.cons hl, hc.read_cons v⟩
    · split
      · subst_vars
        refine ⟨Memory.Rising.cons hr hl, fun x => ?_⟩
        rw [Memory.Rising.read_cons hr]
        simp only [Memory.read]
        split <;> rfl
      · obtain ⟨h1, h2⟩ := ih hr (by omega)
        refine ⟨⟨hz, h1⟩, fun x => ?_⟩
        simp only [Memory.read, h2]
        split
        · split
          · omega
          · rfl
        · rfl

theorem Memory.Rising.writeAll {m : Memory} (h : Memory.Rising 0 m) (a : Nat) (l : List Byte) :
    Memory.Rising 0 (m.writeAll a l) := by
  induction l generalizing m a with
  | nil => exact h
  | cons b bs ih => exact ih (h.write (Nat.zero_le _) b).1 (a + 1)

/-- A read after a run of writes, where the addresses rise: the byte written, or what was there. -/
theorem Memory.Rising.read_writeAll {m : Memory} (h : Memory.Rising 0 m) (a : Nat) (l : List Byte) (x : Nat) :
    (m.writeAll a l).read x = if a ≤ x ∧ x < a + l.length then l.getD (x - a) 0#8 else m.read x := by
  induction l generalizing m a with
  | nil =>
    have : ¬ (a ≤ x ∧ x < a + ([] : List Byte).length) := by simp
    simp only [Memory.writeAll, if_neg this]
  | cons b bs ih =>
    obtain ⟨h1, h2⟩ := h.write (Nat.zero_le a) b
    rw [Memory.writeAll, ih h1 (a + 1), h2, List.length_cons]
    by_cases hx : x = a
    · have h1 : ¬ (a + 1 ≤ x ∧ x < a + 1 + bs.length) := by omega
      have h2 : a ≤ x ∧ x < a + (bs.length + 1) := by omega
      rw [if_neg h1, if_pos hx, if_pos h2, hx, Nat.sub_self]
      rfl
    · by_cases h1 : a + 1 ≤ x ∧ x < a + 1 + bs.length
      · have h2 : a ≤ x ∧ x < a + (bs.length + 1) := by omega
        have h3 : x - a = (x - (a + 1)) + 1 := by omega
        rw [if_pos h1, if_pos h2, h3]
        rfl
      · have h2 : ¬ (a ≤ x ∧ x < a + (bs.length + 1)) := by omega
        rw [if_neg h1, if_neg h2, if_neg hx]

/-- A read after a write to a canonical memory: the byte written, or what was there (10 R176). -/
theorem Memory.read_write {m : Memory} (h : m.wf = true) (a : Nat) (v : Byte) (x : Nat) :
    (m.write a v).read x = if x = a then v else m.read x :=
  ((Memory.rising_of_wfFrom h).write (Nat.zero_le a) v).2 x

/-- A read after a run of writes to a canonical memory, wherever they go: the byte written, or what was there (10 R176). -/
theorem Memory.read_writeAll {m : Memory} (h : m.wf = true) (a : Nat) (l : List Byte) (x : Nat) :
    (m.writeAll a l).read x = if a ≤ x ∧ x < a + l.length then l.getD (x - a) 0#8 else m.read x :=
  (Memory.rising_of_wfFrom h).read_writeAll a l x

theorem Memory.readAll_length (m : Memory) (a n : Nat) : (m.readAll a n).length = n := by
  induction n generalizing a with
  | zero => rfl
  | succ n ih => simp [Memory.readAll, ih]

theorem returnedBytes_length (m : Memory) (l : List Host.Cell) (a n : Nat) :
    (returnedBytes m l a n).length = n := by
  induction n generalizing a with
  | zero => rfl
  | succ n ih => simp [returnedBytes, ih]

/-- A read whose bytes are not altered returns what the memory holds (10 R176). -/
theorem returnedBytes_nil (m : Memory) (a n : Nat) : returnedBytes m [] a n = m.readAll a n := by
  induction n generalizing a with
  | zero => rfl
  | succ n ih => simp [returnedBytes, Memory.readAll, returnedByte, ih]

end Sys2Proof.Machine
end

