-- ==== Sys2Proof/Laws/Ops.lean ====
section
/-! SUPPORT. What each shared operation can do, said once: the ports, the timers, a delivery, a recomputation, the
DRIVE test, a gather's end, an entry to STANDBY, and the step. -/

namespace Sys2Proof.Machine

open Sys2Proof

/-! ## Ports, timers and the state -/

@[simp] theorem Ports.get_set (x : Ports) (p : Port) (y : LinkPort) : (x.set p y).get p = y := by cases p <;> rfl

theorem Ports.get_set_ne (x : Ports) (p q : Port) (y : LinkPort) (h : q ≠ p) : (x.set p y).get q = x.get q := by
  cases p <;> cases q <;> first | rfl | exact absurd rfl h

@[simp] theorem Ports.set_set (x : Ports) (p : Port) (y z : LinkPort) : (x.set p y).set p z = x.set p z := by
  cases p <;> rfl

@[simp] theorem Ports.set_get (x : Ports) (p : Port) : x.set p (x.get p) = x := by cases p <;> rfl

@[simp] theorem Timers.get_set (t : Timers) (c : Chan) (x : Channel) : (t.set c x).get c = x := by cases c <;> rfl

theorem Timers.get_set_ne (t : Timers) (c d : Chan) (x : Channel) (h : d ≠ c) : (t.set c x).get d = t.get d := by
  cases c <;> cases d <;> first | rfl | exact absurd rfl h

theorem State.port_eq (s : State) (p : Port) : s.port p = s.ports.get p := rfl

/-- Two states with equal fields are equal. -/
theorem State.ext_fields {a b : State} (h1 : a.now = b.now) (h2 : a.ports = b.ports) (h3 : a.replies = b.replies) (h4 : a.obs = b.obs)
  (h5 : a.switches = b.switches) (h6 : a.timers = b.timers) (h7 : a.working = b.working) (h8 : a.committed = b.committed)
  (h9 : a.unsaved = b.unsaved) (h10 : a.table = b.table) (h11 : a.monitor = b.monitor) (h12 : a.control = b.control)
  (h13 : a.envelope = b.envelope) (h14 : a.deferred = b.deferred) (h15 : a.store = b.store) (h16 : a.memory = b.memory)
  (h17 : a.memoryBusy = b.memoryBusy) (h18 : a.owed = b.owed) (h19 : a.pending = b.pending) : a = b := by
  cases a; cases b; simp_all

/-! ## Deliveries -/

/-- A delivery's table depends on the table, the working copy and the time alone. -/
theorem State.deliver_table_eq (s : State) (d : Delivery) :
    (s.deliver d).table = (s.table.deliver s.working s.now d).table := rfl

/-- A delivery adds to what is owed the announcement and the request it makes. -/
theorem State.deliver_owed_eq (s : State) (d : Delivery) :
    (s.deliver d).owed = s.owed ++ (s.table.deliver s.working s.now d).owes := rfl

/-- What deliveries make of the table depends on the table, the working copy and the time alone. -/
theorem State.deliverAll_table_congr {s t : State} (ds : List Delivery) (h : s.table = t.table)
    (hw : s.working = t.working) (hn : s.now = t.now) : (s.deliverAll ds).table = (t.deliverAll ds).table := by
  induction ds generalizing s t with
  | nil => exact h
  | cons d ds ih => exact ih (by rw [State.deliver_table_eq, State.deliver_table_eq, h, hw, hn]) hw hn

/-! ## A recomputation (07 R112, R117 to R126) -/

@[simp] theorem State.rampFor_applied (s : State) (a b : Level) :
    (s.rampFor a b).control.applied = s.control.applied := by
  unfold State.rampFor; repeat' split
  all_goals rfl

theorem Drive.restrict_eq {t a : Drive} : t.restrict a =
    Drive.mk (if a.level.rank < t.level.rank then t.level else a.level) (min a.derate t.derate) (a.isoFront || t.isoFront) (a.isoRear || t.isoRear)
      t.regenInhibit t.packOpen := rfl

theorem Level.rank_inj {a b : Level} (h : a.rank = b.rank) : a = b := by cases a <;> cases b <;> simp_all [Level.rank]

/-- With the gate open the applied state becomes the target (R117, R118). -/
theorem Drive.follow_open {t a : Drive} : t.follow a true = t := by
  unfold Drive.follow
  simp only [Bool.and_true]
  split
  · rfl
  · rename_i h
    simp only [Drive.holdsRelaxation, Bool.or_eq_true, decide_eq_true_eq, not_or] at h
    obtain ⟨⟨⟨h1, h2⟩, h3⟩, h4⟩ := h
    rw [Drive.restrict_eq] at *
    rcases t with ⟨tl, td, tf, tr, ti, tp⟩
    rcases a with ⟨al, ad, af, ar, ai, ap⟩
    simp only [Drive.mk.injEq] at *
    refine ⟨?_, by omega, ?_, ?_, by trivial, by trivial⟩
    · apply Level.rank_inj; split at h1 <;> split <;> (simp_all; try omega)
    · cases af <;> cases tf <;> simp_all
    · cases ar <;> cases tr <;> simp_all

theorem Observations.gateOpen_iff (o : Observations) :
    o.gateOpen = true ↔ o.cockpit.fresh = true ∧ o.cockpit.demand = 0 := by
  simp [Observations.gateOpen]

/-- Putting expiries out of force leaves the isolation notices owed. -/
theorem Owed.voided_isolation (c : Chan) (l : List Owed) (m : Motor) (e : Bool) :
    Owed.isolation m e ∈ l.map (Owed.voided c) ↔ Owed.isolation m e ∈ l := by
  simp only [List.mem_map]
  constructor
  · rintro ⟨x, hx, h⟩; cases x <;> simp [Owed.voided] at h; obtain ⟨rfl, rfl⟩ := h; exact hx
  · intro h; exact ⟨_, h, rfl⟩

/-- The ramp at a change of the applied level: it starts on entry to HALT and is stopped on leaving HALT (R120,
R123). -/
theorem State.rampFor_spec (s : State) (a b : Level) :
    (a ≠ .halt → b = .halt → (s.rampFor a b).control.ramp = true
      ∧ (s.rampFor a b).timers = s.timers.set .haltRamp ⟨.running, s.working.params.haltRamp, 0⟩)
    ∧ (a = .halt → b ≠ .halt → (s.rampFor a b).control.ramp = false
      ∧ (s.control.ramp = true →
          (s.rampFor a b).timers = s.timers.set .haltRamp { s.timers.haltRamp with state := .stopped, phase := 0 })
      ∧ (s.control.ramp = false → (s.rampFor a b).timers = s.timers))
    ∧ ((a = .halt ↔ b = .halt) → s.rampFor a b = s)
    ∧ (∀ m e, Owed.isolation m e ∈ (s.rampFor a b).owed ↔ Owed.isolation m e ∈ s.owed)
    ∧ (s.rampFor a b).control = { s.control with ramp := (s.rampFor a b).control.ramp } := by
  unfold State.rampFor
  refine ⟨?_, ?_, ?_, ?_, ?_⟩
  · intro h1 h2; simp [h1, h2, State.start, State.operate, Channel.start, Chan.reloadValue]
  · intro h1 h2; simp [h1, h2]; cases h : s.control.ramp <;> simp [State.stop, State.operate, Channel.stop, h, Timers.get]
  · intro h
    by_cases ha : a = .halt <;> simp_all
  · intro m e; repeat' split
    · exact Owed.voided_isolation _ _ _ _
    · exact Owed.voided_isolation _ _ _ _
    · rfl
  · repeat' split
    all_goals rfl

@[simp] theorem State.apply_applied (s : State) (a : Drive) : (s.apply a).control.applied = a := by
  simp [State.apply, State.setLines, Control.setLines]

/-- What follows a new applied state is what `State.AppliedFollows` describes. -/
theorem State.apply_follows (s : State) (a : Drive) : s.AppliedFollows (s.apply a) := by
  obtain ⟨k1, k2, k3, k4, k5⟩ := State.rampFor_spec { s with control := { s.control with applied := a } }
    s.control.applied.level a.level
  have hr : (s.apply a).control.ramp = (State.rampFor { s with control := { s.control with applied := a } }
    s.control.applied.level a.level).control.ramp := by simp only [State.apply, State.setLines, Control.setLines, State.owe]
  have ht : (s.apply a).timers = (State.rampFor { s with control := { s.control with applied := a } }
    s.control.applied.level a.level).timers := by simp only [State.apply, State.setLines, State.owe]
  refine ⟨?_, ?_, ?_, ?_, ?_, ?_, ?_, ?_⟩ <;> (try rw [State.apply_applied])
  · intro h1 h2; rw [hr, ht]; exact k1 h1 h2
  · intro h1 h2; rw [hr, ht]; exact k2 h1 h2
  · intro h
    have := k3 h
    simp [State.apply, State.setLines, Control.setLines, this, State.owe]
  · simp [State.apply, State.setLines, Control.setLines, Control.permitLine, Drive.isolated]
  · simp [State.apply, State.setLines, Control.setLines, Control.permitLine, Drive.isolated]
  · simp [State.apply, State.setLines, Control.setLines]
  · simp [State.apply, State.setLines, Control.setLines, Control.warnLine, FaultTable.anyLatched]
  · intro m e
    simp only [State.apply, State.setLines, State.owe, List.mem_append]
    rw [k4]
    apply or_congr_right
    cases m <;> simp [isolationNotices, isolationNoticeOf]

/-- The state a recomputation gives is the one `State.Recomputes` describes. -/
theorem State.recomputeCore_spec (s : State) : s.Recomputes s.recomputeCore := by
  let t := targetFor s.control.chip s.working s.table s.control.overrides
  let a := t.follow s.control.applied s.obs.gateOpen
  have hf := State.apply_follows { s with control := { s.control with target := t } } a
  have hap : s.recomputeCore.control.applied = a := State.apply_applied _ _
  have htg : s.recomputeCore.control.target = t := by
    simp [State.recomputeCore, State.apply, State.setLines, Control.setLines, State.rampFor, t]
    split <;> (try split) <;> rfl
  refine ⟨⟨hf.rampStart, hf.rampStop, hf.rampStays, hf.permitFront, hf.permitRear, hf.packLine, hf.warnLine,
    hf.notices⟩, htg, ?_, ?_, ?_⟩
  · intro h1 h2; rw [hap, htg]; simp only [a, (Observations.gateOpen_iff _).2 ⟨h1, h2⟩, Drive.follow_open]
  · intro h; rw [hap, htg]
    have : s.obs.gateOpen = false := by
      rw [← Bool.not_eq_true, Observations.gateOpen_iff]; exact h
    simp [a, this, Drive.follow, Drive.restrict_eq]
  · have k5 := (State.rampFor_spec { s with control := { s.control with target := t, applied := a } }
      s.control.applied.level a.level).2.2.2.2
    apply State.ext_fields <;> simp
    simp only [State.recomputeCore, State.apply, State.setLines, Control.setLines, State.owe]
    rw [k5]

@[simp] theorem State.recomputeCore_chip (s : State) : s.recomputeCore.control.chip = s.control.chip := by
  rw [(State.recomputeCore_spec s).rest]

@[simp] theorem State.recomputeCore_gatherDone (s : State) :
    s.recomputeCore.control.gatherDone = s.control.gatherDone := by
  rw [(State.recomputeCore_spec s).rest]

@[simp] theorem State.recomputeCore_awake (s : State) : s.recomputeCore.control.awake = s.control.awake := by
  rw [(State.recomputeCore_spec s).rest]

@[simp] theorem State.recomputeCore_overrides (s : State) :
    s.recomputeCore.control.overrides = s.control.overrides := by
  rw [(State.recomputeCore_spec s).rest]

/-- A recomputation leaves the applied state nowhere less restrictive than the target (R117). -/
theorem State.Recomputes.covers {s t : State} (h : s.Recomputes t) :
    t.control.applied.Covers t.control.target := by
  by_cases hg : s.obs.cockpit.fresh = true ∧ s.obs.cockpit.demand = 0
  · rw [h.released hg.1 hg.2]; constructor <;> simp
  · rw [h.held hg]; constructor <;> simp <;> try tauto
    · split <;> omega

/-- A recomputation moves no channel but HALT_RAMP. -/
theorem State.Recomputes.timers_get {s t : State} (h : s.Recomputes t) (c : Chan) (hc : c ≠ .haltRamp) :
    t.timers.get c = s.timers.get c := by
  by_cases h1 : s.control.applied.level = .halt <;> by_cases h2 : t.control.applied.level = .halt
  · rw [(h.rampStays (by tauto)).2]
  · have := h.rampStop h1 h2
    cases hr : s.control.ramp
    · rw [this.2.2 hr]
    · rw [this.2.1 hr, Timers.get_set_ne _ _ _ _ hc]
  · rw [(h.rampStart h1 h2).2, Timers.get_set_ne _ _ _ _ hc]
  · rw [(h.rampStays (by tauto)).2]

/-! ## The DRIVE test, the end of a gather and the entry to STANDBY (07 R105 to R108) -/

theorem State.driveTest_iff (s : State) (g : Bool) : driveTest s.ports g = true ↔ s.DriveTestHolds g := by
  simp only [driveTest, State.DriveTestHolds, LinkPort.isUp, Bool.and_eq_true, Bool.or_eq_true, beq_iff_eq]
  tauto

/-- A DRIVE test that holds in STANDBY enters DRIVE (R106). -/
theorem State.testDrive_enters {s : State} (h : s.control.chip = .standby)
    (h' : s.DriveTestHolds s.control.gatherDone) : s.EntersDrive s.testDrive := by
  have := (State.driveTest_iff _ _).2 h'
  simp only [State.testDrive, h, this, and_self, if_true]
  exact State.recomputeCore_spec _

/-- A DRIVE test outside STANDBY, or one that fails, changes nothing (R106). -/
theorem State.testDrive_stays {s : State}
    (h : s.control.chip ≠ .standby ∨ ¬ s.DriveTestHolds s.control.gatherDone) : s.testDrive = s := by
  have := State.driveTest_iff s s.control.gatherDone
  simp only [State.testDrive]
  rw [if_neg]; tauto

/-- An event taken that is one given event is the first of its kind erased. -/
theorem State.took_eq_erase (s : State) (o : Owed) :
    s.took (· == o) = { s with owed := s.owed.erase o } := by
  simp only [State.took]; congr 1
  rw [List.erase_eq_eraseP]; congr 1; funext x; exact Bool.beq_comm

theorem State.gatherFinished_spec (s : State) : s.FinishesGather s.gatherFinished := by
  refine ⟨_, _, State.recomputeCore_spec s, rfl, ?_, ?_⟩
  · intro h1 h2; exact State.testDrive_enters (by simpa using h1) (by simpa using h2)
  · intro h; exact State.testDrive_stays (by simpa using h)

theorem State.start_timers (s : State) (c : Chan) :
    (s.start c).timers = s.timers.set c ⟨.running, c.reloadValue s.working.params, 0⟩ := rfl

/-- What an entry to STANDBY leaves: STANDBY with a new gather, or DRIVE at once when the DRIVE test holds, with the
target recomputed in that chip state (R105, R106, R112). -/
theorem State.enterStandby_spec (s t : State) (e : t = s.enterStandby) :
    (s.DriveTestHolds false → t.control.chip = .drive ∧ (t.timers.get .gather).state = .stopped)
    ∧ (¬ s.DriveTestHolds false → t.control.chip = .standby
        ∧ t.timers.get .gather = ⟨.running, s.working.params.gatherTime, 0⟩)
    ∧ t.control.gatherDone = false ∧ t.control.overrides = s.control.overrides
    ∧ t.control.awake = s.control.awake
    ∧ t.control.target = targetFor t.control.chip s.working s.table s.control.overrides
    ∧ t.control.applied.Covers t.control.target
    ∧ (s.obs.gateOpen = true → t.control.applied = t.control.target)
    ∧ ∀ c, c ≠ .haltRamp → c ≠ .gather → t.timers.get c = s.timers.get c := by
  simp only [State.enterStandby, State.recompute] at e
  set y : State := { s with
    control := { s.control with chip := .standby, gatherDone := false }
    owed := s.owed.map Owed.gatherOver } with hy
  set x := y.start .gather with hx
  have hr := State.recomputeCore_spec x
  have xg : x.timers.get .gather = ⟨.running, s.working.params.gatherTime, 0⟩ := rfl
  have xc : ∀ c, c ≠ .gather → x.timers.get c = s.timers.get c := by
    intro c hc; rw [hx, State.start_timers, Timers.get_set_ne _ _ _ _ hc]
  have hD : x.recomputeCore.DriveTestHolds x.recomputeCore.control.gatherDone ↔ s.DriveTestHolds false := by
    simp [State.DriveTestHolds, hx, hy]
  have hg : s.obs.gateOpen = true → x.obs.cockpit.fresh = true ∧ x.obs.cockpit.demand = 0 :=
    fun h => (Observations.gateOpen_iff _).1 (by simpa [hx, hy] using h)
  by_cases h : s.DriveTestHolds false
  · have hd := State.testDrive_enters (s := x.recomputeCore) (by simp [hx, hy]) (hD.2 h)
    rw [← e] at hd
    have hc : t.control.chip = .drive := congrArg (fun z : State => z.control.chip) hd.rest
    refine ⟨fun _ => ⟨hc, ?_⟩, fun hn => absurd h hn, ?_, ?_, ?_, ?_, hd.covers, ?_, ?_⟩
    · rw [hd.timers_get _ (by decide)]; rfl
    · exact (congrArg (fun z : State => z.control.gatherDone) hd.rest).trans (by simp [hx, hy, State.setChip])
    · exact (congrArg (fun z : State => z.control.overrides) hd.rest).trans (by simp [hx, hy, State.setChip])
    · exact (congrArg (fun z : State => z.control.awake) hd.rest).trans (by simp [hx, hy, State.setChip])
    · rw [hd.target, hc]; simp [State.setChip, hx, hy]
    · intro h'
      exact hd.released (by simpa [State.setChip] using (hg h').1) (by simpa [State.setChip] using (hg h').2)
    · intro c h1 h2; rw [hd.timers_get _ h1]
      simp [State.stop, State.operate, State.setChip, Timers.get_set_ne _ _ _ _ h2, hr.timers_get _ h1, xc _ h2]
  · have hd := State.testDrive_stays (s := x.recomputeCore) (by rw [hD]; exact .inr h)
    rw [← e] at hd
    rw [hd]
    refine ⟨fun hn => absurd hn h, fun _ => ⟨by simp [hx, hy], ?_⟩, by simp [hx, hy], by simp [hx, hy],
      by simp [hx, hy], ?_, hr.covers, ?_, ?_⟩
    · rw [hr.timers_get _ (by decide), xg]
    · rw [hr.target]; simp [hx, hy]
    · intro h'; exact hr.released (hg h').1 (hg h').2
    · intro c h1 h2; rw [hr.timers_get _ h1, xc _ h2]

/-! ## The step -/

/-- An invariant that no change of the queue spoils and every command keeps is kept by every step. -/
theorem step_keeps {I : State → Prop} (hq : ∀ (s : State) (q : List Instr), I s → I { s with pending := q })
    (h : ∀ (c : Instr) (s t : State), I s → exec c s = .next t → I t) (s t : State) (hs : I s)
    (hst : step s = .next t) : I t := by
  unfold step at hst
  split at hst
  · cases hst; exact hs
  · exact h _ _ _ (hq _ _ hs) hst

end Sys2Proof.Machine
end

