-- ==== Sys2Proof/Laws/Store.lean ====
section
/-! SUPPORT. The store controller's bus (10 R176): which transaction each step has, what its end does, and that a
memory that writes acknowledges nothing. -/

namespace Sys2Proof.Machine

open Sys2Proof

/-! ## The transaction in progress -/

@[simp] theorem Store.bus_loadImage {x : Store} (h : x.op = .loadImage) : x.bus = some (.sequentialRead 0 232) := by
  unfold Store.bus; rw [h]; rfl

@[simp] theorem Store.bus_saveReadback {x : Store} (h : x.op = .saveReadback) :
    x.bus = some (.sequentialRead 0 232) := by
  unfold Store.bus; rw [h]; rfl

@[simp] theorem Store.bus_reloadRead {x : Store} (h : x.op = .reloadRead) : x.bus = some (.sequentialRead 0 232) := by
  unfold Store.bus; rw [h]; rfl

@[simp] theorem Store.bus_loadLatches {x : Store} {i : ImageOutcome} (h : x.op = .loadLatches i) :
    x.bus = some (.sequentialRead 512 27) := by
  unfold Store.bus; rw [h]; rfl

@[simp] theorem Store.bus_savePage {x : Store} {n : Nat} (h : x.op = .savePage n) :
    x.bus = some (.pageWrite (32 * n) (pageBytes x.imageBuffer n)) := by
  unfold Store.bus; rw [h]; rfl

@[simp] theorem Store.bus_latchPage {x : Store} (h : x.op = .latchPage) :
    x.bus = some (.pageWrite 512 x.latchBuffer) := by
  unfold Store.bus; rw [h]; rfl

@[simp] theorem Store.bus_idle {x : Store} (h : x.op = .none) : x.bus = none := by
  unfold Store.bus; rw [h]

@[simp] theorem Store.bus_saveWait {x : Store} {n : Nat} (h : x.op = .saveWait n) : x.bus = none := by
  unfold Store.bus; rw [h]

@[simp] theorem Store.bus_latchWait {x : Store} (h : x.op = .latchWait) : x.bus = none := by
  unfold Store.bus; rw [h]

/-- Whether a transaction is in progress depends on the operation's step alone. -/
theorem Store.bus_isSome_congr {x y : Store} (h : x.op = y.op) : x.bus.isSome = y.bus.isSome := by
  unfold Store.bus; rw [h]; cases y.op <;> rfl

/-! ## Its beginning -/

/-- A step begun is refused exactly when it has a transaction and the memory is writing. -/
theorem State.setOp_refused (s : State) (o : StoreOp) :
    (s.setOp o).store.refused = true ↔ (s.setOp o).store.bus.isSome = true ∧ 0 < s.memoryBusy := by
  have h : (s.setOp o).store.bus.isSome = (Store.bus { s.store with op := o }).isSome := Store.bus_isSome_congr rfl
  rw [h, ← decide_eq_true_eq (p := 0 < s.memoryBusy), ← Bool.and_eq_true]
  rfl

/-- A free controller begins what is pending with the memory as it finds it: one that is left alone, or one that
has begun a transaction as `setOp` begins it. -/
theorem State.beginPending_cases (s : State) :
    s.beginPending = s ∨ ∃ u o, s.beginPending = State.setOp u o ∧ u.memoryBusy = s.memoryBusy := by
  unfold State.beginPending
  (repeat' split) <;> first
    | exact .inl rfl
    | exact .inr ⟨_, _, rfl, rfl⟩

/-- What an ended operation leaves on the bus: no transaction, or one refused exactly when the memory writes. -/
theorem State.endOperation_refused (s : State) :
    s.endOperation.store.refused = true ↔ s.endOperation.store.bus.isSome = true ∧ 0 < s.memoryBusy := by
  unfold State.endOperation
  rcases (s.setOp .none).beginPending_cases with h | ⟨u, o, h, hb⟩
  · rw [h]; exact s.setOp_refused .none
  · rw [h, State.setOp_refused, hb]; rfl

/-! ## Its end -/

/-- A refused read brings nothing, whatever its end carries. -/
theorem State.readBus_refused {s : State} (h : s.store.refused = true) (r : BusRead) : s.readBus r = none := by
  unfold State.readBus; rw [if_pos h]

/-- A read that is not acknowledged brings nothing. -/
theorem State.readBus_noAcknowledge (s : State) : s.readBus .noAcknowledge = none := by
  unfold State.readBus; split
  · rfl
  · split <;> simp_all

/-- A read that the memory answers brings the bytes of its transaction. -/
theorem State.readBus_returned {s : State} {a n : Nat} (hr : s.store.refused = false)
    (hb : s.store.bus = some (.sequentialRead a n)) (altered : List Host.Cell) :
    s.readBus (.returned altered) = some (returnedBytes s.memory altered a n) := by
  unfold State.readBus; rw [hb, hr]; rfl

/-- A page write that the memory refused was not acknowledged. -/
theorem Store.acknowledged_refused {x : Store} (h : x.refused = true) (ack : Bool) : x.acknowledged ack = false := by
  simp [Store.acknowledged, h]

/-- A page write that the memory did not refuse was acknowledged as its end says. -/
theorem Store.acknowledged_open {x : Store} (h : x.refused = false) (ack : Bool) : x.acknowledged ack = ack := by
  simp [Store.acknowledged, h]

/-- The page write in progress puts its data at its address. -/
theorem State.completeWrite_eq {s : State} {a : Nat} {l : List Byte} (h : s.store.bus = some (.pageWrite a l)) :
    s.completeWrite = s.writePage a l := by
  unfold State.completeWrite; rw [h]

/-! ## Its interruption (10 R187, R188) -/

/-- A transfer that can be cut short is a page write that the memory has not refused: of a SAVE with its whole page, of
a LATCH_WRITE with the 27 bytes of the list. -/
theorem Store.transfer_eq_some {x : Store} {a n : Nat} :
    x.transfer = some (a, n) ↔ x.refused = false ∧
      ((∃ k, x.op = .savePage k ∧ a = 32 * k ∧ n = 32) ∨ (x.op = .latchPage ∧ a = 512 ∧ n = 27)) := by
  unfold Store.transfer
  rcases x.refused with _ | _ <;> cases x.op <;>
    simp [Config.pageSize, Config.latchBase, Config.latchLength, eq_comm]

/-- Outside a page write, or in one that the memory refused, an interruption leaves the memory as it was. -/
theorem memoryAfterCut_idle {x : Store} {m : Memory} {torn : Option (List Byte)} (h : torn = none ∨ x.transfer = none) :
    memoryAfterCut x m torn = m := by
  unfold memoryAfterCut
  rcases h with rfl | h
  · split <;> simp_all
  · rw [h]

/-- What a cut page transfer leaves: the bytes it is told of from the transfer's first address on, and every other byte
as it was. -/
theorem memoryAfterCut_read {x : Store} {m : Memory} (hm : m.wf = true) {base n : Nat}
    (h : x.transfer = some (base, n)) (l : List Byte) (a : Nat) :
    (memoryAfterCut x m (some l)).read a
      = if base ≤ a ∧ a < base + min n l.length then l.getD (a - base) 0#8 else m.read a := by
  unfold memoryAfterCut
  rw [h]
  simp only [Memory.read_writeAll hm, List.length_take]
  split
  · rename_i hc
    have h1 : a - base < n := by omega
    simp [List.getD, h1]
  · rfl

end Sys2Proof.Machine
end

