-- ==== Sys2Proof/Laws/Table.lean ====
section
/-! SUPPORT. The fault table: every event of chapter 5 keeps what `FaultTable.Ok` says, and what an event
hands on. -/

namespace Sys2Proof.Machine

open Sys2Proof

/-! ## Records -/

theorem bumpTo_le (top n : Nat) : bumpTo top n ≤ top := by unfold bumpTo; split <;> omega

theorem bumpTo_pos {top : Nat} (h : 1 ≤ top) (n : Nat) : 1 ≤ bumpTo top n := by
  unfold bumpTo; split <;> omega

theorem bump_le (n : Nat) : bump n ≤ Config.counterMax := by
  unfold bump; split <;> omega

/-- The pair of a record. -/
def FaultRecord.pairOf (r : FaultRecord) : FaultUnit × Kind := (r.unit, r.kind)

theorem holdsPair_iff (u : FaultUnit) (k : Kind) (o : Option FaultRecord) :
    holdsPair u k o = true ↔ ∃ r, o = some r ∧ r.pairOf = (u, k) := by
  cases o <;> simp [holdsPair, FaultRecord.pairOf]

theorem FaultRecord.confirm_ok {row : Row} {now : Time} {r : FaultRecord}
    (hp : allowedPair r.unit r.kind = true) (ha : r.age ≤ Config.counterMax)
    (he : r.escalated = true → r.policy = .workshop) : (r.confirm row now).Ok where
  pair := hp
  run := by simp [FaultRecord.confirm]
  occ := by simp [FaultRecord.confirm]; exact bumpTo_le 15 _
  age := ha
  escalated := by
    intro h
    simp only [FaultRecord.confirm, Bool.or_eq_true] at h ⊢
    split
    · rfl
    · next hn => exact he (h.resolve_right hn)
  confirmed := by
    intro _
    exact ⟨bumpTo_pos (by omega) _, by simp [FaultRecord.confirm]⟩
  clearing := by simp [FaultRecord.confirm]
  latched := by simp [FaultRecord.confirm]

theorem FaultRecord.withRowPolicy_escalated {row : Row} {r : FaultRecord}
    (h : r.escalated = true → r.policy = .workshop) :
    (r.withRowPolicy row).escalated = true → (r.withRowPolicy row).policy = .workshop := by
  unfold FaultRecord.withRowPolicy
  split
  · exact h
  · simp_all

@[simp] theorem FaultRecord.withRowPolicy_unit (row : Row) (r : FaultRecord) : (r.withRowPolicy row).unit = r.unit := by
  unfold FaultRecord.withRowPolicy; split <;> rfl
@[simp] theorem FaultRecord.withRowPolicy_kind (row : Row) (r : FaultRecord) : (r.withRowPolicy row).kind = r.kind := by
  unfold FaultRecord.withRowPolicy; split <;> rfl
@[simp] theorem FaultRecord.withRowPolicy_state (row : Row) (r : FaultRecord) : (r.withRowPolicy row).state = r.state := by
  unfold FaultRecord.withRowPolicy; split <;> rfl
@[simp] theorem FaultRecord.withRowPolicy_run (row : Row) (r : FaultRecord) : (r.withRowPolicy row).run = r.run := by
  unfold FaultRecord.withRowPolicy; split <;> rfl
@[simp] theorem FaultRecord.withRowPolicy_occurrences (row : Row) (r : FaultRecord) :
    (r.withRowPolicy row).occurrences = r.occurrences := by unfold FaultRecord.withRowPolicy; split <;> rfl
@[simp] theorem FaultRecord.withRowPolicy_age (row : Row) (r : FaultRecord) : (r.withRowPolicy row).age = r.age := by
  unfold FaultRecord.withRowPolicy; split <;> rfl
@[simp] theorem FaultRecord.withRowPolicy_firstConfirmed (row : Row) (r : FaultRecord) :
    (r.withRowPolicy row).firstConfirmed = r.firstConfirmed := by unfold FaultRecord.withRowPolicy; split <;> rfl
@[simp] theorem FaultRecord.withRowPolicy_mark (row : Row) (r : FaultRecord) : (r.withRowPolicy row).mark = r.mark := by
  unfold FaultRecord.withRowPolicy; split <;> rfl

theorem FaultRecord.confirmed_of {r : FaultRecord} (h : r.Ok) (hs : r.state = .active ∨ r.state = .clearing ∨ r.state = .latched) :
    1 ≤ r.occurrences ∧ r.firstConfirmed.isSome = true := by
  apply h.confirmed
  rcases hs with h | h | h <;> simp [FaultRecord.contained, h]

theorem FaultRecord.renewed_ok {row : Row} {now : Time} {v : Option EvidenceValue} {r : FaultRecord} (h : r.Ok) :
    (r.renewed row now v).Ok := by
  have esc := FaultRecord.withRowPolicy_escalated (row := row) h.escalated
  cases hs : r.state
  case pending =>
    refine ⟨?_, ?_, ?_, ?_, ?_, ?_, ?_, ?_⟩ <;>
      simp_all [FaultRecord.renewed, h.pair, h.occ, bumpTo_le, FaultRecord.contained]
  case dormant =>
    refine ⟨?_, ?_, ?_, ?_, ?_, ?_, ?_, ?_⟩ <;>
      simp_all [FaultRecord.renewed, h.pair, h.occ, FaultRecord.contained]
  case active =>
    have c := FaultRecord.confirmed_of h (by simp [hs])
    refine ⟨?_, ?_, ?_, ?_, ?_, ?_, ?_, ?_⟩ <;>
      simp_all [FaultRecord.renewed, h.pair, h.occ, h.run, h.age, FaultRecord.contained]
  all_goals
    have c := FaultRecord.confirmed_of h (by simp [hs])
    refine ⟨?_, ?_, ?_, ?_, ?_, ?_, ?_, ?_⟩ <;>
      simp_all [FaultRecord.renewed, h.pair, h.occ, h.age, FaultRecord.contained]

theorem FaultRecord.renewed_pairOf (row : Row) (now : Time) (v : Option EvidenceValue) (r : FaultRecord) :
    (r.renewed row now v).pairOf = r.pairOf := by
  unfold FaultRecord.renewed FaultRecord.pairOf; cases r.state <;> simp

theorem FaultRecord.renewed_mark (row : Row) (now : Time) (v : Option EvidenceValue) (r : FaultRecord) :
    (r.renewed row now v).mark = r.mark := by
  unfold FaultRecord.renewed; cases r.state <;> simp

/-- Evidence keeps a record sound (R66, R68, R69). -/
theorem FaultRecord.onEvidence_ok {row : Row} {now : Time} {v : Option EvidenceValue} {r : FaultRecord} (h : r.Ok) :
    (r.onEvidence row now v).Ok := by
  have h' := FaultRecord.renewed_ok (row := row) (now := now) (v := v) h
  unfold FaultRecord.onEvidence
  split
  · exact FaultRecord.confirm_ok h'.pair h'.age h'.escalated
  · exact h'

theorem FaultRecord.onEvidence_pairOf (row : Row) (now : Time) (v : Option EvidenceValue) (r : FaultRecord) :
    (r.onEvidence row now v).pairOf = r.pairOf := by
  unfold FaultRecord.onEvidence
  split
  · exact FaultRecord.renewed_pairOf row now v r
  · exact FaultRecord.renewed_pairOf row now v r

theorem FaultRecord.onEvidence_mark (row : Row) (now : Time) (v : Option EvidenceValue) (r : FaultRecord) :
    (r.onEvidence row now v).mark = r.mark := by
  unfold FaultRecord.onEvidence
  split
  · exact FaultRecord.renewed_mark row now v r
  · exact FaultRecord.renewed_mark row now v r

theorem FaultRecord.made_ok {row : Row} {now : Time} {u : FaultUnit} {k : Kind} {v : Option EvidenceValue}
    (hp : allowedPair u k = true) : ((FaultRecord.made row now u k v).confirmIfMet row now).Ok := by
  unfold FaultRecord.confirmIfMet
  split
  · exact FaultRecord.confirm_ok hp (Nat.zero_le _) (by simp [FaultRecord.made])
  · refine ⟨hp, ?_, ?_, ?_, ?_, ?_, ?_, ?_⟩ <;> simp [FaultRecord.made, FaultRecord.contained]

theorem FaultRecord.confirmIfMet_pairOf (row : Row) (now : Time) (r : FaultRecord) :
    (r.confirmIfMet row now).pairOf = r.pairOf := by
  unfold FaultRecord.confirmIfMet; split <;> rfl

theorem FaultRecord.confirmIfMet_mark (row : Row) (now : Time) (r : FaultRecord) :
    (r.confirmIfMet row now).mark = r.mark := by
  unfold FaultRecord.confirmIfMet; split <;> rfl

/-- A change of one record that keeps it sound, under its pair and its sweep mark, or frees it. -/
structure FaultRecord.Keeps (f : FaultRecord → Option FaultRecord) : Prop where
  ok   : ∀ r r', r.Ok → f r = some r' → r'.Ok
  pair : ∀ r r', f r = some r' → r'.pairOf = r.pairOf
  mark : ∀ r r', f r = some r' → r'.mark = r.mark

theorem FaultRecord.enterDormant_ok {row : Row} {r r' : FaultRecord} (h : r.Ok) (he : r.enterDormant row = some r') :
    r'.Ok := by
  unfold FaultRecord.enterDormant at he
  split at he
  · cases he
    exact ⟨h.pair, by simp, h.occ, by simp, h.escalated, by simp [FaultRecord.contained], by simp, by simp⟩
  · cases he

theorem FaultRecord.enterDormant_pairOf {row : Row} {r r' : FaultRecord} (he : r.enterDormant row = some r') :
    r'.pairOf = r.pairOf ∧ r'.mark = r.mark := by
  unfold FaultRecord.enterDormant at he
  split at he
  · cases he; exact ⟨rfl, rfl⟩
  · cases he

theorem FaultRecord.withRowPolicy_ok {row : Row} {r : FaultRecord} (h : r.Ok)
    (hs : r.state ≠ .clearing ∧ r.state ≠ .latched) : (r.withRowPolicy row).Ok := by
  have esc := FaultRecord.withRowPolicy_escalated (row := row) h.escalated
  refine ⟨by simp [h.pair], by simp [h.run], by simp [h.occ], by simp [h.age], esc, ?_, ?_, ?_⟩
  · intro hc
    have := h.confirmed (by simpa [FaultRecord.contained] using hc)
    simpa using this
  · intro hc; simp_all
  · intro hc; simp_all

theorem FaultRecord.onClean_keeps (row : Row) : FaultRecord.Keeps (FaultRecord.onClean row) := by
  have dormantOk : ∀ r r' : FaultRecord, r.Ok → (r.withRowPolicy row).enterDormant row = some r' → r'.Ok := by
    intro r r' h he
    unfold FaultRecord.enterDormant at he
    split at he
    · cases he
      exact ⟨by simp [h.pair], by simp, by simp [h.occ], by simp,
        FaultRecord.withRowPolicy_escalated h.escalated, by simp [FaultRecord.contained], by simp, by simp⟩
    · cases he
  constructor
  · intro r r' h he
    have esc := FaultRecord.withRowPolicy_escalated (row := row) h.escalated
    cases hs : r.state
    case pending =>
      simp only [FaultRecord.onClean, FaultRecord.beforeClean, hs] at he
      split at he
      · exact dormantOk r r' h (by simpa using he)
      · cases he
    case active =>
      have c := FaultRecord.confirmed_of h (by simp [hs])
      simp only [FaultRecord.onClean, FaultRecord.beforeClean, hs, reduceCtorEq, if_false] at he
      split at he
      · split at he
        · exact dormantOk r r' h he
        · cases he
          exact ⟨by simp [h.pair], by simp, by simp [h.occ], by simp [h.age], esc, by simp [c],
            by simp_all, by simp⟩
      all_goals
        cases he
        exact ⟨by simp [h.pair], by simp, by simp [h.occ], by simp [h.age], esc, by simp [c],
          by simp, by simp_all⟩
    case clearing =>
      have c := FaultRecord.confirmed_of h (by simp [hs])
      simp only [FaultRecord.onClean, FaultRecord.beforeClean, hs, reduceCtorEq, if_false] at he
      split at he
      · split at he
        · exact dormantOk r r' h he
        · cases he
          exact ⟨by simp [h.pair], bumpTo_le _ _, by simp [h.occ], by simp [h.age], esc, by simp [c],
            by simp_all, by simp_all⟩
      all_goals
        cases he
        exact ⟨by simp [h.pair], by simp, by simp [h.occ], by simp [h.age], esc, by simp [c],
          by simp, by simp_all⟩
    case latched =>
      simp only [FaultRecord.onClean, FaultRecord.beforeClean, hs, if_true] at he
      cases he; exact h
    case dormant =>
      simp only [FaultRecord.onClean, FaultRecord.beforeClean, hs, reduceCtorEq, if_false] at he
      cases he
      exact FaultRecord.withRowPolicy_ok h (by simp [hs])
  all_goals
    intro r r' he
    cases hs : r.state <;>
      simp only [FaultRecord.onClean, FaultRecord.beforeClean, hs, reduceCtorEq, if_false, if_true] at he
    case pending =>
      split at he
      · have := FaultRecord.enterDormant_pairOf he; simp_all [FaultRecord.pairOf]
      · cases he
    case latched => cases he; rfl
    case dormant => cases he; simp [FaultRecord.pairOf]
    all_goals
      split at he
      · split at he
        · have := FaultRecord.enterDormant_pairOf he; simp_all [FaultRecord.pairOf]
        · cases he; simp [FaultRecord.pairOf]
      all_goals cases he; simp [FaultRecord.pairOf]

theorem FaultRecord.onTick_keeps (c : Copy) : FaultRecord.Keeps (FaultRecord.onTick c) := by
  have aged : ∀ (r : FaultRecord), r.Ok → FaultRecord.Ok { r with age := bumpTo Config.counterMax r.age } :=
    fun r h => ⟨h.pair, h.run, h.occ, bumpTo_le _ _, h.escalated, h.confirmed, h.clearing, h.latched⟩
  refine ⟨?_, ?_, ?_⟩ <;> intro r r'
  · intro h he
    simp only [FaultRecord.onTick] at he
    split at he
    · split at he
      · cases he
      · cases he; exact aged r h
    · split at he
      · split at he
        · exact FaultRecord.enterDormant_ok h he
        · cases he
      · cases he; exact aged r h
    all_goals cases he; exact h
  all_goals
    intro he
    simp only [FaultRecord.onTick] at he
    split at he
    · split at he
      · cases he
      · cases he; rfl
    · split at he
      · split at he
        · first
          | exact (FaultRecord.enterDormant_pairOf he).1
          | exact (FaultRecord.enterDormant_pairOf he).2
        · cases he
      · cases he; rfl
    all_goals cases he; rfl

theorem FaultRecord.onKeyCycle_keeps (c : Copy) : FaultRecord.Keeps (FaultRecord.onKeyCycle c) := by
  refine ⟨?_, ?_, ?_⟩ <;> intro r r'
  · intro h he
    unfold FaultRecord.onKeyCycle at he
    split at he
    · exact FaultRecord.enterDormant_ok h he
    · cases he; exact h
  all_goals
    intro he
    unfold FaultRecord.onKeyCycle at he
    split at he
    · first
      | exact (FaultRecord.enterDormant_pairOf he).1
      | exact (FaultRecord.enterDormant_pairOf he).2
    · cases he; rfl

theorem FaultRecord.onRowChange_keeps (a b : Rows) : FaultRecord.Keeps (FaultRecord.onRowChange a b) := by
  refine ⟨?_, ?_, ?_⟩ <;> intro r r'
  · intro h he
    unfold FaultRecord.onRowChange at he
    split at he <;> cases he
    exact h
  all_goals
    intro he
    unfold FaultRecord.onRowChange at he
    split at he <;> cases he
    rfl

theorem FaultRecord.Keeps.only {f : FaultRecord → Option FaultRecord} (h : FaultRecord.Keeps f)
    (p : FaultRecord → Bool) : FaultRecord.Keeps fun q => if p q then f q else some q := by
  have key : ∀ r r', (if p r then f r else some r) = some r' → f r = some r' ∨ r' = r := by
    intro r r' he
    split at he
    · exact .inl he
    · cases he; exact .inr rfl
  refine ⟨?_, ?_, ?_⟩ <;> intro r r'
  · intro ok he
    rcases key r r' he with h1 | rfl
    · exact h.ok r r' ok h1
    · exact ok
  · intro he
    rcases key r r' he with h1 | rfl
    · exact h.pair r r' h1
    · rfl
  · intro he
    rcases key r r' he with h1 | rfl
    · exact h.mark r r' h1
    · rfl

/-! ## The slots -/

theorem mem_records {t : FaultTable} {r : FaultRecord} : r ∈ t.records ↔ some r ∈ t.slots := by
  simp [FaultTable.records]

/-- The pairs held by some slots. -/
def pairsOf (l : List (Option FaultRecord)) : List (FaultUnit × Kind) := (l.filterMap id).map FaultRecord.pairOf

theorem pairsOf_cons_none (l : List (Option FaultRecord)) : pairsOf (none :: l) = pairsOf l := rfl

theorem pairsOf_cons_some (r : FaultRecord) (l : List (Option FaultRecord)) :
    pairsOf (some r :: l) = r.pairOf :: pairsOf l := rfl

theorem mem_pairsOf {l : List (Option FaultRecord)} {p : FaultUnit × Kind} :
    p ∈ pairsOf l ↔ ∃ r, some r ∈ l ∧ r.pairOf = p := by
  simp [pairsOf]

theorem pairsOf_bind {f : FaultRecord → Option FaultRecord} (h : FaultRecord.Keeps f)
    (l : List (Option FaultRecord)) (hd : (pairsOf l).Nodup) : (pairsOf (l.map fun o => o.bind f)).Nodup := by
  have sub : List.Sublist (pairsOf (l.map fun o => o.bind f)) (pairsOf l) := by
    clear hd
    induction l with
    | nil => exact List.Sublist.refl _
    | cons o rest ih =>
      cases o with
      | none => exact ih
      | some r =>
        simp only [List.map_cons, Option.bind_some]
        cases hf : f r with
        | none => exact List.Sublist.cons _ ih
        | some r' =>
          rw [pairsOf_cons_some, pairsOf_cons_some, h.pair r r' hf]
          exact ih.cons_cons _
  exact hd.sublist sub

theorem pairsOf_put (u : FaultUnit) (k : Kind) (r : FaultRecord) (hr : r.pairOf = (u, k))
    (l : List (Option FaultRecord)) :
    pairsOf (l.map fun o => if holdsPair u k o then some r else o) = pairsOf l := by
  induction l with
  | nil => rfl
  | cons o rest ih =>
    cases o with
    | none => simpa [holdsPair, pairsOf_cons_none] using ih
    | some q =>
      by_cases hq : holdsPair u k (some q) = true
      · have : q.pairOf = (u, k) := by
          obtain ⟨q', h1, h2⟩ := (holdsPair_iff u k _).1 hq
          cases h1; exact h2
        simp only [List.map_cons, hq, if_true, pairsOf_cons_some, ih, hr, this]
      · rw [List.map_cons, if_neg hq, pairsOf_cons_some, pairsOf_cons_some, ih]

theorem recordOf_none {t : FaultTable} {u : FaultUnit} {k : Kind} (h : t.recordOf u k = none) :
    (u, k) ∉ pairsOf t.slots := by
  intro hm
  obtain ⟨r, hr, hp⟩ := mem_pairsOf.1 hm
  unfold FaultTable.recordOf at h
  cases hf : t.slots.find? (holdsPair u k) with
  | none =>
    have := List.find?_eq_none.1 hf (some r) hr
    exact this ((holdsPair_iff u k _).2 ⟨r, rfl, hp⟩)
  | some o =>
    obtain ⟨q, hq, _⟩ := (holdsPair_iff u k o).1 (List.find?_some hf)
    rw [hf, hq] at h
    cases h

theorem recordOf_some {t : FaultTable} {u : FaultUnit} {k : Kind} {r : FaultRecord}
    (h : t.recordOf u k = some r) : r ∈ t.records ∧ r.pairOf = (u, k) := by
  unfold FaultTable.recordOf at h
  cases hf : t.slots.find? (holdsPair u k) with
  | none => rw [hf] at h; cases h
  | some o =>
    rw [hf] at h
    simp only [Option.join_some] at h
    subst h
    refine ⟨mem_records.2 (List.mem_of_find?_eq_some hf), ?_⟩
    obtain ⟨q, hq, hp⟩ := (holdsPair_iff u k _).1 (List.find?_some hf)
    cases hq; exact hp

theorem pairsOf_set {l : List (Option FaultRecord)} {i : Nat} {r : FaultRecord} (hd : (pairsOf l).Nodup)
    (hn : r.pairOf ∉ pairsOf l) : (pairsOf (l.set i (some r))).Nodup := by
  induction l generalizing i with
  | nil => simpa using hd
  | cons o rest ih =>
    cases i with
    | zero =>
      simp only [List.set_cons_zero, pairsOf_cons_some]
      cases o with
      | none => exact List.nodup_cons.2 ⟨hn, hd⟩
      | some q =>
        rw [pairsOf_cons_some] at hd hn
        exact List.nodup_cons.2 ⟨fun h => hn (List.mem_cons_of_mem _ h), (List.nodup_cons.1 hd).2⟩
    | succ i =>
      simp only [List.set_cons_succ]
      cases o with
      | none => exact ih hd hn
      | some q =>
        rw [pairsOf_cons_some] at hd hn ⊢
        have hd' := List.nodup_cons.1 hd
        refine List.nodup_cons.2 ⟨?_, ih hd'.2 fun h => hn (List.mem_cons_of_mem _ h)⟩
        intro hm
        obtain ⟨x, hx, hp⟩ := mem_pairsOf.1 hm
        rcases List.mem_or_eq_of_mem_set hx with h | h
        · exact hd'.1 (mem_pairsOf.2 ⟨x, h, hp⟩)
        · cases h; exact hn (by rw [hp]; exact List.mem_cons_self)

theorem pairsOf_set_none {l : List (Option FaultRecord)} {i : Nat} (hd : (pairsOf l).Nodup) :
    (pairsOf (l.set i none)).Nodup := by
  have sub : List.Sublist (pairsOf (l.set i none)) (pairsOf l) := by
    clear hd
    induction l generalizing i with
    | nil => exact List.Sublist.refl _
    | cons o rest ih =>
      cases i with
      | zero => cases o with
        | none => exact List.Sublist.refl _
        | some q => exact List.sublist_cons_self _ _
      | succ i => cases o with
        | none => exact ih
        | some q => exact (ih (i := i)).cons_cons _
  exact hd.sublist sub

theorem pairsOf_mark (m : Bool) (l : List (Option FaultRecord)) :
    pairsOf (l.map (Option.map fun r => { r with mark := m })) = pairsOf l := by
  induction l with
  | nil => rfl
  | cons o rest ih =>
    cases o with
    | none => exact ih
    | some q => simp only [List.map_cons, Option.map_some, pairsOf_cons_some, ih]; rfl

theorem emptySlot_none {t : FaultTable} (h : t.emptySlot = none) : ∀ o ∈ t.slots, o.isSome = true := by
  intro o ho
  have := List.findIdx?_eq_none_iff.1 h o ho
  cases o <;> simp_all

theorem slotForNew_none {t : FaultTable} {now : Time} (h : t.slotForNew now = none) :
    ∀ o ∈ t.slots, o.isSome = true := by
  unfold FaultTable.slotForNew at h
  split at h
  · cases h
  · exact emptySlot_none ‹_›

/-! ## Table operations -/

theorem FaultTable.Ok.pairs {t : FaultTable} (h : t.Ok) : (pairsOf t.slots).Nodup := h.distinct

theorem slot_mem {t : FaultTable} {i : Nat} {r : FaultRecord} (h : t.slot i = some r) : r ∈ t.records := by
  unfold FaultTable.slot at h
  cases hi : t.slots[i]? with
  | none => rw [hi] at h; cases h
  | some o =>
    rw [hi] at h
    simp only [Option.join_some] at h
    subst h
    exact mem_records.2 (List.mem_of_getElem? hi)

theorem FaultTable.update_ok {t : FaultTable} {f : FaultRecord → Option FaultRecord} (h : t.Ok)
    (k : FaultRecord.Keeps f) : (t.update f).Ok where
  places := by simp [FaultTable.update, h.places]
  records := by
    intro r hr
    rw [mem_records] at hr
    simp only [FaultTable.update, List.mem_map] at hr
    obtain ⟨o, ho, he⟩ := hr
    cases o with
    | none => cases he
    | some q => exact k.ok q r (h.records q (mem_records.2 ho)) he
  distinct := pairsOf_bind k _ h.pairs
  full := by
    intro hf o ho
    simp only [FaultTable.update, Bool.and_eq_true, List.all_eq_true, Bool.or_eq_true, List.mem_map] at hf ho
    obtain ⟨q, hq, rfl⟩ := ho
    rcases hf.2 q hq with h1 | h1
    · have := h.full hf.1 q hq
      cases q <;> simp_all
    · exact h1
  lost := h.lost
  sweep := h.sweep
  marks := by
    intro hs r hr
    rw [mem_records] at hr
    simp only [FaultTable.update, List.mem_map] at hr
    obtain ⟨o, ho, he⟩ := hr
    cases o with
    | none => cases he
    | some q => rw [k.mark q r he]; exact h.marks hs q (mem_records.2 ho)

theorem FaultTable.put_ok {t : FaultTable} {u : FaultUnit} {k : Kind} {r q : FaultRecord} (h : t.Ok)
    (hq : q ∈ t.records) (hm : r.mark = q.mark) (hr : r.Ok) (hp : r.pairOf = (u, k)) : (t.put u k r).Ok where
  places := by simp [FaultTable.put, h.places]
  records := by
    intro x hx
    rw [mem_records] at hx
    simp only [FaultTable.put, List.mem_map] at hx
    obtain ⟨o, ho, he⟩ := hx
    split at he
    · cases he; exact hr
    · subst he; exact h.records x (mem_records.2 ho)
  distinct := by
    show (pairsOf _).Nodup
    simp only [FaultTable.put]
    rw [pairsOf_put u k r hp]
    exact h.pairs
  full := by
    intro hf o ho
    simp only [FaultTable.put, List.mem_map] at hf ho
    obtain ⟨x, hx, rfl⟩ := ho
    split
    · rfl
    · exact h.full hf x hx
  lost := h.lost
  sweep := h.sweep
  marks := by
    intro hs x hx
    rw [mem_records] at hx
    simp only [FaultTable.put, List.mem_map] at hx
    obtain ⟨o, ho, he⟩ := hx
    split at he
    · cases he; rw [hm]; exact h.marks hs q hq
    · subst he; exact h.marks hs x (mem_records.2 ho)

theorem FaultTable.place_ok {t : FaultTable} {i : Nat} {r : FaultRecord} (h : t.Ok) (hr : r.Ok)
    (hm : r.mark = false) (hn : r.pairOf ∉ pairsOf t.slots) : (t.place i r).Ok where
  places := by simp [FaultTable.place, h.places]
  records := by
    intro x hx
    rw [mem_records] at hx
    rcases List.mem_or_eq_of_mem_set hx with h1 | h1
    · exact h.records x (mem_records.2 h1)
    · cases h1; exact hr
  distinct := pairsOf_set h.pairs hn
  full := by
    intro hf o ho
    simp only [FaultTable.place, Bool.and_eq_true] at hf ho
    rcases List.mem_or_eq_of_mem_set ho with h1 | h1
    · exact h.full hf.1 o h1
    · subst h1; rfl
  lost := h.lost
  sweep := h.sweep
  marks := by
    intro hs x hx
    rw [mem_records] at hx
    rcases List.mem_or_eq_of_mem_set hx with h1 | h1
    · exact h.marks hs x (mem_records.2 h1)
    · cases h1; exact hm

theorem FaultTable.lose_ok {t : FaultTable} (h : t.Ok) (hf : ∀ o ∈ t.slots, o.isSome = true) : t.lose.Ok where
  places := h.places
  records := h.records
  distinct := h.distinct
  full := fun _ => hf
  lost := bump_le _
  sweep := h.sweep
  marks := h.marks

theorem Sweep.onConfirmation_ok {w : Sweep} (h : w.Ok) : w.onConfirmation.Ok := by
  unfold Sweep.onConfirmation
  split
  · exact ⟨h.cursor, h.count, fun _ => h.ongoing (by simp_all)⟩
  · exact h

theorem FaultTable.suspend_ok {t : FaultTable} (h : t.Ok) : FaultTable.Ok { t with sweep := t.sweep.onConfirmation } where
  places := h.places
  records := h.records
  distinct := h.distinct
  full := h.full
  lost := h.lost
  sweep := Sweep.onConfirmation_ok h.sweep
  marks := by
    intro hs
    apply h.marks
    simp only [Sweep.onConfirmation] at hs
    split at hs <;> simp_all

/-- Evidence for an allowed pair keeps the fault table sound (R66 to R69, R76, R77). -/
theorem FaultTable.evidence_ok {t : FaultTable} {c : Copy} {now : Time} {u : FaultUnit} {k : Kind}
    {v : Option EvidenceValue} (h : t.Ok) (hp : allowedPair u k = true) : (t.evidence c now u k v).table.Ok := by
  unfold FaultTable.evidence
  split
  · split
    · next r hr =>
      obtain ⟨hm, hpair⟩ := recordOf_some hr
      have hput : (t.put r.unit r.kind (r.onEvidence (c.rows.get k) now v)).Ok :=
        FaultTable.put_ok h hm (FaultRecord.onEvidence_mark _ _ _ _)
          (FaultRecord.onEvidence_ok (h.records r hm)) (FaultRecord.onEvidence_pairOf _ _ _ _)
      simp only [FaultTable.evidenceFor]
      split
      · exact FaultTable.suspend_ok hput
      · exact hput
    · next hn =>
      simp only [FaultTable.evidenceNew]
      split
      · next i hi =>
        have hpl : (t.place i ((FaultRecord.made (c.rows.get k) now u k v).confirmIfMet (c.rows.get k) now)).Ok :=
          FaultTable.place_ok h (FaultRecord.made_ok hp)
            (by rw [FaultRecord.confirmIfMet_mark]; rfl)
            (by rw [FaultRecord.confirmIfMet_pairOf]; exact recordOf_none hn)
        simp only
        split
        · exact FaultTable.suspend_ok hpl
        · exact hpl
      · next hi => exact FaultTable.lose_ok h (slotForNew_none hi)
  · exact h

/-- A clean observation keeps the fault table sound (R70). -/
theorem FaultTable.clean_ok {t : FaultTable} {c : Copy} {u : FaultUnit} {k : Kind} (h : t.Ok) :
    (t.clean c u k).table.Ok := by
  unfold FaultTable.clean
  split
  · exact h
  · exact FaultTable.update_ok h ((FaultRecord.onClean_keeps _).only _)

/-- The unit and kind of a delivery form an allowed pair (R45). -/
def Delivery.allowed : Delivery → Prop
  | .evidence u k _ => allowedPair u k = true
  | .clean _ _ => True

/-- A delivery for an allowed pair keeps the fault table sound. -/
theorem FaultTable.deliver_ok {t : FaultTable} {c : Copy} {now : Time} {d : Delivery} (h : t.Ok)
    (hd : d.allowed) : (t.deliver c now d).table.Ok := by
  cases d with
  | evidence u k v => exact FaultTable.evidence_ok h hd
  | clean u k => exact FaultTable.clean_ok h

/-- An ageing tick keeps the fault table sound (R72). -/
theorem FaultTable.tick_ok {t : FaultTable} {c : Copy} (h : t.Ok) : (t.tick c).table.Ok :=
  FaultTable.update_ok h (FaultRecord.onTick_keeps c)

/-- A key cycle keeps the fault table sound (R73). -/
theorem FaultTable.keyCycle_ok {t : FaultTable} {c : Copy} (h : t.Ok) : (t.keyCycle c).table.Ok :=
  FaultTable.update_ok h (FaultRecord.onKeyCycle_keeps c)

/-- A row change keeps the fault table sound (R54). -/
theorem FaultTable.rowChange_ok {t : FaultTable} {a b : Rows} (h : t.Ok) : (t.rowChange a b).table.Ok :=
  FaultTable.update_ok h (FaultRecord.onRowChange_keeps a b)

/-- A freeing keeps the fault table sound (R75). -/
theorem FaultTable.free_ok {t : FaultTable} {i : Nat} (h : t.Ok) : (t.free i).table.Ok where
  places := by simp [FaultTable.free, h.places]
  records := by
    intro r hr
    rw [mem_records] at hr
    rcases List.mem_or_eq_of_mem_set hr with h1 | h1
    · exact h.records r (mem_records.2 h1)
    · cases h1
  distinct := pairsOf_set_none h.pairs
  full := by
    intro hf o ho
    simp only [FaultTable.free, Bool.and_eq_true] at hf ho
    by_cases hi : i < t.slots.length
    · have := h.full hf.1 t.slots[i] (List.getElem_mem hi)
      simp only [FaultTable.slot, List.getElem?_eq_getElem hi, Option.join_some] at hf
      cases hx : t.slots[i] <;> simp_all
    · rw [List.set_eq_of_length_le (by omega)] at ho
      exact h.full hf.1 o ho
  lost := h.lost
  sweep := h.sweep
  marks := by
    intro hs r hr
    rw [mem_records] at hr
    rcases List.mem_or_eq_of_mem_set hr with h1 | h1
    · exact h.marks hs r (mem_records.2 h1)
    · cases h1

/-- An entry that passed the tests of a latch list (10 R180). -/
def LatchEntry.Ok (e : LatchEntry) : Prop :=
  allowedPair e.unit e.kind = true ∧ 1 ≤ e.occurrences ∧ e.occurrences ≤ 15

theorem FaultTable.restoreEntry_ok {t : FaultTable} {now : Time} {e : LatchEntry} (h : t.Ok) (he : e.Ok) :
    (t.restoreEntry now e).Ok := by
  unfold FaultTable.restoreEntry
  split
  · next r hr =>
    obtain ⟨hm, hp⟩ := recordOf_some hr
    have ok := h.records r hm
    refine FaultTable.put_ok h hm rfl ?_ hp
    exact ⟨ok.pair, by simp [FaultRecord.restored], by have := ok.occ; have := he.2.2; simp [FaultRecord.restored]; omega,
      by simp [FaultRecord.restored], by simp [FaultRecord.restored],
      fun _ => ⟨by have := he.2.1; simp [FaultRecord.restored]; omega, by simp [FaultRecord.restored]⟩,
      by simp [FaultRecord.restored], by simp [FaultRecord.restored]⟩
  · next hn =>
    split
    · refine FaultTable.place_ok h ?_ rfl (recordOf_none hn)
      exact ⟨he.1, by simp [LatchEntry.record], he.2.2, by simp [LatchEntry.record], by simp [LatchEntry.record],
        fun _ => ⟨he.2.1, by simp [LatchEntry.record]⟩, by simp [LatchEntry.record], by simp [LatchEntry.record]⟩
    · next hi => exact FaultTable.lose_ok h (slotForNew_none hi)

/-- Bringing back the latch list keeps the fault table sound (R65). -/
theorem FaultTable.restore_ok {t : FaultTable} {now : Time} {es : List LatchEntry} (h : t.Ok)
    (he : ∀ e ∈ es, e.Ok) : (t.restore now es).table.Ok := by
  unfold FaultTable.restore
  show (es.foldl _ t).Ok
  induction es generalizing t with
  | nil => exact h
  | cons e es ih =>
    exact ih (FaultTable.restoreEntry_ok h (he e List.mem_cons_self))
      fun x hx => he x (List.mem_cons_of_mem _ hx)

/-! ## The sweep (R84 to R88) -/

theorem FaultTable.markAll_ok {t : FaultTable} {m : Bool} {w : Sweep} (h : t.Ok) (hw : w.Ok)
    (hm : w.state = .idle → m = false) : FaultTable.Ok { t.markAll m with sweep := w } where
  places := by simp [FaultTable.markAll, h.places]
  records := by
    intro r hr
    rw [mem_records] at hr
    simp only [FaultTable.markAll, List.mem_map] at hr
    obtain ⟨o, ho, he⟩ := hr
    cases o with
    | none => cases he
    | some q =>
      cases he
      have := h.records q (mem_records.2 ho)
      exact ⟨this.pair, this.run, this.occ, this.age, this.escalated, this.confirmed, this.clearing, this.latched⟩
  distinct := by
    show (pairsOf _).Nodup
    simp only [FaultTable.markAll]
    rw [pairsOf_mark]
    exact h.pairs
  full := by
    intro hf o ho
    simp only [FaultTable.markAll, List.mem_map] at hf ho
    obtain ⟨x, hx, rfl⟩ := ho
    simp [h.full hf x hx]
  lost := h.lost
  sweep := hw
  marks := by
    intro hs r hr
    rw [mem_records] at hr
    simp only [FaultTable.markAll, List.mem_map] at hr
    obtain ⟨o, ho, he⟩ := hr
    cases o with
    | none => cases he
    | some q => cases he; exact hm hs

/-- The end of a sweep keeps the fault table sound (R86). -/
theorem FaultTable.endSweep_ok {t : FaultTable} {o : SweepOutcome} (h : t.Ok) : (t.endSweep o).Ok :=
  FaultTable.markAll_ok h ⟨h.sweep.cursor, h.sweep.count, by simp⟩ (fun _ => rfl)

/-- The abandonment of a sweep keeps the fault table sound (R86). -/
theorem FaultTable.abandonSweep_ok {t : FaultTable} (h : t.Ok) : t.abandonSweep.Ok := by
  unfold FaultTable.abandonSweep
  split
  · exact h
  · exact FaultTable.endSweep_ok h

/-- The start of a sweep keeps the fault table sound (R84). -/
theorem FaultTable.sweepStart_ok {t : FaultTable} {u : Option FaultUnit} {k : Option Kind} {m : SweepMode}
    {a n : Nat} (h : t.Ok) (ha : a < Config.slotCount) (h1 : 1 ≤ n) (h2 : n ≤ Config.slotCount) :
    (t.sweepStart u k m a n).Ok :=
  FaultTable.markAll_ok h ⟨Nat.le_of_lt ha, by simp [h2], fun _ => ⟨h1, ha⟩⟩ (by simp)

theorem FaultTable.withSweep_ok {t : FaultTable} {w : Sweep} (h : t.Ok) (hw : w.Ok)
    (hs : w.state = .idle → t.sweep.state = .idle) : FaultTable.Ok { t with sweep := w } where
  places := h.places
  records := h.records
  distinct := h.distinct
  full := h.full
  lost := h.lost
  sweep := hw
  marks := fun hi => h.marks (hs hi)

theorem FaultTable.advance_ok {t : FaultTable} (h : t.Ok) (hr : t.sweep.state = .running)
    (h1 : t.sweep.cursor < Config.slotCount) (h2 : 1 ≤ t.sweep.remaining) : t.advance.Ok := by
  have hc := h.sweep.count
  have mid : ∀ w : Sweep, w.cursor = t.sweep.cursor + 1 → w.remaining = t.sweep.remaining - 1 →
      w.cleared = t.sweep.cleared → w.state = .running →
      (w.state ≠ .idle → 1 ≤ w.remaining ∧ w.cursor < Config.slotCount) → FaultTable.Ok { t with sweep := w } := by
    intro w a b c d e
    refine FaultTable.withSweep_ok h ⟨?_, ?_, e⟩ (by simp [d])
    · rw [a]; omega
    · rw [b, c]; omega
  have done : ∀ (w : Sweep) (o : SweepOutcome), w.cursor = t.sweep.cursor + 1 →
      w.remaining = t.sweep.remaining - 1 → w.cleared = t.sweep.cleared →
      (FaultTable.endSweep { t with sweep := w } o).Ok := by
    intro w o a b c
    exact FaultTable.markAll_ok (t := t) h (m := false) (w := { w with state := .idle, outcome := o })
      ⟨by simp only [a]; omega, by simp only [b, c]; omega, by simp⟩ (fun _ => rfl)
  unfold FaultTable.advance
  simp only
  split
  · exact done _ _ rfl rfl rfl
  · split
    · exact done _ _ rfl rfl rfl
    · exact mid _ rfl rfl rfl hr (fun _ => ⟨by simp only at *; omega, by simp only at *; omega⟩)

/-- An examination keeps the fault table sound (R85, R86). -/
theorem FaultTable.examine_ok {t : FaultTable} (h : t.Ok) (hr : t.sweep.state = .running) :
    t.examine.table.Ok := by
  obtain ⟨h1, h2⟩ := h.sweep.ongoing (by simp [hr])
  unfold FaultTable.examine
  split
  · exact FaultTable.endSweep_ok h
  · exact FaultTable.advance_ok h hr h2 h1
  · have hf := FaultTable.free_ok (i := t.sweep.cursor) h
    have hc := h.sweep.count
    have key : ∀ (f : FaultTable), f.Ok → f.sweep = t.sweep →
        (FaultTable.advance { f with sweep := { f.sweep with cleared := f.sweep.cleared + 1 } }).Ok := by
      intro f hf hs
      unfold FaultTable.advance
      simp only [hs]
      split
      · exact FaultTable.markAll_ok (t := f) hf (m := false) ⟨by simp only; omega, by simp only; omega, by simp⟩ (fun _ => rfl)
      · split
        · exact FaultTable.markAll_ok (t := f) hf (m := false) ⟨by simp only; omega, by simp only; omega, by simp⟩ (fun _ => rfl)
        · refine FaultTable.withSweep_ok hf ⟨by simp only; omega, by simp only; omega, fun _ => ⟨by simp only at *; omega, by simp only at *; omega⟩⟩ (by simp [hr])
    exact key _ hf rfl

/-- The power-on fault table is sound (R64). -/
theorem FaultTable.initial_ok : FaultTable.initial.Ok where
  places := by decide
  records := by intro r hr; rw [mem_records] at hr; exact absurd (List.eq_of_mem_replicate hr) (by simp)
  distinct := by decide
  full := by decide
  lost := by decide
  sweep := ⟨by decide, by decide, by decide⟩
  marks := by intro _ r hr; rw [mem_records] at hr; exact absurd (List.eq_of_mem_replicate hr) (by simp)

/-! ## What an event hands on (05 R78, R80) -/

/-- What R78 looks at in one slot: whether its record is contained, and whether it is LATCHED. -/
theorem slotView_eq_iff (o o' : Option FaultRecord) : slotView o = slotView o' ↔
    ((∃ r, o = some r ∧ (r.state = .active ∨ r.state = .clearing ∨ r.state = .latched))
      ↔ ∃ r, o' = some r ∧ (r.state = .active ∨ r.state = .clearing ∨ r.state = .latched))
    ∧ ((∃ r, o = some r ∧ r.state = .latched) ↔ ∃ r, o' = some r ∧ r.state = .latched) := by
  rcases o with _ | r <;> rcases o' with _ | q
  · simp
  · cases h : q.state <;> simp [slotView, FaultRecord.contained, h]
  · cases h : r.state <;> simp [slotView, FaultRecord.contained, h]
  · cases h : r.state <;> cases h' : q.state <;> simp [slotView, FaultRecord.contained, h, h'] <;> rfl

/-- An event that keeps the number of slots is announced exactly if it is a containment change (R78). -/
theorem announces_iff {t t' : FaultTable} (h : t'.slots.length = t.slots.length) :
    announces t t' = true ↔ t.ContainmentChange t' := by
  have hs : (t.slots.map slotView = t'.slots.map slotView) ↔ ∀ i, slotView (t.slot i) = slotView (t'.slot i) := by
    constructor
    · intro he i
      have := congrArg (fun l : List (Bool × Bool) => l[i]?) he
      simp only [List.getElem?_map] at this
      unfold FaultTable.slot
      by_cases hi : i < t.slots.length
      · have hi' : i < t'.slots.length := h ▸ hi
        simpa [List.getElem?_eq_getElem hi, List.getElem?_eq_getElem hi'] using this
      · rw [List.getElem?_eq_none (by omega), List.getElem?_eq_none (by omega)]
    · intro he
      refine List.ext_getElem (by simp [h]) fun i h1 h2 => ?_
      simp only [List.length_map] at h1 h2
      simpa [FaultTable.slot, List.getElem?_eq_getElem h1, List.getElem?_eq_getElem h2] using he i
  simp only [announces, Bool.or_eq_true, bne_iff_ne, ne_eq, hs, slotView_eq_iff, FaultTable.ContainmentChange,
    forall_and,
    Classical.not_and_iff_not_or_not, Classical.not_forall]

/-- What an event owes its neighbours is what `FaultTable.Notifies` describes. -/
theorem TableOut.owes_notifies {t : FaultTable} {o : TableOut} {q : Prop}
    (ha : o.announce = true ↔ t.ContainmentChange o.table) (hq : o.request = true ↔ q) :
    t.Notifies o.table q o.owes := by
  rcases o with ⟨t', a, r⟩
  refine ⟨?_, fun h => ?_, fun h => ?_, fun h => ?_, fun h => ?_⟩
  · cases a <;> cases r <;> simp [TableOut.owes]
  · obtain rfl : a = true := ha.2 h
    cases r <;> rfl
  · obtain rfl : a = false := Bool.eq_false_iff.2 (mt ha.1 h)
    cases r <;> rfl
  · obtain rfl : r = true := hq.2 h
    cases a <;> rfl
  · obtain rfl : r = false := Bool.eq_false_iff.2 (mt hq.1 h)
    cases a <;> rfl

/-- A record whose policy in effect was WORKSHOP is freed by an event that changes records one by one. -/
theorem FaultTable.freesWorkshop_iff {t : FaultTable} {f : FaultRecord → Option FaultRecord} :
    t.freesWorkshop f = true ↔ t.LosesWorkshop (t.update f) := by
  simp only [FaultTable.freesWorkshop, List.any_eq_true, Bool.and_eq_true, beq_iff_eq, Option.isNone_iff_eq_none,
    FaultTable.LosesWorkshop]
  constructor
  · rintro ⟨r, hr, hp, hf⟩
    obtain ⟨i, hi, he⟩ := List.getElem_of_mem (mem_records.1 hr)
    refine ⟨i, r, ?_, hp, ?_⟩
    · simp [FaultTable.slot, List.getElem?_eq_getElem hi, he]
    · simp [FaultTable.slot, FaultTable.update, List.getElem?_eq_getElem hi, he, hf]
  · rintro ⟨i, r, hs, hp, hn⟩
    refine ⟨r, slot_mem hs, hp, ?_⟩
    have hi : t.slots[i]? = some (some r) := by
      unfold FaultTable.slot at hs; cases h : t.slots[i]? <;> simp_all
    simpa [FaultTable.slot, FaultTable.update, hi] using hn

/-- An event that changes records one by one hands on what R78 and R80 give. -/
theorem FaultTable.updateEvent_notifies (t : FaultTable) (f : FaultRecord → Option FaultRecord) :
    t.Notifies (t.update f) (t.LosesWorkshop (t.update f)) (t.updateEvent f).owes :=
  TableOut.owes_notifies (o := t.updateEvent f) (announces_iff (by simp [FaultTable.update])) FaultTable.freesWorkshop_iff

end Sys2Proof.Machine
end

