-- ==== Sys2Proof/WellFormed.lean ====
section
/-! DEFINITION. Well-formed commands: the limits the manual sets on what a command can carry. The meanings do
not rely on them. -/

namespace Sys2Proof

open Machine

/-- A body that a delimiter can close: not empty, and no longer than the framer assembles (01 R2, R3). -/
def bodyWf (body : List Byte) : Bool := decide (1 ≤ body.length) && decide (body.length ≤ Config.bodyMax)

/-- What a cut page transfer leaves fits in its page (10 R176, R187). -/
def tornWf : Option (List Byte) → Bool
  | none => true
  | some l => decide (l.length ≤ Config.pageSize)

/-- The addresses at which a read of `n` bytes from `a` may return other bytes lie among those it reads (10 R176). -/
def BusRead.wf (a n : Nat) : BusRead → Bool
  | .noAcknowledge => true
  | .returned altered => altered.all fun c => decide (a ≤ c.1) && decide (c.1 < a + n)

/-- A command is well-formed. -/
def Instr.wf : Instr → Bool
  | .powerOn _ torn => tornWf torn
  | .frameReceived _ body => bodyWf body
  | .loadImageReadDone r | .saveReadbackDone r | .reloadReadDone r => r.wf 0 Config.imageLength
  | .loadLatchListReadDone r => r.wf Config.latchBase Config.latchLength
  | .unknownCommand _ code => (commandLength code).isNone
  | .receiveError _ _ | .arrivalNotice _ | .freshnessExpiry _ | .lineBreak _ | .linkStateNotice _
  | .transmitterTakeFrame _ | .switchChangeAccepted _ _ | .wakeRising | .wakeFalling | .envelopeExpiry
  | .checkExpiry | .isolationNotice _ _ | .recordTickExpiry | .gatherExpiry | .gatherBatchTaken
  | .haltRampExpiry | .serviceIdleExpiry | .containmentAnnouncement | .endOfLoading
  | .latchRewriteRequest | .savePageWriteDone _ | .storeWaitExpiry | .latchPageWriteDone _
  | .storeEndReport | .queryRecords _ _ | .queryLink _ _ | .queryRow _ _ | .queryParam _ _
  | .queryEnvelope _ | .serviceEnter _ | .rowWrite _ _ _ | .paramWrite _ _ _ | .storeSave _
  | .storeReload _ | .recordClear _ _ | .sweepStart _ _ _ _ _ _ | .sweepResume _ | .sweepCancel _
  | .overridePush _ _ _ _ _ | .overridePop _ | .serviceLeave _ | .sweepExamination | .byteReceived _ _
  | .breakEnd _ | .timeBaseStep _ _ _ => true

end Sys2Proof
end

