-- ==== Sys2Proof/Tests/Slice0.lean ====
section
/-! SUPPORT. The model's own tests: the well-formedness smoke, figures the manual works out, and for each
statement with hypotheses a state and operands that meet them. -/

namespace Sys2Proof.Tests

open Sys2Proof Sys2Proof.Machine

/-! ## Well-formedness: each check refuses a term -/

theorem test_wf_refuses_empty_body : Instr.wf (.frameReceived .front []) = false := by decide
theorem test_wf_refuses_long_body : Instr.wf (.frameReceived .front (List.replicate 46 0#8)) = false := by decide
theorem test_wf_accepts_body_45 : Instr.wf (.frameReceived .front (List.replicate 45 0#8)) = true := by decide
theorem test_wf_refuses_torn_33 : Instr.wf (.powerOn .supply (some (List.replicate 33 0#8))) = false := by decide
theorem test_wf_refuses_image_address : Instr.wf (.loadImageReadDone (.returned [(232, 0#8)])) = false := by decide
theorem test_wf_refuses_readback_address : Instr.wf (.saveReadbackDone (.returned [(232, 0#8)])) = false := by decide
theorem test_wf_refuses_reload_address : Instr.wf (.reloadReadDone (.returned [(512, 0#8)])) = false := by decide
theorem test_wf_refuses_latch_address : Instr.wf (.loadLatchListReadDone (.returned [(539, 0#8)])) = false := by decide
theorem test_wf_refuses_low_latch_address : Instr.wf (.loadLatchListReadDone (.returned [(511, 0#8)])) = false := by decide
theorem test_wf_refuses_known_code : Instr.wf (.unknownCommand 0#8 0x10#8) = false := by decide
theorem test_wf_accepts_unknown_code : Instr.wf (.unknownCommand 0#8 0x20#8) = true := by decide

/-- No row of the table has bits, so no word spells a command (log 22). -/
theorem test_no_word_decodes : decodeTableWord 16 0x10 = none ∧ State.reset.withFetchWord 16 0x10 = State.reset := by decide

/-! ## Helpers -/

/-- The state a command leaves. -/
def after (c : Instr) (s : State) : State :=
  match exec c s with
  | .next t => t
  | .fault _ | .refused _ => s

/-- A table with some records in its lowest slots. -/
def tableOf (rs : List FaultRecord) : FaultTable :=
  { FaultTable.initial with slots := rs.map some ++ List.replicate (40 - rs.length) none }

/-- A record of a pair in a state, confirmed at time 1. -/
def rec0 (u : FaultUnit) (k : Kind) (st : RecordState) (run occ : Nat) (pol : Policy) : FaultRecord where
  unit := u
  kind := k
  state := st
  run := run
  occurrences := occ
  policy := pol
  escalated := false
  firstConfirmed := if 0 < occ then some 1#32 else none
  lastEvidence := 1#32
  value := none
  age := 0
  mark := false

/-- A machine in a chip state. -/
def chipAt (c : Chip) : State := { State.reset with control := { State.reset.control with chip := c } }

/-- A machine in SERVICE with the store free. -/
def service : State := { chipAt .service with store := { Store.initial with op := .none } }

/-- A machine that has ended LOADING, with a store free and a table. -/
def riding (t : FaultTable) : State := { chipAt .drive with table := t, store := { Store.initial with op := .none } }

/-- A machine whose ports are all in a link state with a sequence reference and join run. -/
def linked (l : LinkState) (ref : Option Byte) (run : Nat) : State :=
  let x := { LinkPort.initial with link := l, seqRef := ref, joinRun := run }
  { chipAt .drive with ports := ⟨x, x, x, x⟩ }

/-- A machine with a RUNNING channel about to run out. -/
def running (s : State) (c : Chan) : State := { s with timers := s.timers.set c ⟨.running, 1, 0⟩ }

/-- A machine in SERVICE whose working copy fails the second relation. -/
def spoilt : State :=
  { running service .serviceIdle with
    working := { Copy.builtin with params := { Params.builtin with walkSpeed := 80, limpSpeed := 30 } } }

/-- A machine in which the framer of FRONT is in a state with a body. -/
def framing (f : Framer) (b : List Byte) : State :=
  { State.reset with ports := State.reset.ports.set .front { LinkPort.initial with framer := f, body := b } }

/-- A machine whose store runs an operation. -/
def storing (op : StoreOp) : State := { chipAt .drive with store := { Store.initial with op := op } }

/-- A machine in a transaction of the store, both buffers full, that the memory may have refused. -/
def transferring (op : StoreOp) (refused : Bool) : State :=
  { storing op with store := { Store.initial with
      op := op, refused := refused, imageBuffer := List.replicate 232 1#8, latchBuffer := List.replicate 27 2#8 } }

/-- Payloads of 02's worked report (current 44, speed 1530, raw temperature 252, C_drive 80, C_regen 200, SWITCHING,
claims 16, 3, 16), of a quiet pack and cockpit, and of QUERY_ENVELOPE. -/
def reportPayload : List Byte :=
  [0#8, 44#8, 0#8, 0x05#8, 0xFA#8, 252#8, 65#8, 0#8, 0#8, 80#8, 200#8, 1#8, 3#8, 16#8, 3#8, 16#8]
def packPayload : List Byte := [0#8, 0#8, 0#8, 0#8, 120#8, 40#8, 50#8, 0#8, 0#8, 65#8, 2#8, 0#8]
def demandPayload : List Byte := [0#8, 0#8, 0#8, 0#8, 2#8, 0#8]

/-! ## Chapter 1 -/

/-- R3: the register is shifted once for each data bit; a byte of ones against a preset of ones shifts in zeros. -/
theorem test_crc_of_ones : crcByte 0xFFFF#16 0xFF#8 = 0xFF00#16 := by decide

/-- Worked sequence "a master restarts mid-ride": link states and join runs. -/
theorem test_link_moves :
    linkMove .down 0 .noReference = (.joining, 1) ∧ linkMove .joining 1 .inSequence = (.joining, 2)
      ∧ linkMove .joining 0 .inSequence = (.joining, 1) ∧ linkMove .joining 2 .inSequence = (.up, 3)
      ∧ linkMove .joining 2 .gap = (.joining, 1) ∧ linkMove .up 3 .gap = (.up, 3) := by decide

/-- R6: 0 after 255 is in sequence. -/
theorem test_sequence_wraps : seqClass (some 255#8) 0#8 = .inSequence ∧ seqClass (some 17#8) 17#8 = .repeated
    ∧ seqClass (some 17#8) 16#8 = .gap ∧ seqClass none 16#8 = .noReference := by decide

/-- R12: the delimiter and the escape byte are escaped, other bytes are sent as they are. -/
theorem test_escaping : [0xA5#8, 0xA6#8, 0x25#8].flatMap escapeByte = [0xA6#8, 0x25#8, 0xA6#8, 0x26#8, 0x25#8] := by decide

/-- R10: a break found in DOWN increases the breaks counter and delivers no evidence. -/
theorem test_break_in_down : (after (.lineBreak .rear) State.reset).ports.rear.counters.breaks = 1
    ∧ (after (.lineBreak .rear) State.reset).table = State.reset.table := by decide

/-- R10: a break that finds UP delivers LINK_LOST evidence; the built-in row of LINK_LOST has N_c 1. -/
theorem test_break_in_up : ((after (.lineBreak .rear) (linked .up (some 125#8) 3)).table.recordOf .rear .linkLost).map
    (·.state) = some .active ∧ (after (.lineBreak .rear) (linked .up (some 125#8) 3)).ports.rear.seqRef = none := by
  decide

/-- R2: the 46th byte of a body is not appended; it is the overlength error. -/
theorem test_overlength :
    (after (.byteReceived .front (.byte 1#8)) (framing .body (List.replicate 45 0#8))).ports.front.counters.bad = 1
    ∧ (after (.byteReceived .front (.byte 1#8)) (framing .body (List.replicate 45 0#8))).ports.front.framer = .hunt := by
  decide

/-- R14: with nothing waiting the line stays idle. -/
theorem test_transmitter_idle : after (.transmitterTakeFrame .front) State.reset = State.reset := by decide

/-! ## Chapters 2 and 3 -/

/-- Worked sequence "a motor report with unbelievable fields": the stored values and the lowest refused field, 3. -/
theorem test_unbelievable_report :
    let old : MotorRecord := { MotorRecord.initial with
      dcCurrent := 42, speed := 318, motorTemp := 96, cDrive := 80, cRegen := 60, gate := .switching }
    let x := old.take .front 9#32 reportPayload
    x.value.dcCurrent = 44 ∧ x.value.speed = 318 ∧ x.value.motorTemp = 96 ∧ x.value.cDrive = 80
      ∧ x.value.cRegen = 150 ∧ x.value.gate = .switching ∧ x.value.claims = [.gateDriveFault]
      ∧ x.refuse = some 3 := by decide

/-- R22: a drive demand above 1000 is stored as 0 and counts for the verdict; an unknown profile is held. -/
theorem test_demand_out_of_range :
    let x := CockpitRecord.take 9#32 [0x03#8, 0xE9#8, 0x04#8, 0#8, 3#8, 1#8] { CockpitRecord.initial with profile := .tour }
    x.value.demand = 0 ∧ x.value.brake = 1000 ∧ x.value.profile = .tour ∧ x.refuse = some 1
      ∧ x.value.claims = [.throttleImplausible] := by decide

/-- Worked sequence "a bouncing brake lever": samples 3, 7 and 8. -/
theorem test_bouncing_lever :
    SwitchFilter.sample false ⟨false, 2⟩ = ⟨false, 0⟩ ∧ SwitchFilter.sample true ⟨false, 3⟩ = ⟨false, 4⟩
      ∧ SwitchFilter.sample true ⟨false, 4⟩ = ⟨true, 0⟩ := by decide

/-- R43: modes, ticks and default reload values of the eleven channels, in channel order. -/
theorem test_channel_table :
    Chan.all.map (Chan.reloadValue Params.builtin) = [25, 25, 100, 50, 10, 20, 200, 1, 2000, 1200, 6]
    ∧ Chan.all.map Chan.tick = [1, 1, 1, 1, 1, 1, 1, 100, 1, 100, 1]
    ∧ (Chan.all.filter fun c => c.mode == .reload) = [.envelope, .check, .recordTick] := by decide

/-- R35, R36: a 1 ms ONE_SHOT channel with count 1 expires at the next step and stops. -/
theorem test_one_shot_expires :
    (after (.timeBaseStep false false false) (running State.reset .haltRamp)).timers.haltRamp = ⟨.stopped, 0, 0⟩
    ∧ (after (.timeBaseStep false false false) (running State.reset .haltRamp)).owed = [.expiry .haltRamp true] := by
  decide

/-- R41: an operation after the expiry and before the owner takes it puts the expiry out of force. -/
theorem test_stop_voids_expiry :
    ((after (.timeBaseStep false false false) (running State.reset .haltRamp)).stop .haltRamp).expiryInForce .haltRamp
      = false := by decide

/-! ## Chapters 4 and 5 -/

/-- R196: the six bytes of the built-in row of LINK_LOST, its flags from the row table of R50. -/
theorem test_row_bytes_read_back : Kind.all.all (fun k =>
    k == .standMoving || Row.decode (Rows.builtin.get k).encode == some (Rows.builtin.get k)) = true := by decide

/-- Log 30: the built-in row of STAND_MOVING has N_c 20 (R50), which fails the range test of a stored row (R197). -/
theorem test_stand_moving_row_out_of_range : Row.decode (Rows.builtin.get .standMoving).encode = none := by decide

/-- Worked sequence "one record through its life": the second evidence confirms (N_c 2). -/
theorem test_second_evidence_confirms :
    ((tableOf [rec0 .rear .rotorSensorLost .pending 1 0 .auto]).evidence Copy.builtin 61210#32 .rear .rotorSensorLost
      none).table.recordOf .rear .rotorSensorLost
    = some { rec0 .rear .rotorSensorLost .active 0 1 .auto with
        firstConfirmed := some 61210#32, lastEvidence := 61210#32 } := by decide

/-- The same sequence: run 39 and one more clean observation heal the record (N_h 40). -/
theorem test_fortieth_clean_heals :
    ((tableOf [rec0 .rear .rotorSensorLost .clearing 39 1 .auto]).clean Copy.builtin .rear
      .rotorSensorLost).table.recordOf .rear .rotorSensorLost
    = some (rec0 .rear .rotorSensorLost .dormant 0 1 .auto) := by decide

/-- R78, R80: evidence that confirms a record under WORKSHOP (ISOLATION_FAIL: N_c 3) is announced and requests a
rewrite. -/
theorem test_workshop_confirmation_is_handed_on :
    (State.deliver (riding (tableOf [rec0 .rear .isolationFail .pending 2 0 .workshop]))
      (.evidence .rear .isolationFail none)).owed = [.announcement, .latchRequest] := by decide

/-- The same sequence: the third occurrence escalates to WORKSHOP (K 3). -/
theorem test_third_occurrence_escalates :
    (((tableOf [rec0 .rear .rotorSensorLost .pending 1 2 .auto]).evidence Copy.builtin 95010#32 .rear .rotorSensorLost
      none).table.recordOf .rear .rotorSensorLost).map (fun r => (r.occurrences, r.escalated, r.policy))
    = some (3, true, .workshop) := by decide

/-- R86: an examination of slot 39 with remaining 1 ends the sweep with COUNT_DONE. -/
theorem test_sweep_count_done :
    ({ tableOf [] with sweep := ⟨.running, none, none, .all, 39, 1, 0, .absent⟩ } : FaultTable).examine.table.sweep.outcome
      = .countDone := by decide

/-! ## Chapters 6 to 8 -/

/-- Worked figures "the balance tolerance", with BAL_ABS 6 and BAL_REL 8. -/
theorem test_balance_tolerance : [0, 50, 80, -120, 100, 150, 250].map (fun i : Int =>
    balanceTolerance Params.builtin { State.reset.obs with pack := { PackRecord.initial with current := i } })
    = [6, 6, 6, 9, 8, 12, 20] := by decide

/-- R91, R98: a motor that enters the watch set has its grace, which the first check consumes. -/
theorem test_grace_consumed :
    (after (.isolationNotice .front true) State.reset).monitor = ⟨true, false, true, false⟩
    ∧ (after .checkExpiry (running (after (.isolationNotice .front true) State.reset) .check)).monitor
      = ⟨true, false, false, false⟩ := by decide

/-- Worked sequence "a second failure while isolated": PHASE_OPEN of FRONT gives LIMP with FRONT isolated. -/
theorem test_phase_open_gives_limp :
    targetFor .drive Copy.builtin (tableOf [rec0 .front .phaseOpen .active 0 1 .key]) []
      = ⟨.limp, 100, true, false, false, false⟩ := by decide

/-- The same sequence at 74: with ISOLATION_FAIL the target is HALT, regen inhibit, pack open. -/
theorem test_isolation_fail_gives_halt :
    targetFor .drive Copy.builtin
      (tableOf [rec0 .front .phaseOpen .active 0 1 .key, rec0 .front .isolationFail .active 0 1 .workshop]) []
      = ⟨.halt, 100, true, false, true, true⟩ := by decide

/-- The inputs of the worked case "both ceilings at one expiry". -/
def bothCeilings : EnvelopeInputs where
  params := Params.builtin
  obs :=
    { front := { MotorRecord.initial with cDrive := 80, cRegen := 60, motorTemp := 140, fresh := true }
      rear := { MotorRecord.initial with cDrive := 80, cRegen := 60, motorTemp := 60, fresh := true }
      pack := { PackRecord.initial with iDis := 120, iChg := 40, fresh := true }
      cockpit := { CockpitRecord.initial with profile := .sport, fresh := true } }
  brake := false
  stand := false
  chip := .drive
  applied := ⟨.derate, 75, false, false, false, false⟩
  slew := ⟨30, 60, 10, 25, LastComputation.initial⟩

/-- Worked case "both ceilings at one expiry", its drive half. -/
theorem test_drive_ceilings :
    (compute bothCeilings).drive = ⟨90, 36, 54, 20, 80, 20, 54, 20, 70, 20, 62⟩ ∧ (compute bothCeilings).p = 75
      ∧ (compute bothCeilings).kFront = 250 ∧ (compute bothCeilings).kRear = 1000 := by decide

/-- Worked case "taper near a low ceiling": ceilings 7 and 11 at full throttle. -/
theorem test_taper :
    [(60, 0), (60, 45), (60, 60), (10, 0), (10, 4), (10, 10)].map
      (fun x : Nat × Nat => (driveCommand 1000 7 x.1 x.2, driveCommand 1000 11 x.1 x.2))
    = [(7, 11), (5, 8), (0, 0), (3, 5), (2, 3), (0, 0)] := by decide

/-- Worked case "braking with the cockpit silent": b 300 gives 4 and 7, b 1000 gives 16 and 24. -/
theorem test_regen_commands : regenCommand 300 16 = 4 ∧ regenCommand 300 24 = 7 ∧ regenCommand 1000 16 = 16
    ∧ regenCommand 1000 24 = 24 := by decide

/-! ## Chapters 9 and 10 -/

/-- R154: outside SERVICE a service command is refused REFUSED_STATE (result 3), here with the cockpit link UP. -/
theorem test_refused_outside_service :
    (after (.sweepCancel 9#8) (linked .up (some 0#8) 3)).replies = [⟨[[9#8, 0x18#8, 3#8, 1#8]]⟩] := by decide

/-- R15: a reply placed while the cockpit link is DOWN is dropped and counted. -/
theorem test_reply_dropped_when_down : (after (.queryEnvelope 9#8) service).ports.cockpit.counters.dropped = 1
    ∧ (after (.queryEnvelope 9#8) service).replies = [] := by decide

/-- R169, R116: a pushed override acts on the target at once, and SERVICE holds at least WALK. -/
theorem test_push_override :
    (after (.overridePush 1#8 0#8 0#8 4#8 1#8) service).control.target = ⟨.halt, 100, false, false, true, false⟩
    ∧ (after (.overridePush 1#8 0#8 0#8 0#8 0#8) service).control.target.level = .walk := by decide

/-- R60, R62: a first failing relation is reported by its number: WALK_SPEED 80 above LIMP_SPEED 30 is check 2. -/
theorem test_relation_reported :
    ({ Copy.builtin with params := { Params.builtin with walkSpeed := 80, limpSpeed := 30 } } : Copy).relationFailure
      = some ⟨.paramRelation, 2⟩ := by decide

/-- R179, R181: with no memory the copies are built-in and STORE_FAULT evidence is delivered. -/
theorem test_load_without_memory :
    (after (.loadImageReadDone .noAcknowledge) State.reset).table.slot 0 ≠ none
    ∧ (after (.loadImageReadDone .noAcknowledge) State.reset).store.op = .none
    ∧ Owed.endOfLoading ∈ (after (.loadImageReadDone .noAcknowledge) State.reset).owed := by decide

/-- R184: a RELOAD that finds no memory leaves the copies and reports that it failed. -/
theorem test_reload_without_memory :
    (after (.reloadReadDone .noAcknowledge) (storing .reloadRead)).owed.getLast? = some (.storeEnd .failed)
    ∧ (after (.reloadReadDone .noAcknowledge) (storing .reloadRead)).working = Copy.builtin := by decide

/-- A start-up LOAD after a RESET_N taken 3 ms after a page transfer, a latch-list rewrite already requested. -/
def loadRefused : State :=
  { State.reset with memoryBusy := 3, store := { Store.initial with refused := true, latchPending := true } }

/-- R176, R178, R188: the LOAD finds no memory, and the LATCH_WRITE that follows it within the 6 ms is refused too,
whatever its end says, and leaves the memory as it was. -/
theorem test_writing_memory_refuses_latch_write :
    (after (.loadImageReadDone (.returned [])) loadRefused).store.op = .latchPage
    ∧ (after (.latchPageWriteDone true) (after (.loadImageReadDone (.returned [])) loadRefused)).memory = []
    ∧ (after (.latchPageWriteDone true) (after (.loadImageReadDone (.returned [])) loadRefused)).store.op = .none := by
  decide +kernel

/-! ## Witnesses

For each statement with hypotheses, a state and operands that meet them together, clause by clause at the edges. -/

theorem witness_StepRunsFrontCommand :
    { State.reset with pending := [Instr.sweepExamination] }.pending = .sweepExamination :: []
    ∧ State.reset.pending = [] := by decide +kernel

theorem witness_PowerOnTakesPowerOnValues :
    ((transferring (.savePage 7) false).memory.wf = true ∧ (transferring (.savePage 7) false).store.refused = false
      ∧ (transferring (.savePage 7) false).store.op = .savePage 7 ∧ 224 = 32 * 7 ∧ 31 < 32
      ∧ 31 < (List.replicate 32 0#8).length ∧ (223 < 224 ∧ 224 + min 32 (List.replicate 32 0#8).length ≤ 256))
    ∧ ((transferring .latchPage false).memory.wf = true ∧ (transferring .latchPage false).store.refused = false
      ∧ (transferring .latchPage false).store.op = .latchPage ∧ 26 < 27
      ∧ 512 + min 27 (List.replicate 32 0#8).length ≤ 539)
    ∧ (transferring .latchPage true).store.refused = true
    ∧ ((storing .saveReadback).store.op ≠ .latchPage ∧ ∀ k, (storing .saveReadback).store.op ≠ .savePage k)
    ∧ (∀ c ∈ [Chan.envelope, .storeWait], ∀ p ∈ [Port.front, .rear, .pack, .cockpit], c ≠ p.channel) :=
  ⟨by decide +kernel, by decide +kernel, rfl, ⟨nofun, fun _ => nofun⟩, by decide⟩

/-- R187: a SAVE cut in its last page may leave any bytes in all 32 addresses of it, also beyond the image; the byte
after the page stays. -/
theorem test_cut_page_holds_any_bytes :
    (after (.powerOn .supply (some (List.replicate 32 7#8))) (transferring (.savePage 7) false)).memory.readAll 223 34
      = 255#8 :: List.replicate 32 7#8 ++ [255#8] := by decide +kernel

/-- R188: a cut LATCH_WRITE may leave any bytes in the 27 of the list, and no others (log 10). -/
theorem test_cut_latch_list_holds_any_bytes :
    (after (.powerOn .resetN (some (List.replicate 32 7#8))) (transferring .latchPage false)).memory.readAll 511 29
      = 255#8 :: List.replicate 27 7#8 ++ [255#8] := by decide +kernel

/-- A quiet DEMAND with SEQ 0 and the COMMAND QUERY_ENVELOPE with SEQ 0, as bodies. -/
def demandBody : List Byte := frameBody 0x12#8 0#8 demandPayload
def commandBody : List Byte := frameBody 0x13#8 0#8 [0x05#8]

theorem witness_DiscardedFrameOnlyCounts :
    (State.reset.port .front).inBreak = false
    ∧ bodyError (frameBody 0x11#8 0#8 []) = none ∧ acceptedKind .front (bodyKind (frameBody 0x11#8 0#8 [])) = none
    ∧ bodyError (frameBody 0x10#8 0#8 (List.replicate 12 0#8)) = none
    ∧ acceptedKind .front (bodyKind (frameBody 0x10#8 0#8 (List.replicate 12 0#8))) = some .motorReport
    ∧ malformed .motorReport (bodyPayload (frameBody 0x10#8 0#8 (List.replicate 12 0#8))) = true
    ∧ ((linked .up (some 0#8) 3).port .cockpit).inBreak = false ∧ bodyError demandBody = none
    ∧ acceptedKind .cockpit (bodyKind demandBody) = some .demand ∧ malformed .demand (bodyPayload demandBody) = false
    ∧ ((linked .up (some 0#8) 3).port .cockpit).seqRef = some (bodySeq demandBody) := by decide +kernel

theorem witness_AcceptedFrameMovesLink :
    bodyError demandBody = none ∧ acceptedKind .cockpit (bodyKind demandBody) = some .demand
    ∧ malformed .demand (bodyPayload demandBody) = false ∧ bodySeq demandBody = 0#8
    ∧ (∀ s ∈ [State.reset, linked .silent (some 255#8) 0, linked .joining (some 255#8) 1,
          linked .joining (some 255#8) 2, linked .joining (some 3#8) 2, linked .up (some 1#8) 3],
        (s.port .cockpit).inBreak = false ∧ (s.port .cockpit).seqRef ≠ some (bodySeq demandBody))
    ∧ (∀ r ∈ [3#8, 1#8], bodySeq demandBody ≠ r + 1#8) ∧ some 255#8 = some (bodySeq demandBody - 1#8)
    ∧ bodyError commandBody = none ∧ bodyKind commandBody = 0x13
    ∧ malformed .command (bodyPayload commandBody) = false ∧ State.reset.ports.cockpit.seqRef ≠ some (bodySeq commandBody)
    ∧ (List.replicate 3 (⟨[[]]⟩ : Reply)).length < 4 ∧ 4 ≤ (List.replicate 4 (⟨[[]]⟩ : Reply)).length := by decide +kernel

theorem witness_ReceiveErrorDiscardsFrame :
    (State.reset.port .pack).inBreak = false ∧ bodyError [0#8] = some .lengthMismatch
    ∧ bodyError [0x11#8, 0#8, 0#8, 0#8, 0#8] = some .crcMismatch := by decide +kernel

theorem witness_BreakTakesLinkDown :
    ∀ l ∈ [LinkState.down, .joining, .up, .silent], ((linked l (some 7#8) 1).port .rear).inBreak = false
      ∧ ((linked l (some 7#8) 1).port .rear).inFrame = false ∧ ((linked l (some 7#8) 1).port .rear).link = l := by decide +kernel

/-- A machine with FRONT in a break. -/
def broken : State := { State.reset with ports := State.reset.ports.set .front { LinkPort.initial with inBreak := true } }

theorem witness_BreakInFrameAndBreakEnd :
    ((framing .body [1#8]).port .front).inBreak = false ∧ ((framing .body [1#8]).port .front).inFrame = true
    ∧ ((framing .escaped []).port .front).inFrame = true ∧ (broken.port .front).inBreak = true := by decide +kernel

theorem witness_FreshnessExpirySilencesLink :
    (∀ l ∈ [LinkState.up, .joining], (running (linked l (some 7#8) 1) .freshPack).expiryInForce Port.pack.channel = true
      ∧ (running (linked l (some 7#8) 1) .freshPack).owes (Owed.isExpiry Port.pack.channel) = false
      ∧ ((running (linked l (some 7#8) 1) .freshPack).port .pack).link = l)
    ∧ (after (.timeBaseStep false false false) (running (linked .up (some 7#8) 3) .freshPack)).expiryInForce .freshPack
      = true
    ∧ (after (.timeBaseStep false false false) (running (linked .up (some 7#8) 3) .freshPack)).owes
      (Owed.isExpiry .freshPack) = true := by decide +kernel

theorem witness_FramerFollowsItsTable :
    (∀ x ∈ [framing .hunt [], framing .body [], framing .body [1#8], framing .body (List.replicate 44 1#8),
        framing .body (List.replicate 45 1#8), framing .escaped [], framing .escaped (List.replicate 44 1#8),
        framing .escaped (List.replicate 45 1#8)], (x.port .front).inBreak = false)
    ∧ ((framing .hunt []).port .front).framer = .hunt ∧ ((framing .body [1#8]).port .front).framer = .body
    ∧ ((framing .escaped []).port .front).framer = .escaped ∧ (List.replicate 44 1#8).length < 45
    ∧ 45 ≤ (List.replicate 45 1#8).length ∧ RxItem.byte 0xA6#8 ≠ .byte 0xA5#8 ∧ RxItem.framingError ≠ .byte 0xA5#8
    ∧ (0xA4#8 : Byte) ≠ 0xA5#8 ∧ (0xA7#8 : Byte) ≠ 0xA6#8 ∧ (0x24#8 : Byte) ≠ 0x25#8 ∧ (0x27#8 : Byte) ≠ 0x26#8 := by
  decide +kernel

theorem witness_SentFrameIsReceivedWhole :
    (State.reset.port .front).inBreak = false ∧ (State.reset.port .front).framer = .hunt ∧ [0xA5#8] ≠ []
    ∧ [0xA5#8].length ≤ 45 ∧ (List.replicate 45 0xA6#8).length ≤ 45 ∧ (List.replicate 40 0xA6#8).length ≤ 40 := by decide +kernel

/-- A machine with grants waiting at every port, and one with replies of one and of two parts. -/
def granting : State :=
  let x := { LinkPort.initial with grant := some (.pack ⟨.halt, 0, 0, false⟩), txSeq := 255#8 }
  { State.reset with ports := ⟨x, x, x, x⟩ }
def replying : State := { State.reset with replies := [⟨[[1#8], [2#8]]⟩, ⟨[[3#8]]⟩] }

theorem witness_TransmitterTakesGrantThenReplyPart :
    (granting.port .front).grant = some (.pack ⟨.halt, 0, 0, false⟩) ∧ (State.reset.port .rear).grant = none
    ∧ Port.rear ≠ .cockpit ∧ State.reset.replies = [] ∧ (replying.port .cockpit).grant = none
    ∧ replying.replies = ⟨[1#8] :: [[2#8]]⟩ :: [⟨[[3#8]]⟩] := by decide +kernel

/-! ### Chapters 2 and 3 -/

theorem witness_MotorReportReplacesRecord :
    State.reset.accepts (motorPort .front) .motorReport (frameBody 0x10#8 9#8 reportPayload) :=
  ⟨by decide, by decide +kernel, by decide +kernel, by decide +kernel, by decide +kernel⟩

theorem witness_PackReportReplacesRecord : State.reset.accepts .pack .packReport (frameBody 0x11#8 9#8 packPayload) :=
  ⟨by decide, by decide +kernel, by decide +kernel, by decide +kernel, by decide +kernel⟩

theorem witness_DemandReplacesCockpitRecord : State.reset.accepts .cockpit .demand demandBody :=
  ⟨by decide, by decide +kernel, by decide +kernel, by decide +kernel, by decide +kernel⟩

/-- A machine whose filters have counted four differing samples, CHECK and RECORD_TICK about to tick. -/
def counting : State :=
  let t := State.reset.timers.set .check ⟨.running, 1, 0⟩
  { State.reset with
    switches := ⟨⟨false, 4⟩, ⟨true, 3⟩, ⟨true, 4⟩⟩
    timers := ((t.set .recordTick ⟨.running, 1, 99⟩).set .serviceIdle ⟨.running, 1, 98⟩).set .envelope ⟨.running, 2, 0⟩ }

theorem witness_TimeBaseStepMovesChannelsAndFilters :
    (true ≠ counting.switches.brake.asserted ∧ 4 ≤ counting.switches.brake.run)
    ∧ (false ≠ counting.switches.stand.asserted ∧ counting.switches.stand.run < 4)
    ∧ (counting.timers.get .haltRamp).state ≠ .running
    ∧ (counting.timers.get .serviceIdle).state = .running
    ∧ (counting.timers.get .serviceIdle).phase + 1 < Chan.serviceIdle.tick
    ∧ (counting.timers.get .envelope).state = .running
    ∧ Chan.envelope.tick ≤ (counting.timers.get .envelope).phase + 1 ∧ 2 ≤ (counting.timers.get .envelope).count
    ∧ (counting.timers.get .recordTick).state = .running
    ∧ Chan.recordTick.tick ≤ (counting.timers.get .recordTick).phase + 1 ∧ (counting.timers.get .recordTick).count ≤ 1
    ∧ Chan.recordTick.mode = .reload ∧ Chan.storeWait.mode = .oneShot := by decide +kernel

theorem witness_SwitchChangeIsAccepted :
    Owed.switchChange .brake true ∈ (after (.timeBaseStep true false true) counting).owed
    ∧ Owed.switchChange .brake true ∉ State.reset.owed ∧ (State.reset.switches.get .brake).asserted ≠ true
    ∧ (State.reset.switches.get .stand).asserted = false := by decide +kernel

theorem witness_TimerOperationsMoveTheirChannel :
    (State.reset.timers.get .freshFront).state = .armed ∧ (State.reset.timers.get .freshFront).phase = 0
    ∧ (State.reset.timers.get .haltRamp).state = .stopped ∧ (State.reset.timers.get .haltRamp).phase = 0
    ∧ Chan.check ≠ .haltRamp ∧ Owed.isExpiry .check .announcement = false := by decide +kernel

/-! ### Chapters 4, 10 and 11 -/

theorem witness_ValidationReportsFirstFailure :
    Copy.builtin.relationFailure = none
    ∧ ({ Copy.builtin with params := { Params.builtin with thermStart := Params.builtin.thermStop } } : Copy).relationFailure
      = some ⟨.paramRelation, 1⟩
    ∧ ({ Copy.builtin with params := { Params.builtin with ecoPct := 100, tourPct := 99 } } : Copy).relationFailure
      = some ⟨.paramRelation, 5⟩
    ∧ ({ Copy.builtin with rows := { Rows.builtin with
          controlSwitchStuck := { Rows.builtin.controlSwitchStuck with packOpen := true } } } : Copy).relationFailure
      = some ⟨.rowRelation, 27⟩ := by decide +kernel

/-- The built-in copy with a STAND_MOVING row inside its ranges (log 30). -/
def storable : Copy :=
  { Copy.builtin with rows := { Rows.builtin with standMoving := { Rows.builtin.standMoving with confirm := 15 } } }

theorem storable_inRange : storable.params.inRange := fun p => by cases p <;> decide

theorem storable_rows : (∀ k, (storable.rows.get k).inRange = true) ∧ storable.rows.lockedBuiltin
    ∧ ∀ k, (storable.rows.get k).confirm ≤ 255 ∧ (storable.rows.get k).heal ≤ 255 ∧ (storable.rows.get k).recur ≤ 255
      ∧ (storable.rows.get k).derate ≤ 255 :=
  ⟨fun k => by cases k <;> decide, fun k => by cases k <;> decide, fun k => by cases k <;> decide⟩

theorem witness_StoredImageAndLatchListReadBack :
    storable.params.inRange ∧ (∀ k, (storable.rows.get k).inRange = true) ∧ storable.rows.lockedBuiltin
    ∧ (∀ k, (storable.rows.get k).confirm ≤ 255 ∧ (storable.rows.get k).heal ≤ 255
      ∧ (storable.rows.get k).recur ≤ 255 ∧ (storable.rows.get k).derate ≤ 255)
    ∧ storable.relationFailure = none
    ∧ Row.decode (Rows.builtin.get .linkLost).encode = some (Rows.builtin.get .linkLost)
    ∧ (List.replicate 8 (⟨.core, .storeFault, 15⟩ : LatchEntry)).length ≤ 8
    ∧ (∀ e ∈ [(⟨.core, .storeFault, 15⟩ : LatchEntry), ⟨.rear, .isolationFail, 1⟩],
        allowedPair e.unit e.kind = true ∧ 1 ≤ e.occurrences ∧ e.occurrences ≤ 15) :=
  ⟨storable_inRange, storable_rows.1, storable_rows.2.1, storable_rows.2.2, by decide, by decide, by decide, by decide⟩

/-! ### Chapter 5 -/

/-- A copy whose PHASE_OPEN row (N_c 2) is disabled. -/
def muted : Copy :=
  { Copy.builtin with rows := { Rows.builtin with phaseOpen := { Rows.builtin.phaseOpen with enabled := false } } }

/-- A table of one sound record, no sweep running, is sound. -/
theorem tableOf_one_ok (r : FaultRecord) (h : r.Ok) (hm : r.mark = false) : (tableOf [r]).Ok where
  places := by simp [tableOf, Config.slotCount]
  records := by simpa [tableOf, FaultTable.records] using h
  distinct := by simp [tableOf, FaultTable.records]
  full := by simp [tableOf, FaultTable.initial]
  lost := by simp [tableOf, FaultTable.initial]
  sweep := ⟨Nat.zero_le _, Nat.zero_le _, fun h => absurd rfl h⟩
  marks := fun _ => by simpa [tableOf, FaultTable.records] using hm

theorem rec0_ok (st : RecordState) (pol : Policy) (hc : st = .clearing → pol = .auto) (hl : st = .latched → pol ≠ .auto) :
    (rec0 .front .phaseOpen st 1 1 pol).Ok where
  pair := rfl
  run := by simp [rec0]
  occ := by simp [rec0]
  age := by simp [rec0]
  escalated := by simp [rec0]
  confirmed := by simp [rec0]
  clearing := by simpa [rec0] using hc
  latched := by simpa [rec0] using hl

theorem witness_EvidenceMovesExistingRecord :
    (∀ (u : FaultUnit) (k : Kind) (v : Option EvidenceValue), Delivery.evidence .front .isolationFail none = .evidence u k v →
      State.reset.table.evidence Copy.builtin 0#32 .front .isolationFail none = State.reset.table.evidence Copy.builtin 0#32 u k v)
    ∧ ((tableOf [rec0 .front .phaseOpen .pending 1 1 .key]).Ok ∧ (tableOf [rec0 .front .phaseOpen .latched 1 1 .key]).Ok)
    ∧ (∀ st ∈ [RecordState.pending, .active, .clearing, .latched, .dormant], ∀ pol ∈ [Policy.key, .workshop],
      (tableOf [rec0 .front .phaseOpen st 1 1 pol]).recordOf .front .phaseOpen = some (rec0 .front .phaseOpen st 1 1 pol)
      ∧ (rec0 .front .phaseOpen st 1 1 pol).run < 255)
    ∧ (muted.rows.get .phaseOpen).enabled = false ∧ (Copy.builtin.rows.get .phaseOpen).enabled = true
    ∧ (Copy.builtin.rows.get .phaseOpen).policy ≠ .workshop
    ∧ (Copy.builtin.rows.get .phaseOpen).confirm ≤ 1 + 1 ∧ 0 + 1 < (Copy.builtin.rows.get .phaseOpen).confirm
    ∧ 1 < (Copy.builtin.rows.get .phaseOpen).confirm ∧ (Copy.builtin.rows.get .phaseOpen).recur = 0
    ∧ (Copy.builtin.rows.get .linkLost).confirm ≤ 1 ∧ 0 < (Copy.builtin.rows.get .linkLost).recur
    ∧ (Copy.builtin.rows.get .linkLost).recur ≤ min 15 (2 + 1)
    ∧ min 15 (1 + 1) < (Copy.builtin.rows.get .linkLost).recur ∧ (FaultUnit.rear, Kind.phaseOpen) ≠ (.front, .phaseOpen) :=
  ⟨fun _ _ _ h => by cases h; rfl, ⟨tableOf_one_ok _ (rec0_ok _ _ (by decide) (by decide)) rfl,
    tableOf_one_ok _ (rec0_ok _ _ (by decide) (by decide)) rfl⟩, by decide +kernel⟩

/-- A table whose slots 0 to 38 hold ACTIVE records and whose slot 39 holds `r`. -/
def fullWith (r : FaultRecord) : FaultTable :=
  { FaultTable.initial with slots := List.replicate 39 (some (rec0 .front .phaseOpen .active 0 1 .key)) ++ [some r] }

theorem fullWith_slot (r : FaultRecord) : ∀ j e, (fullWith r).slot j = some e →
    (j < 39 ∧ e = rec0 .front .phaseOpen .active 0 1 .key) ∨ (j = 39 ∧ e = r) := by
  intro j e h
  rcases Nat.lt_trichotomy j 39 with hj | hj | hj
  · refine .inl ⟨hj, ?_⟩
    rw [FaultTable.slot, fullWith, List.getElem?_append_left (by simpa using hj), List.getElem?_replicate, if_pos hj] at h
    exact (Option.some.inj h).symm
  · subst hj
    exact .inr ⟨rfl, by simpa [FaultTable.slot, fullWith] using h.symm⟩
  · rw [FaultTable.slot, fullWith, List.getElem?_append_right (by simp; omega)] at h
    simp [show j - 39 ≠ 0 by omega] at h

/-- The three places of a new record: the lowest empty slot, the oldest DORMANT one, the oldest PENDING one that never
was confirmed; and a table that has none of them. -/
theorem witness_EvidenceMakesOrLosesRecord :
    ((tableOf []).recordOf .rear .linkLost = none ∧ (tableOf []).slot 0 = none
      ∧ (Copy.builtin.rows.get .linkLost).enabled = true ∧ (Copy.builtin.rows.get .linkLost).confirm ≤ 1
      ∧ 1 < (Copy.builtin.rows.get .phaseOpen).confirm ∧ (tableOf []).recordOf .front .phaseOpen = none
      ∧ (muted.rows.get .phaseOpen).enabled = false)
    ∧ (∀ d ∈ [rec0 .front .linkLost .dormant 0 1 .auto, rec0 .front .linkLost .dormant 0 1 .workshop,
        rec0 .front .linkLost .pending 1 0 .auto],
      (fullWith d).recordOf .rear .linkLost = none ∧ (∀ j, j < 40 → (fullWith d).slot j ≠ none)
      ∧ (fullWith d).slot 39 = some d
      ∧ ∀ j e, (fullWith d).slot j = some e → e.state = .dormant ∨ (e.state = .pending ∧ e.occurrences = 0) →
        39 ≤ j ∧ e = d)
    ∧ (∀ j e, (fullWith (rec0 .front .linkLost .pending 1 0 .auto)).slot j = some e → e.state ≠ .dormant)
    ∧ ∀ j e, (fullWith (rec0 .front .linkLost .pending 1 1 .auto)).slot j = some e →
      e.state ≠ .dormant ∧ (e.state = .pending → 0 < e.occurrences) := by
  refine ⟨by decide +kernel, ?_, ?_, ?_⟩
  · intro d hd
    refine ⟨?_, ?_, ?_, ?_⟩
    · revert d; decide +kernel
    · revert d; decide +kernel
    · revert d; decide +kernel
    · intro j e h hs
      rcases fullWith_slot d j e h with ⟨_, rfl⟩ | ⟨rfl, rfl⟩
      · simp [rec0] at hs
      · exact ⟨Nat.le_refl _, rfl⟩
  · intro j e h
    rcases fullWith_slot _ j e h with ⟨_, rfl⟩ | ⟨_, rfl⟩ <;> simp [rec0]
  · intro j e h
    rcases fullWith_slot _ j e h with ⟨_, rfl⟩ | ⟨_, rfl⟩ <;> simp [rec0]

theorem witness_CleanObservationHealsOrLatches :
    (tableOf [rec0 .front .phaseOpen .pending 1 1 .auto]).Ok ∧ (tableOf [rec0 .front .phaseOpen .active 1 1 .auto]).Ok
    ∧ (tableOf [rec0 .front .phaseOpen .clearing 1 1 .auto]).Ok ∧ (tableOf [rec0 .front .phaseOpen .latched 1 1 .key]).Ok
    ∧ (tableOf [rec0 .front .phaseOpen .dormant 1 1 .key]).Ok
    ∧ (tableOf [rec0 .front .phaseOpen .active 1 1 .auto]).recordOf .front .linkLost = none
    ∧ (tableOf [rec0 .front .phaseOpen .active 1 1 .auto]).recordOf .front .phaseOpen
      = some (rec0 .front .phaseOpen .active 1 1 .auto)
    ∧ (rec0 .front .phaseOpen .active 1 1 .auto).run < 255
    ∧ (Copy.builtin.rows.get .phaseOpen).policy ≠ .auto ∧ (Copy.builtin.rows.get .linkLost).policy = .auto :=
  ⟨tableOf_one_ok _ (rec0_ok _ _ (by decide) (by decide)) rfl, tableOf_one_ok _ (rec0_ok _ _ (by decide) (by decide)) rfl,
    tableOf_one_ok _ (rec0_ok _ _ (by decide) (by decide)) rfl, tableOf_one_ok _ (rec0_ok _ _ (by decide) (by decide)) rfl,
    tableOf_one_ok _ (rec0_ok _ _ (by decide) (by decide)) rfl, by decide, by decide, by decide, by decide, by decide⟩

theorem witness_RecordTickAgesRecords :
    (running (riding (tableOf [])) .recordTick).expiryInForce .recordTick = true
    ∧ (running (riding (tableOf [])) .recordTick).owes (Owed.isExpiry .recordTick) = false
    ∧ (tableOf [rec0 .front .phaseOpen .active 1 1 .key]).slot 1 = none
    ∧ (∀ st ∈ [RecordState.pending, .active, .clearing, .latched, .dormant],
      (tableOf [rec0 .front .phaseOpen st 1 1 .key]).slot 0 = some (rec0 .front .phaseOpen st 1 1 .key))
    ∧ 0 + 1 < Copy.builtin.params.dormantWindow
    ∧ Copy.builtin.params.dormantWindow ≤ (Copy.builtin.params.dormantWindow - 1) + 1
    ∧ Copy.builtin.params.dormantWindow - 1 < 65535 := by decide +kernel

/-- A table with a RUNNING sweep at slot 0 over one marked record. -/
def sweeping (m : SweepMode) (st : RecordState) (remaining : Nat) : FaultTable :=
  { tableOf [{ rec0 .front .phaseOpen st 1 1 .key with mark := true }] with
    sweep := ⟨.running, none, some .phaseOpen, m, 0, remaining, 0, .absent⟩ }

theorem witness_SweepExaminationFreesPassesOrStops :
    (∀ st ∈ [RecordState.pending, .active, .clearing, .latched, .dormant],
      (sweeping .stopAtLive st 1).sweep.state = .running
      ∧ (sweeping .stopAtLive st 1).slot 0 = some { rec0 .front .phaseOpen st 1 1 .key with mark := true }
      ∧ (sweeping .stopAtLive st 1).sweep.matchesRecord { rec0 .front .phaseOpen st 1 1 .key with mark := true } = true)
    ∧ (sweeping .stopAtLive .latched 1).sweep.remaining ≤ 1 ∧ 2 ≤ (sweeping .all .latched 2).sweep.remaining
    ∧ (sweeping .all .latched 2).sweep.cursor < 39 ∧ (sweeping .all .latched 2).slot 1 = none := by decide +kernel

/-! ### Chapter 6 -/

/-- A machine with every record fresh: wheel speeds `v` and `w`, motor currents `a` and `b`, pack current `i`. -/
def observing (v w : Nat) (a b i : Int) : State :=
  let s := running (chipAt .drive) .check
  { s with
    obs :=
      { front := { MotorRecord.initial with fresh := true, speed := v, dcCurrent := a, gate := .switching }
        rear := { MotorRecord.initial with fresh := true, speed := w, dcCurrent := b }
        pack := { PackRecord.initial with fresh := true, current := i }
        cockpit := { CockpitRecord.initial with fresh := true, demand := 101 } }
    switches := ⟨⟨true, 0⟩, ⟨true, 0⟩, ⟨true, 0⟩⟩
    monitor := ⟨true, true, false, false⟩ }

theorem witness_CheckExpiryDeliversVerdictsInOrder :
    (running (chipAt .drive) .check).expiryInForce .check = true
    ∧ ((running (chipAt .drive) .check).obs.pack.fresh && (running (chipAt .drive) .check).obs.front.fresh) = false
    ∧ (∀ s ∈ [observing 50 49 3 3 0, observing 100 100 3 4 0], s.expiryInForce .check = true
      ∧ (s.obs.pack.fresh && s.obs.front.fresh && s.obs.rear.fresh) = true ∧ s.obs.cockpit.fresh = true
      ∧ s.switches.brake.asserted = true ∧ 100 < s.obs.cockpit.demand ∧ s.switches.stand.asserted = true
      ∧ 50 ≤ max s.obs.front.speed s.obs.rear.speed)
    ∧ (∀ s ∈ [observing 50 49 3 3 0, observing 100 100 3 4 0], s.monitor.watchFront = true ∧ s.monitor.graceFront = false
      ∧ (s.obs.motor .front).fresh = true ∧ (s.obs.motor .front).gate = .switching
      ∧ (s.obs.motor .rear).gate = .blocked ∧ (s.obs.motor .rear).dcCurrent.natAbs ≤ s.working.params.isoCurrent)
    ∧ ((tableOf [rec0 .front .phaseOpen .pending 1 0 .key]).suspect .front = true
      ∧ (tableOf [rec0 .front .phaseOpen .pending 1 0 .key]).suspect .rear = false
      ∧ (tableOf [rec0 .rear .phaseOpen .latched 0 1 .key, rec0 .front .curBalance .active 0 1 .auto]).suspect .front = false
      ∧ (tableOf [rec0 .rear .phaseOpen .latched 0 1 .key, rec0 .front .curBalance .active 0 1 .auto]).suspect .rear = true)
    ∧ (observing 50 49 3 3 0).working.params.balAbs = 6
    ∧ ((observing 50 49 3 3 0).obs.pack.current - (3 + 3)).natAbs ≤ 6
    ∧ 6 < ((observing 100 100 3 4 0).obs.pack.current - (3 + 4)).natAbs
    ∧ 100 ≤ max (observing 100 100 3 4 0).obs.front.speed 100 ∧ max (observing 49 49 0 0 0).obs.front.speed 49 < 50
    ∧ max (observing 99 99 0 0 0).obs.front.speed 99 < 100 := by decide +kernel

/-! ### Chapter 7 -/

/-- A DRIVE machine with the links in a state. -/
def allLinks (c : Chip) (l : LinkState) : State := { linked l (some 7#8) 3 with control := { Control.initial with chip := c } }

theorem witness_TargetFollowsContainedRecords :
    ∀ c ∈ [Chip.loading, .standby, .drive, .service, .shutdown],
      targetFor c Copy.builtin (tableOf [rec0 .front .linkNoise .active 0 1 .auto]) [⟨true, false, .limp, true⟩]
        = targetFor c Copy.builtin (tableOf [rec0 .front .linkNoise .active 0 1 .auto]) [⟨true, false, .limp, true⟩]
      ∧ rec0 .front .linkNoise .active 0 1 .auto ∈ (tableOf [rec0 .front .linkNoise .active 0 1 .auto]).contained
      ∧ (Copy.builtin.rows.get .linkNoise).floor = .derate := by decide +kernel

theorem allUp_holds : (allLinks .standby .up).DriveTestHolds false := ⟨rfl, rfl, .inl ⟨rfl, rfl⟩⟩

theorem allDown_fails (g : Bool) : ¬ (allLinks .standby .down).DriveTestHolds g := fun h => nomatch h.1

theorem witness_AnnouncementAndLinkNoticeMakeDriveTest :
    ((allLinks .standby .up).control.chip = .standby
      ∧ (allLinks .standby .up).DriveTestHolds (allLinks .standby .up).control.gatherDone)
    ∧ ¬ (allLinks .standby .down).DriveTestHolds (allLinks .standby .down).control.gatherDone
    ∧ (allLinks .drive .up).control.chip ≠ .standby := ⟨⟨rfl, allUp_holds⟩, allDown_fails _, by decide⟩

theorem witness_GatherEndsWithItsBatch :
    (∀ l ∈ [LinkState.down, .joining, .up, .silent], (running (allLinks .standby l) .gather).control.chip = .standby
      ∧ (running (allLinks .standby l) .gather).expiryInForce .gather = true
      ∧ ((running (allLinks .standby l) .gather).port .rear).link = l)
    ∧ ({ allLinks .standby .down with owed := [.gatherBatch true] } : State).batchIsCurrent = true
    ∧ (allLinks .drive .down).control.chip ≠ .standby := by decide

/-- A LOADING machine whose LOAD has ended. -/
def loaded (awake : Bool) (l : LinkState) : State :=
  { allLinks .loading l with
    control := { Control.initial with awake := awake }, store := { Store.initial with op := .none }, owed := [.endOfLoading] }

theorem witness_EndOfLoadingStartsTheMachine :
    (∀ s ∈ [loaded false .down, loaded true .up, loaded true .down],
      s.control.chip = .loading ∧ Owed.endOfLoading ∈ s.owed)
    ∧ (loaded false .down).control.awake = false ∧ (loaded true .up).control.awake = true
    ∧ (loaded true .up).DriveTestHolds false ∧ ¬ (loaded true .down).DriveTestHolds false :=
  ⟨by decide, rfl, rfl, ⟨rfl, rfl, .inl ⟨rfl, rfl⟩⟩, fun h => nomatch h.1⟩

theorem witness_WakeRisingIsKeyCycleInShutdown :
    (allLinks .shutdown .up).control.chip = .shutdown ∧ (allLinks .drive .up).control.chip ≠ .shutdown
    ∧ (allLinks .shutdown .up).DriveTestHolds false ∧ ¬ (allLinks .shutdown .down).DriveTestHolds false
    ∧ (tableOf [rec0 .front .phaseOpen .latched 0 1 .key]).slot 0 = some (rec0 .front .phaseOpen .latched 0 1 .key)
    ∧ (tableOf [rec0 .front .storeFault .latched 0 1 .workshop]).slot 0
      = some (rec0 .front .storeFault .latched 0 1 .workshop) :=
  ⟨rfl, by decide, ⟨rfl, rfl, .inl ⟨rfl, rfl⟩⟩, (fun h => nomatch h.1), by decide +kernel, by decide +kernel⟩

theorem witness_WakeFallingShutsDown :
    (∀ c ∈ [Chip.loading, .standby, .drive, .service, .shutdown], (chipAt c).control.chip = c)
    ∧ (spoilt.control.chip = .service ∧ spoilt.working.relationFailure ≠ none ∧ spoilt.table.sweep.state = .idle)
    ∧ ({ service with table := sweeping .all .latched 2 } : State).control.chip = .service
    ∧ ({ service with table := sweeping .all .latched 2 } : State).working.relationFailure = none
    ∧ (sweeping .all .latched 2).sweep.state ≠ .idle := by decide +kernel

/-- A DRIVE machine at HALT with the ramp in progress, its target FULL, every record fresh, the wheels at `v`. -/
def halting (v demand : Nat) : State :=
  { observing v v 0 0 0 with
    obs := { (observing v v 0 0 0).obs with cockpit := { CockpitRecord.initial with fresh := true, demand := demand } }
    control := { Control.initial with
      chip := .drive, ramp := true, permitFront := true, permitRear := true
      target := ⟨.full, 100, false, false, false, false⟩ }
    timers := State.reset.timers.set .haltRamp ⟨.running, 1, 0⟩ }

/-- The same machine in LIMP with FRONT isolated, its target FULL with none isolated. -/
def relaxing : State :=
  { halting 10 0 with control := { (halting 10 0).control with ramp := false, applied := ⟨.limp, 100, true, false, false, false⟩ } }

theorem witness_ArrivalNoticesReleaseGateAndRamp :
    Reporter.front ≠ .cockpit
    ∧ ((halting 9 1).control.ramp = true ∧ (halting 9 1).obs.front.fresh = true ∧ (halting 9 1).obs.rear.fresh = true
      ∧ (halting 9 1).obs.front.speed < 10 ∧ (halting 9 1).obs.rear.speed < 10)
    ∧ 10 ≤ (halting 10 1).obs.front.speed ∧ State.reset.control.ramp = false
    ∧ ((halting 9 0).obs.cockpit.fresh = true ∧ (halting 9 0).obs.cockpit.demand = 0
      ∧ (halting 9 0).control.target.level.rank < (halting 9 0).control.applied.level.rank)
    ∧ (relaxing.obs.cockpit.fresh = true ∧ relaxing.obs.cockpit.demand = 0 ∧ relaxing.control.applied.isoFront = true
      ∧ relaxing.control.target.isoFront = false ∧ relaxing.control.applied.level ≠ .halt)
    ∧ ¬ ((halting 9 1).obs.cockpit.fresh = true ∧ (halting 9 1).obs.cockpit.demand = 0) := by decide

theorem witness_HaltRampExpiryDropsPermits :
    (halting 9 0).expiryInForce .haltRamp = true ∧ (halting 9 0).control.ramp = true
    ∧ (halting 9 0).owes (Owed.isExpiry .haltRamp) = false ∧ (halting 9 0).timers.haltRamp.state = .running
    ∧ State.reset.expiryInForce .haltRamp = false ∧ State.reset.timers.haltRamp.state ≠ .running
    ∧ (after (.timeBaseStep false false false) (halting 9 0)).owes (Owed.isExpiry .haltRamp) = true := by decide

/-! ### Chapter 8 -/

theorem bothCeilings_ok : bothCeilings.obs.Ok :=
  ⟨⟨by decide, by decide, by decide, by decide, by decide⟩, ⟨by decide, by decide, by decide, by decide, by decide⟩,
    ⟨by decide, by decide, by decide, by decide, by decide, by decide⟩, ⟨by decide, by decide⟩⟩

theorem witness_EnvelopeStagesFollowTheirRules :
    bothCeilings.obs.Ok ∧ bothCeilings.params.inRange ∧ bothCeilings.applied.derate ≤ 100
    ∧ bothCeilings.obs.cockpit.profile = .sport ∧ bothCeilings.applied.level = .derate ∧ bothCeilings.chip ≠ .service
    ∧ bothCeilings.applied.regenInhibit = false ∧ bothCeilings.applied.isoFront = false
    ∧ (bothCeilings.params.thermStart : Int) < bothCeilings.obs.front.motorTemp
    ∧ bothCeilings.obs.front.motorTemp < bothCeilings.params.thermStop
    ∧ bothCeilings.obs.rear.motorTemp ≤ bothCeilings.params.thermStart
    ∧ (compute bothCeilings).drive.aimFront ≤ bothCeilings.slew.pFront
    ∧ bothCeilings.slew.pRear < (compute bothCeilings).drive.aimRear
    ∧ (compute bothCeilings).v + 20 ≤ (compute bothCeilings).vCeil :=
  ⟨bothCeilings_ok, fun p => by cases p <;> decide, by decide, rfl, rfl, by decide, rfl, rfl, by decide, by decide,
    by decide, by decide, by decide, by decide⟩

/-- A table with two contained WORKSHOP records that tie: the same row, first confirmed at the same time. -/
def tied : FaultTable :=
  tableOf [rec0 .rear .isolationFail .active 0 1 .workshop, rec0 .front .isolationFail .latched 0 1 .workshop]

theorem witness_EnvelopeExpiryPlacesGrants :
    (running (allLinks .drive .up) .envelope).expiryInForce .envelope = true
    ∧ (running (allLinks .drive .up) .envelope).control.chip ≠ .loading
    ∧ (∀ l ∈ [LinkState.down, .joining, .up, .silent], ((running (allLinks .drive l) .envelope).port .pack).link = l)
    ∧ (tied.slot 0 = some (rec0 .rear .isolationFail .active 0 1 .workshop)
      ∧ tied.slot 1 = some (rec0 .front .isolationFail .latched 0 1 .workshop)
      ∧ rec0 .rear .isolationFail .active 0 1 .workshop ∈ tied.contained
      ∧ rec0 .front .isolationFail .latched 0 1 .workshop ∈ tied.contained
      ∧ (rec0 .front .isolationFail .latched 0 1 .workshop).firstConfirmed = some 1#32) := by
  decide +kernel

/-! ### Chapter 9 -/

/-- A machine with a cockpit link in a state and `n` replies waiting. -/
def waiting (l : LinkState) (n : Nat) : State := { linked l (some 7#8) 3 with replies := List.replicate n ⟨[[0#8]]⟩ }

theorem witness_QueriesAreAnsweredAndChangeNothing :
    ((waiting .up 3).replies.length < 4 ∧ (waiting .up 3).ports.cockpit.link ≠ .down)
    ∧ 4 ≤ (waiting .up 4).replies.length ∧ (waiting .down 0).ports.cockpit.link = .down
    ∧ 40 ≤ (40#8 : Byte).toNat ∧ (39#8 : Byte).toNat < 40 ∧ 4 ≤ (4#8 : Byte).toNat ∧ (3#8 : Byte).toNat = Port.cockpit.unit.code
    ∧ 28 ≤ (28#8 : Byte).toNat ∧ (27#8 : Byte).toNat = Kind.controlSwitchStuck.code ∧ 29 ≤ (29#8 : Byte).toNat
    ∧ (28#8 : Byte).toNat = Param.serviceIdle.number
    ∧ ((tableOf [rec0 .front .phaseOpen .active 0 1 .key]).recordsFrom 0).length < 4
    ∧ ((fullWith (rec0 .front .linkLost .dormant 0 1 .auto)).recordsFrom 36)[3]?
      = some (39, rec0 .front .linkLost .dormant 0 1 .auto) := by decide +kernel

theorem witness_ServiceCommandsNeedService :
    (∀ c ∈ [Chip.loading, .standby, .drive, .shutdown], (chipAt c).control.chip ≠ .service)
    ∧ (Instr.storeSave 9#8 = .storeSave 9#8 ∧ (0x13#8 : Byte) = 0x13#8) := by decide

/-- A machine with the stand accepted down or up, the wheels at `v` and the demand at `d`, all fresh. -/
def entering (c : Chip) (stand : Bool) (v d : Nat) : State :=
  { halting v d with control := { Control.initial with chip := c }, switches := ⟨⟨false, 0⟩, ⟨stand, 0⟩, ⟨true, 0⟩⟩ }

theorem witness_ServiceEnterChecksAndEnters :
    (entering .loading true 0 0).control.chip = .loading ∧ (entering .shutdown true 0 0).control.chip = .shutdown
    ∧ service.control.chip = .service ∧ (entering .drive false 0 0).control.chip = .drive
    ∧ (entering .drive false 0 0).switches.stand.asserted = false
    ∧ (entering .standby true 10 0).switches.stand.asserted = true
    ∧ ((entering .standby true 10 0).obs.front.fresh = true ∧ 10 ≤ (entering .standby true 10 0).obs.front.speed)
    ∧ ((entering .standby true 9 1).obs.front.speed < 10 ∧ (entering .standby true 9 1).obs.rear.speed < 10
      ∧ (entering .standby true 9 1).obs.cockpit.fresh = true ∧ 0 < (entering .standby true 9 1).obs.cockpit.demand)
    ∧ (entering .standby true 9 0).obs.cockpit.demand = 0 := by decide

/-- A machine in SERVICE with a SAVE handed over. -/
def saving : State := { service with store := { Store.initial with op := .savePage 0, busy := true }, deferred := some (.save 9#8) }

theorem witness_RowAndParamWritesChangeWorkingCopy :
    saving.control.chip = .service ∧ saving.store.busy = true ∧ service.control.chip = .service
    ∧ service.store.busy = false ∧ 28 ≤ (28#8 : Byte).toNat ∧ (0#8 : Byte).toNat = Kind.linkLost.code
    ∧ Kind.isolationFail.isLocked = true ∧ (8#8 : Byte).toNat = Kind.isolationFail.code ∧ Kind.linkLost.isLocked = false
    ∧ Row.decode ⟨0#8, 0#8, 0#8, 0#8, 0#8, 0#8⟩ = none
    ∧ Row.decode (Rows.builtin.get .linkLost).encode = some (Rows.builtin.get .linkLost)
    ∧ 29 ≤ (29#8 : Byte).toNat ∧ (1#8 : Byte).toNat = Param.thermStart.number
    ∧ (59#16 : Half).toNat < Param.thermStart.low ∧ Param.thermStart.low ≤ (60#16 : Half).toNat
    ∧ (180#16 : Half).toNat ≤ Param.thermStart.high ∧ Param.thermStart.high < (181#16 : Half).toNat := by decide

theorem witness_SaveAndReloadAnswerAtTheirEnd :
    saving.control.chip = .service ∧ saving.store.busy = true ∧ service.store.busy = false ∧ service.store.op = .none
    ∧ service.store.latchPending = false ∧ service.store.savePending = false
    ∧ ({ Store.initial with op := .latchPage } : Store).op ≠ .none
    ∧ (∀ e ∈ [StoreEnd.ok, .failed, .invalid ⟨.rowRange, 7⟩],
        ({ saving with owed := [.announcement, .storeEnd e] } : State).owed = [Owed.announcement] ++ .storeEnd e :: [])
    ∧ (∀ x ∈ [Owed.announcement], Owed.isStoreEnd x = false) ∧ saving.deferred = some (.save 9#8)
    ∧ (.save 9#8 = Deferred.save 9#8 ∧ (0x13#8 : Byte) = 0x13#8) := by decide

/-- A machine in SERVICE with a table of one record. -/
def clearingTable (st : RecordState) : State :=
  { service with table := tableOf [rec0 .front .phaseOpen st 1 1 .workshop] }

theorem witness_RecordClearFreesReleasedRecord :
    service.control.chip = .service ∧ 40 ≤ (40#8 : Byte).toNat ∧ (39#8 : Byte).toNat < 40
    ∧ service.table.slot (39#8 : Byte).toNat = none
    ∧ (∀ st ∈ [RecordState.pending, .active, .clearing, .latched, .dormant], (clearingTable st).control.chip = .service
      ∧ (clearingTable st).table.slot (0#8 : Byte).toNat = some (rec0 .front .phaseOpen st 1 1 .workshop)
      ∧ (clearingTable st).table.tableFull = false) := by decide +kernel

theorem witness_SweepCommandsMoveTheSweep :
    service.control.chip = .service
    ∧ (40 ≤ (40#8 : Byte).toNat ∧ (4 < (5#8 : Byte).toNat ∧ (5#8 : Byte).toNat ≠ 255)
      ∧ (4 < (254#8 : Byte).toNat ∧ (254#8 : Byte).toNat ≠ 255) ∧ (27 < (28#8 : Byte).toNat ∧ (28#8 : Byte).toNat ≠ 255)
      ∧ 1 < (2#8 : Byte).toNat ∧ (0#8 : Byte).toNat = 0 ∧ 40 < (41#8 : Byte).toNat)
    ∧ ((255#8 : Byte).toNat = 255 ∧ (4#8 : Byte).toNat = FaultUnit.core.code ∧ (27#8 : Byte).toNat = Kind.controlSwitchStuck.code
      ∧ (0#8 : Byte).toNat = 0 ∧ (1#8 : Byte).toNat = 1 ∧ (39#8 : Byte).toNat < 40 ∧ 1 ≤ (1#8 : Byte).toNat
      ∧ (40#8 : Byte).toNat ≤ 40)
    ∧ service.table.sweep.state = .idle
    ∧ ({ service with table := sweeping .all .latched 2 } : State).table.sweep.state ≠ .idle
    ∧ ({ service with table := sweeping .all .latched 2 } : State).table.sweep.state ≠ .suspended
    ∧ (⟨.suspended, none, none, .all, 0, 1, 0, .absent⟩ : Sweep).state = .suspended := by decide +kernel

/-- A machine in SERVICE with `n` override entries. -/
def stacked (n : Nat) : State := after (.sweepCancel 0#8) { service with
  control := { service.control with overrides := List.replicate n ⟨false, false, .halt, false⟩ } }

theorem witness_OverridesMoveTheStack :
    (∀ n ∈ [0, 1, 7, 8], (stacked n).control.chip = .service)
    ∧ 1 < (2#8 : Byte).toNat ∧ 4 < (5#8 : Byte).toNat
    ∧ Instr.overridePush 9#8 1#8 0#8 4#8 1#8
      = .overridePush 9#8 (flagByte true) (flagByte false) (byteOf Level.halt.rank) (flagByte true)
    ∧ 8 ≤ (stacked 8).control.overrides.length ∧ (stacked 7).control.overrides.length < 8
    ∧ (stacked 0).control.overrides = []
    ∧ (stacked 1).control.overrides = ⟨false, false, .halt, false⟩ :: [] := by decide +kernel

theorem witness_LeavesOfServiceValidate :
    saving.control.chip = .service ∧ saving.store.busy = true ∧ spoilt.control.chip = .service
    ∧ spoilt.store.busy = false ∧ spoilt.working.relationFailure = some ⟨.paramRelation, 2⟩
    ∧ service.working.relationFailure = none ∧ spoilt.expiryInForce .serviceIdle = true
    ∧ (running (chipAt .drive) .serviceIdle).expiryInForce .serviceIdle = true
    ∧ (running (chipAt .drive) .serviceIdle).control.chip ≠ .service ∧ service.table.sweep.state = .idle
    ∧ (sweeping .all .latched 2).sweep.state ≠ .idle := by decide +kernel

/-! ### Chapter 10 -/

/-- A head of 230 bytes followed by its own CRC passes the CRC test. -/
theorem crcGood_append (h : List Byte) (hl : h.length = 230) : imageCrcGood (h ++ crcBytes h) = true := by
  have h2 : (crcBytes h).length = 2 := rfl
  rw [imageCrcGood, ← hl, List.take_left, List.drop_left, ← h2, List.take_length]
  exact beq_self_eq_true _

theorem encodeImage_good : imageCrcGood (encodeImage storable) = true ∧ imageHeaderGood (encodeImage storable) = true
    ∧ imageFailure (encodeImage storable) = none ∧ (encodeImage storable).length = 232 :=
  ⟨crcGood_append _ (by decide +kernel), by decide +kernel, by decide +kernel, by decide +kernel⟩

theorem encodeBuiltin_good : imageCrcGood (encodeImage Copy.builtin) = true
    ∧ imageHeaderGood (encodeImage Copy.builtin) = true ∧ imageFailure (encodeImage Copy.builtin) = some ⟨.rowRange, 7⟩ :=
  ⟨crcGood_append _ (by decide +kernel), by decide +kernel, by decide +kernel⟩

theorem readAll_range (m : Memory) (a n : Nat) : m.readAll a n = (List.range' a n).map m.read := by
  induction n generalizing a with
  | zero => rfl
  | succ n ih => simp [Memory.readAll, List.range'_succ, ih]

/-- What a run of writes put in an empty memory, read back. -/
theorem readAll_written (l : List Byte) :
    (Memory.writeAll [] 0 l).readAll 0 l.length = l := by
  rw [readAll_range]
  refine List.ext_getElem (by simp) fun i h1 h2 => ?_
  rw [List.getElem_map, List.getElem_range', Memory.read_writeAll rfl 0 l]
  simp [h2]

theorem witness_LoadReadsImageThenLatchList :
    imageHeaderGood (List.replicate 232 255#8) = false ∧ imageCrcGood [] = false
    ∧ (imageCrcGood (encodeImage storable) = true ∧ imageHeaderGood (encodeImage storable) = true
      ∧ imageFailure (encodeImage storable) = none)
    ∧ (imageCrcGood (encodeImage Copy.builtin) = true ∧ imageHeaderGood (encodeImage Copy.builtin) = true
      ∧ imageFailure (encodeImage Copy.builtin) = some ⟨.rowRange, 7⟩)
    ∧ State.reset.store.op = .loadImage ∧ State.reset.store.refused = false
    ∧ (transferring .loadImage true).store.op = .loadImage ∧ (transferring .loadImage true).store.refused = true
    ∧ (∀ i ∈ [ImageOutcome.valid storable, .crc, .invalid ⟨.rowRange, 7⟩],
        (storing (.loadLatches i)).store.op = .loadLatches i ∧ i ≠ .noMemory)
    ∧ testLatches (encodeLatches []) = .valid [] ∧ testLatches (List.replicate 27 255#8) = .invalid :=
  ⟨by decide +kernel, by decide +kernel, ⟨encodeImage_good.1, encodeImage_good.2.1, encodeImage_good.2.2.1⟩,
    encodeBuiltin_good, rfl, rfl, rfl, rfl, by decide +kernel, by decide +kernel, by decide +kernel⟩

/-- A machine about to write the latch list. -/
def latching : State :=
  { chipAt .drive with store := { Store.initial with op := .latchPage, latchBuffer := encodeLatches [⟨.rear, .isolationFail, 1⟩] } }

theorem witness_LatchWriteStoresSnapshot :
    latching.store.op = .latchPage ∧ latching.store.latchBuffer.length = 27 ∧ latching.memory.wf = true
    ∧ latching.store.op ≠ .none ∧ service.store.op = .none ∧ latching.store.refused = false
    ∧ (transferring .latchPage true).store.op = .latchPage ∧ (transferring .latchPage true).store.refused = true
    ∧ (transferring .latchPage true).store.latchBuffer.length = 27 ∧ (transferring .latchPage true).memory.wf = true
    ∧ latching.store.latchPending = false ∧ latching.store.savePending = false ∧ latching.store.reloadPending = false
    ∧ rec0 .front .isolationFail .latched 0 1 .workshop ∈ tied.contained
    ∧ tied.workshopContained.length ≤ 8 := by decide +kernel

/-- A machine in a step of a SAVE of `storable`, with its image. -/
def savingAt (op : StoreOp) : State :=
  { running service .storeWait with store := { Store.initial with op := op, busy := true, imageBuffer := encodeImage storable } }

theorem witness_SaveWritesPagesAndVerifies :
    ((savingAt (.savePage 7)).store.op = .savePage 7 ∧ (savingAt (.savePage 7)).memory.wf = true
      ∧ (savingAt (.savePage 7)).store.refused = false)
    ∧ (∀ op ∈ [StoreOp.savePage 0, .saveReadback], (transferring op true).store.op = op
      ∧ (transferring op true).store.refused = true)
    ∧ ((savingAt (.saveWait 6)).store.op = .saveWait 6 ∧ (savingAt (.saveWait 7)).store.op = .saveWait 7
      ∧ (savingAt (.saveWait 7)).expiryInForce .storeWait = true)
    ∧ ((savingAt .latchWait).store.op = .latchWait ∧ (savingAt .latchWait).expiryInForce .storeWait = true)
    ∧ returnedBytes (savingAt .saveReadback).memory [] 0 232 ≠ (savingAt .saveReadback).store.imageBuffer
    ∧ (savingAt .saveReadback).store.op = .saveReadback ∧ (savingAt .saveReadback).store.refused = false
    ∧ (savingAt .saveReadback).store.imageBuffer = encodeImage storable ∧ storable.Ok
    ∧ (∀ k, (storable.rows.get k).confirm ≤ 255 ∧ (storable.rows.get k).heal ≤ 255
      ∧ (storable.rows.get k).recur ≤ 255 ∧ (storable.rows.get k).derate ≤ 255)
    ∧ returnedBytes (Memory.writeAll [] 0 (encodeImage storable)) [] 0 232 = encodeImage storable := by
  refine ⟨⟨rfl, rfl, rfl⟩, by decide +kernel, ⟨rfl, rfl, rfl⟩, ⟨rfl, rfl⟩, fun h => ?_, rfl, rfl, rfl, ⟨storable_inRange, storable_rows.2.1⟩,
    storable_rows.2.2, ?_⟩
  · exact absurd (congrArg List.head? h) (by decide +kernel)
  · rw [returnedBytes_nil, ← encodeImage_good.2.2.2]
    exact readAll_written _

theorem witness_WholeSaveLeavesImageInMemory :
    (savingAt (.savePage 0)).store.op = .savePage 0 ∧ (savingAt (.savePage 0)).store.imageBuffer.length = 232
    ∧ (savingAt (.savePage 0)).store.refused = false
    ∧ (savingAt (.savePage 0)).memory.wf = true ∧ ∀ f, Owed.expiry .storeWait f ∉ (savingAt (.savePage 0)).owed :=
  ⟨rfl, encodeImage_good.2.2.2, rfl, rfl, fun _ => List.not_mem_nil⟩

theorem witness_ReloadReplacesBothCopiesOrNone :
    (savingAt .reloadRead).store.op = .reloadRead ∧ (savingAt .reloadRead).store.refused = false
    ∧ (transferring .reloadRead true).store.op = .reloadRead ∧ (transferring .reloadRead true).store.refused = true
    ∧ testImage (returnedBytes (savingAt .reloadRead).memory [] 0 232) = .crc
    ∧ testImage (encodeImage storable) = .valid storable
    ∧ testImage (encodeImage Copy.builtin) = .invalid ⟨.rowRange, 7⟩ := by
  have hv : imageCopy (encodeImage storable) = storable := by decide +kernel
  have hh : imageHeaderGood (returnedBytes (savingAt .reloadRead).memory [] 0 232) = false := by decide +kernel
  refine ⟨rfl, rfl, rfl, rfl, by simp [testImage, hh], ?_, ?_⟩
  · simp [testImage, encodeImage_good.1, encodeImage_good.2.1, encodeImage_good.2.2.1, hv]
  · simp [testImage, encodeBuiltin_good.1, encodeBuiltin_good.2.1, encodeBuiltin_good.2.2]

theorem witness_WritingMemoryAcknowledgesNothing :
    (∀ op ∈ [StoreOp.loadImage, .saveReadback, .reloadRead, .loadLatches .crc, .savePage 7, .latchPage],
      (transferring op true).store.op = op ∧ (transferring op true).store.refused = true)
    ∧ (after (.loadImageReadDone .noAcknowledge) loadRefused).store.op ≠ loadRefused.store.op
    ∧ (after (.loadImageReadDone .noAcknowledge) loadRefused).store.refused = true
    ∧ (after (.savePageWriteDone true) (transferring (.savePage 7) false)).store.op ≠ .savePage 7
    ∧ (after (.savePageWriteDone true) (transferring (.savePage 7) false)).store.refused = false := by decide +kernel

/-! ### Invariants: a state that meets each, with a command that the step takes -/

theorem witness_EveryStepKeepsMemoryOk :
    State.MemoryOk { savingAt (.savePage 7) with pending := [.savePageWriteDone true] }
    ∧ ∃ t, step { savingAt (.savePage 7) with pending := [.savePageWriteDone true] } = .next t :=
  ⟨⟨by decide +kernel, Nat.zero_le _, Nat.le_refl 7, fun _ h => absurd h (Nat.lt_irrefl 0), fun _ => rfl⟩, _, rfl⟩

theorem witness_EveryStepKeepsFaultTableOk :
    FaultTable.Ok { riding (tableOf [rec0 .front .phaseOpen .active 1 1 .key]) with pending := [.lineBreak .rear] }.table
    ∧ ∃ t, step { riding (tableOf [rec0 .front .phaseOpen .active 1 1 .key]) with pending := [.lineBreak .rear] } = .next t :=
  ⟨tableOf_one_ok _ (rec0_ok _ _ (by decide) (by decide)) rfl, _, rfl⟩

theorem witness_EveryStepKeepsLinesAndAppliedState :
    Control.Ok { halting 9 0 with pending := [.haltRampExpiry] }.control
    ∧ ∃ t, step { halting 9 0 with pending := [.haltRampExpiry] } = .next t :=
  ⟨⟨⟨by decide, by decide, by decide, by decide, by decide, by decide⟩, by decide, by decide, by decide, by decide, by decide⟩,
    _, rfl⟩

theorem witness_EveryStepKeepsChipStateOk :
    State.ChipOk { stacked 8 with pending := [.serviceLeave 9#8] }
    ∧ ∃ t, step { stacked 8 with pending := [.serviceLeave 9#8] } = .next t := by
  refine ⟨⟨?_, ?_, ?_, ?_, ?_, ?_, ?_⟩, _, rfl⟩ <;> (try unfold State.runs) <;> decide +kernel

theorem witness_EveryStepKeepsLinksOk :
    State.LinksOk { State.reset with pending := [.frameReceived .cockpit demandBody] }
    ∧ ∃ t, step { State.reset with pending := [.frameReceived .cockpit demandBody] } = .next t := by
  refine ⟨⟨fun p => ⟨?_, ?_, ?_, ?_, ?_, ?_, ⟨?_, ?_, ?_, ?_, ?_, ?_, ?_, ?_, ?_⟩⟩, by decide⟩, _, rfl⟩ <;> cases p <;> decide

theorem witness_EveryStepKeepsEnvelopeOk :
    State.EnvelopeOk { running (allLinks .drive .up) .envelope with obs := bothCeilings.obs, pending := [.envelopeExpiry] }
    ∧ ∃ t, step { running (allLinks .drive .up) .envelope with obs := bothCeilings.obs, pending := [.envelopeExpiry] }
      = .next t := by
  have hb : Copy.builtin.Ok := ⟨fun p => by cases p <;> decide, fun k => by cases k <;> decide⟩
  refine ⟨⟨bothCeilings_ok, ⟨hb, hb, trivial⟩, by decide, ?_, by decide, ?_⟩, _, rfl⟩
  · exact ⟨Nat.le_refl 0, Nat.le_refl 0, by decide, by decide, by decide, by decide, by decide, by decide, by decide⟩
  · intro p g h
    cases p <;> simp [running, allLinks, linked, State.port, Ports.get, LinkPort.initial] at h

theorem witness_EveryStepKeepsDeferredReplyMatched :
    State.DeferredOk { saving with pending := [.storeEndReport] }
    ∧ ∃ t, step { saving with pending := [.storeEndReport] } = .next t := ⟨rfl, _, rfl⟩

end Sys2Proof.Tests
end

section
/-! PROOFS. The rules of the operations of chapter 1: what each does to the ports, the channels and the reply FIFO. -/

namespace Sys2Proof.Machine

open Sys2Proof

/-! ## Ports and their channels -/

/-- The freshness channels are none of the other blocks' channels (03 R43). -/
@[simp] theorem Port.channel_ne (p : Port) :
    p.channel ≠ .envelope ∧ p.channel ≠ .check ∧ p.channel ≠ .haltRamp ∧ p.channel ≠ .recordTick
      ∧ p.channel ≠ .gather ∧ p.channel ≠ .serviceIdle ∧ p.channel ≠ .storeWait := by
  cases p <;> decide

theorem Port.channel_inj {p q : Port} : p.channel = q.channel ↔ p = q := by
  cases p <;> cases q <;> decide

section
variable (s : State) (p : Port)

@[simp] theorem State.updPort_port (f : LinkPort → LinkPort) : (s.updPort p f).port p = f (s.port p) :=
  Ports.get_set _ _ _

theorem State.updPort_port_ne (f : LinkPort → LinkPort) {q : Port} (h : q ≠ p) :
    (s.updPort p f).port q = s.port q :=
  Ports.get_set_ne _ _ _ _ h

theorem State.updPort_ports (f : LinkPort → LinkPort) : (s.updPort p f).ports = s.ports.set p (f (s.port p)) := rfl

theorem State.placeGrants_get (x : LastComputation) :
    (s.placeGrants x).get p = (s.port p).placeGrant (s.grantFor x p) := by cases p <;> rfl

/-! ## Accepted frames (01 R7) -/

theorem State.acceptFrame_ports (c : SeqClass) (seq : Byte) :
    (s.acceptFrame p c seq).ports = s.ports.set p ((s.port p).accepted c seq) := by
  simp [State.acceptFrame, State.updPort_ports]

@[simp] theorem State.acceptFrame_port (c : SeqClass) (seq : Byte) :
    (s.acceptFrame p c seq).port p = (s.port p).accepted c seq := by
  rw [State.port_eq, State.acceptFrame_ports, Ports.get_set]

theorem State.acceptFrame_port_ne (c : SeqClass) (seq : Byte) {q : Port} (h : q ≠ p) :
    (s.acceptFrame p c seq).port q = s.port q := by
  rw [State.port_eq, State.acceptFrame_ports, Ports.get_set_ne _ _ _ _ h, State.port_eq]

/-- An accepted frame starts the port's freshness channel (R7, step 2). -/
theorem State.acceptFrame_timers (c : SeqClass) (seq : Byte) : (s.acceptFrame p c seq).timers
    = s.timers.set p.channel ⟨.running, p.channel.reloadValue s.working.params, 0⟩ := by
  simp [State.acceptFrame, State.start_timers]

/-! ## Breaks and silence (01 R9, R10) -/

theorem State.emptyReplies_port_ne {q : Port} (h : q ≠ p) : (s.emptyReplies p).port q = s.port q := by
  cases p with
  | front | rear | pack => rfl
  | cockpit => exact State.updPort_port_ne s .cockpit _ h

theorem State.emptyReplies_replies : (s.emptyReplies p).replies = if p = .cockpit then [] else s.replies := by
  cases p <;> rfl

theorem State.breakLink_ports :
    (s.breakLink p).ports = (((s.updPort p LinkPort.broken).arm p.channel).emptyReplies p).ports := by
  simp [State.breakLink]

theorem State.breakLink_port_eq :
    (s.breakLink p).port p = (((s.updPort p LinkPort.broken).arm p.channel).emptyReplies p).port p :=
  congrArg (Ports.get · p) (s.breakLink_ports p)

theorem State.breakLink_port_ne {q : Port} (h : q ≠ p) : (s.breakLink p).port q = s.port q := by
  rw [State.port_eq, State.breakLink_ports, ← State.port_eq, State.emptyReplies_port_ne _ _ h]
  exact State.updPort_port_ne s p _ h

theorem State.breakLink_replies : (s.breakLink p).replies = if p = .cockpit then [] else s.replies := by
  simp [State.breakLink, State.emptyReplies_replies]

/-- A break arms the port's freshness channel (R10, step 5). -/
theorem State.breakLink_timers : (s.breakLink p).timers
    = s.timers.set p.channel { s.timers.get p.channel with state := .armed, phase := 0 } := by
  simp [State.breakLink, State.arm, State.operate, Channel.arm]

/-- A break makes the unit's record stale (R10, step 6). -/
theorem State.breakLink_obs : (s.breakLink p).obs = s.obs.stale p := by
  simp [State.breakLink]

end

section
variable {s : State} {p : Port}

/-- A freshness expiry silences a link that was heard (R9). -/
theorem State.silence_heard (h : (s.port p).link.heard = true) : s.silence p =
    State.deliver (State.owe { s.updPort p LinkPort.silenced with obs := s.obs.stale p } [.linkState p])
      (.evidence p.unit .linkLost none) := by
  simp [State.silence, h]

theorem State.silence_unheard (h : (s.port p).link.heard = false) : s.silence p = s := by
  simp [State.silence, h]

end

end Sys2Proof.Machine
end


section
/-! PROOFS. Invariant of the ports (O58): every step keeps `State.LinksOk`. -/

namespace Sys2Proof.Machine

open Sys2Proof

/-! ## A port's own part: each update of a port keeps `LinkPort.Ok` (01 R2, R4 to R8, R10 to R14) -/

section
variable {x : LinkPort} {c d : Channel}

/-- Of its channel a port asks only whether it is ARMED. -/
theorem LinkPort.Ok.congr_armed (h : x.Ok c) (e : d.state = .armed ↔ c.state = .armed) : x.Ok d :=
  { h with armed := h.armed.trans e.symm }

theorem Counters.Ok.dropReplies {k : Counters} (h : k.Ok) (n : Nat) :
    Counters.Ok { k with dropped := min Config.counterMax (k.dropped + n) } :=
  { h with dropped := Nat.min_le_left _ _ }

theorem LinkPort.Ok.dropReplies (h : x.Ok c) (n : Nat) : (x.dropReplies n).Ok c :=
  { h with counters := h.counters.dropReplies n }

/-- A discarded frame, whichever of its counters moves, clears the join run and touches the link no further. -/
theorem LinkPort.Ok.discarded (h : x.Ok c) {k : Counters} (hk : k.Ok) :
    LinkPort.Ok { x with joinRun := 0, counters := k } c :=
  { h with down := fun e => ⟨rfl, (h.down e).2⟩, joinRun := Nat.zero_le _, counters := hk }

theorem LinkPort.Ok.protocolError (h : x.Ok c) : x.protocolError.Ok c :=
  h.discarded { h.counters with protocol := bump_le _ }

theorem LinkPort.Ok.malformedFrame (h : x.Ok c) : x.malformedFrame.Ok c :=
  h.discarded { h.counters with malformed := bump_le _ }

theorem LinkPort.Ok.repeated (h : x.Ok c) : x.repeated.Ok c :=
  h.discarded { h.counters with repeats := bump_le _ }

/-- Outside a break the framer and a body within its limit are free. -/
theorem LinkPort.Ok.reframed (h : x.Ok c) (hb : x.inBreak = false) (f : Framer) {l : List Byte}
    (hl : l.length ≤ Config.bodyMax) : LinkPort.Ok { x with framer := f, body := l } c :=
  { h with body := hl, broken := fun e => absurd (hb.symm.trans e) (by decide) }

theorem LinkPort.Ok.opened (h : x.Ok c) (hb : x.inBreak = false) : x.opened.Ok c :=
  h.reframed hb .body (Nat.zero_le _)

theorem LinkPort.Ok.afterError (h : x.Ok c) (hb : x.inBreak = false) (e : RxError) : (x.afterError e).Ok c :=
  (h.reframed hb (framerAfterError e) (Nat.zero_le _)).discarded { h.counters with bad := bump_le _ }

/-- An accepted frame leaves no link DOWN (R8). -/
theorem linkMove_ne_down (l : LinkState) (n : Nat) (k : SeqClass) : (linkMove l n k).1 ≠ .down := by
  cases l with
  | down | silent | up => simp [linkMove]
  | joining => unfold linkMove; dsimp only; split <;> (try split) <;> simp

/-- A join run stays within the frames that bring a link UP (R8). -/
theorem linkMove_joinRun_le (l : LinkState) {n : Nat} (hn : n ≤ Config.joinFrames) (k : SeqClass) :
    (linkMove l n k).2 ≤ Config.joinFrames := by
  cases l with
  | down | silent => exact (by decide : 1 ≤ Config.joinFrames)
  | up => exact hn
  | joining => unfold linkMove; dsimp only; split <;> (try split) <;> simp [Config.joinFrames] at * ; omega

/-- The port that accepted a frame goes with a channel that is not ARMED (R7, step 2). -/
theorem LinkPort.Ok.accepted (h : x.Ok c) (hb : x.inBreak = false) (k : SeqClass) (seq : Byte)
    (hd : d.state ≠ .armed) : (x.accepted k seq).Ok d where
  armed := iff_of_false (linkMove_ne_down _ _ _) hd
  ref := iff_of_false (linkMove_ne_down _ _ _) (by simp [LinkPort.accepted])
  down e := absurd e (linkMove_ne_down _ _ _)
  joinRun := linkMove_joinRun_le _ h.joinRun _
  body := h.body
  broken e := absurd (hb.symm.trans e) (by decide)
  counters := { h.counters with
    good := bump_le _
    gaps := by
      simp only [LinkPort.accepted]
      split
      · exact bump_le _
      · exact h.counters.gaps }

/-- The port of a break goes with an ARMED channel (R10, steps 3 and 5). -/
theorem LinkPort.Ok.broken_port (h : x.Ok c) (hd : d.state = .armed) : x.broken.Ok d where
  armed := iff_of_true rfl hd
  ref := iff_of_true rfl rfl
  down _ := ⟨rfl, rfl⟩
  joinRun := Nat.zero_le _
  body := Nat.zero_le _
  broken _ := ⟨rfl, rfl⟩
  counters := { h.counters with breaks := bump_le _ }

theorem LinkPort.Ok.breakEnded (h : x.Ok c) : x.breakEnded.Ok c :=
  { h with body := Nat.zero_le _, broken := fun e => nomatch e }

/-- Only a link that was heard falls SILENT, so it keeps its sequence reference (R9). -/
theorem LinkPort.Ok.silenced (h : x.Ok c) (hl : x.link.heard = true) : x.silenced.Ok c := by
  have hn : x.link ≠ .down := by rintro e; simp [e, LinkState.heard] at hl
  exact {
    armed := iff_of_false (by simp [LinkPort.silenced]) fun e => hn (h.armed.2 e)
    ref := iff_of_false (by simp [LinkPort.silenced]) fun e => hn (h.ref.2 e)
    down := fun e => by simp [LinkPort.silenced] at e
    joinRun := Nat.zero_le _
    body := h.body
    broken := fun e => absurd (h.broken e).1 hn
    counters := h.counters }

theorem LinkPort.Ok.send (h : x.Ok c) (kind : Byte) (payload : List Byte) : (x.send kind payload).Ok c :=
  { h with }

theorem LinkPort.Ok.sendGrant (h : x.Ok c) (g : Grant) : (x.sendGrant g).Ok c :=
  LinkPort.Ok.send (x := { x with grant := none }) { h with down := fun e => ⟨(h.down e).1, rfl⟩ } _ _

theorem LinkPort.Ok.placeGrant (h : x.Ok c) (g : Grant) : (x.placeGrant g).Ok c := by
  unfold LinkPort.placeGrant
  split
  · exact h
  · next hn =>
    refine { h with down := fun e => absurd e hn, counters := { h.counters with replaced := ?_ } }
    dsimp only
    split
    · exact bump_le _
    · exact h.counters.replaced

end

/-! ## The freshness channels: no operation but those of chapter 1 touches them -/

section
variable (s : State) (p : Port)

theorem State.start_channel {c : Chan} (h : p.channel ≠ c) :
    (s.start c).timers.get p.channel = s.timers.get p.channel := Timers.get_set_ne _ _ _ _ h

theorem State.stop_channel {c : Chan} (h : p.channel ≠ c) :
    (s.stop c).timers.get p.channel = s.timers.get p.channel := Timers.get_set_ne _ _ _ _ h

@[simp] theorem State.recomputeCore_channel :
    s.recomputeCore.timers.get p.channel = s.timers.get p.channel :=
  (State.recomputeCore_spec s).timers_get _ (Port.channel_ne p).2.2.1

@[simp] theorem State.testDrive_channel : s.testDrive.timers.get p.channel = s.timers.get p.channel := by
  unfold State.testDrive
  split
  · simp [State.stop_channel]
  · rfl

@[simp] theorem State.recompute_channel : s.recompute.timers.get p.channel = s.timers.get p.channel := by
  simp [State.recompute]

@[simp] theorem State.enterStandby_channel :
    s.enterStandby.timers.get p.channel = s.timers.get p.channel := by
  simp [State.enterStandby, State.start_channel]

@[simp] theorem State.stopGatherIfStandby_channel :
    s.stopGatherIfStandby.timers.get p.channel = s.timers.get p.channel := by
  unfold State.stopGatherIfStandby
  split
  · exact s.stop_channel p (by simp)
  · rfl

@[simp] theorem State.changeCopy_channel (c : Copy) :
    (s.changeCopy c).timers.get p.channel = s.timers.get p.channel := by
  simp [State.changeCopy]

theorem State.rampFor_channel (a b : Level) :
    (s.rampFor a b).timers.get p.channel = s.timers.get p.channel := by
  unfold State.rampFor
  split
  · exact State.start_channel _ p (by simp)
  · split
    · exact State.stop_channel _ p (by simp)
    · rfl

@[simp] theorem State.apply_channel (a : Drive) :
    (s.apply a).timers.get p.channel = s.timers.get p.channel := by
  simp [State.apply, State.rampFor_channel]

@[simp] theorem State.noticeOf_channel (u : Reporter) :
    (s.noticeOf u).timers.get p.channel = s.timers.get p.channel := by
  have motor : s.motorNotice.timers.get p.channel = s.timers.get p.channel := by
    unfold State.motorNotice
    split
    · exact State.stop_channel _ p (by simp)
    · rfl
  cases u with
  | front | rear => exact motor
  | cockpit =>
    simp only [State.noticeOf, State.cockpitNotice]
    split
    · exact s.apply_channel p _
    · rfl

@[simp] theorem State.keyCycle_channel : s.keyCycle.timers.get p.channel = s.timers.get p.channel := by
  simp [State.keyCycle]

@[simp] theorem State.revertIfInvalid_channel (f : Option Failure) :
    (s.revertIfInvalid f).timers.get p.channel = s.timers.get p.channel := by
  cases f with
  | none => rfl
  | some f => simp [State.revertIfInvalid]

@[simp] theorem State.forcedLeave_channel (f : Option Failure) :
    (s.forcedLeave f).timers.get p.channel = s.timers.get p.channel := by
  simp [State.forcedLeave, State.stop_channel]

@[simp] theorem State.gatherFinished_channel :
    s.gatherFinished.timers.get p.channel = s.timers.get p.channel := by
  simp [State.gatherFinished]

@[simp] theorem State.gatherExpires_channel :
    s.gatherExpires.timers.get p.channel = s.timers.get p.channel := by
  unfold State.gatherExpires
  split
  · split <;> simp
  · rfl

@[simp] theorem State.endLoading_channel : s.endLoading.timers.get p.channel = s.timers.get p.channel := by
  unfold State.endLoading
  dsimp only
  split <;> simp [State.start_channel]

@[simp] theorem State.replaceCopies_channel (c : Copy) :
    (s.replaceCopies c).timers.get p.channel = s.timers.get p.channel := by
  simp [State.replaceCopies]

@[simp] theorem State.loadResults_channel (i : ImageOutcome) (l : LatchOutcome) :
    (s.loadResults i l).timers.get p.channel = s.timers.get p.channel := by
  simp [State.loadResults]

@[simp] theorem State.reloadEnd_channel (i : ImageOutcome) :
    (s.reloadEnd i).timers.get p.channel = s.timers.get p.channel := by
  cases i <;> simp [State.reloadEnd]

@[simp] theorem State.completeWrite_channel :
    s.completeWrite.timers.get p.channel = s.timers.get p.channel := by
  unfold State.completeWrite
  split
  · exact State.start_channel _ p (by simp)
  · rfl
  · rfl

@[simp] theorem State.enterService_channel :
    s.enterService.timers.get p.channel = s.timers.get p.channel := by
  simp [State.enterService, State.start_channel]

@[simp] theorem State.writeRow_channel (k : Kind) (r : Row) :
    (s.writeRow k r).timers.get p.channel = s.timers.get p.channel := by
  simp [State.writeRow]

@[simp] theorem State.freeSlot_channel (i : Nat) :
    (s.freeSlot i).timers.get p.channel = s.timers.get p.channel := by
  unfold State.freeSlot
  dsimp only
  split <;> simp

@[simp] theorem State.setOverrides_channel (os : List Override) :
    (s.setOverrides os).timers.get p.channel = s.timers.get p.channel := by
  simp [State.setOverrides]

@[simp] theorem State.leaveToStandby_channel :
    s.leaveToStandby.timers.get p.channel = s.timers.get p.channel := by
  simp [State.leaveToStandby, State.stop_channel]

@[simp] theorem State.idleLeave_channel : s.idleLeave.timers.get p.channel = s.timers.get p.channel := by
  simp [State.idleLeave]

@[simp] theorem State.shutDown_channel : s.shutDown.timers.get p.channel = s.timers.get p.channel := by
  simp [State.shutDown]

@[simp] theorem State.wakeFell_channel : s.wakeFell.timers.get p.channel = s.timers.get p.channel := by
  unfold State.wakeFell
  split <;> simp [State.stop_channel]

end

/-! ## The four ports together -/

/-- What `State.LinksOk` asks about is the same in two states: the ports, the reply FIFO, and which freshness
channels are ARMED. -/
structure State.SameLinks (s t : State) : Prop where
  ports   : t.ports = s.ports
  replies : t.replies = s.replies
  armed   : ∀ p : Port, (t.timers.get p.channel).state = .armed ↔ (s.timers.get p.channel).state = .armed

section
variable {s t : State}

theorem State.LinksOk.of_sameLinks (h : s.LinksOk) (e : s.SameLinks t) : t.LinksOk where
  ports p := by
    rw [State.port_eq, e.ports]
    exact (h.ports p).congr_armed (e.armed p)
  replies := e.replies ▸ h.replies

/-- What the frame laws show to leave the ports, the reply FIFO and the freshness channels alone keeps them sound. -/
theorem State.LinksOk.of_eq (h : s.LinksOk) (hp : t.ports = s.ports := by simp)
    (hr : t.replies = s.replies := by simp)
    (ht : ∀ p : Port, t.timers.get p.channel = s.timers.get p.channel := by simp) : t.LinksOk :=
  h.of_sameLinks ⟨hp, hr, fun p => by rw [ht p]⟩

/-- What changes one port and its channel alone leaves the ports sound if it leaves that port so. -/
theorem State.LinksOk.of_port (h : s.LinksOk) (p : Port) (hp : ∀ q, q ≠ p → t.port q = s.port q)
    (hx : (t.port p).Ok (t.timers.get p.channel)) (hr : t.replies.length ≤ Config.fifoPlaces)
    (ht : ∀ q : Port, q ≠ p → t.timers.get q.channel = s.timers.get q.channel) : t.LinksOk where
  ports q := by
    by_cases hq : q = p
    · exact hq ▸ hx
    · rw [hp q hq, ht q hq]
      exact h.ports q
  replies := hr

theorem State.LinksOk.updPort (h : s.LinksOk) (p : Port) {f : LinkPort → LinkPort}
    (hf : (f (s.port p)).Ok (s.timers.get p.channel)) : (s.updPort p f).LinksOk :=
  h.of_port p (fun _ => State.updPort_port_ne s p f) (by rwa [State.updPort_port]) h.replies fun _ _ => rfl

theorem State.LinksOk.deliver (h : s.LinksOk) (d : Delivery) : (s.deliver d).LinksOk :=
  h.of_eq

theorem State.LinksOk.owe (h : s.LinksOk) (es : List Owed) : (s.owe es).LinksOk :=
  h.of_eq

theorem State.LinksOk.took (h : s.LinksOk) (f : Owed → Bool) : (s.took f).LinksOk :=
  h.of_eq

/-- An expiry taken arms no channel and disarms none (03 R36). -/
theorem State.afterExpiry_sameLinks (s : State) (c : Chan) : s.SameLinks (s.afterExpiry c) where
  ports := rfl
  replies := rfl
  armed p := by
    have hx : (Channel.expired s.working.params c).state ≠ .armed := by
      unfold Channel.expired; split <;> simp
    simp only [State.afterExpiry]
    split
    · rfl
    · split
      · next hrun =>
        by_cases hc : p.channel = c
        · subst hc
          rw [Timers.get_set]
          exact iff_of_false hx (by simp [hrun])
        · rw [Timers.get_set_ne _ _ _ _ hc]
      · rfl

theorem State.LinksOk.afterExpiry (h : s.LinksOk) (c : Chan) : (s.afterExpiry c).LinksOk :=
  h.of_sameLinks (s.afterExpiry_sameLinks c)

/-- Every expiry command takes its expiry and, in force, has one effect. -/
theorem State.LinksOk.expiry (h : s.LinksOk) (c : Chan) {b : Prop} [Decidable b] {f : State → State}
    (hf : ∀ u : State, u.LinksOk → (f u).LinksOk) :
    (if b then f (s.afterExpiry c) else s.afterExpiry c).LinksOk := by
  split
  · exact hf _ (h.afterExpiry c)
  · exact h.afterExpiry c

/-! ## What a port hears: errors, discarded and accepted frames, breaks, silence (01 R2 to R10) -/

theorem State.LinksOk.receiveError (h : s.LinksOk) {p : Port} (hb : (s.port p).inBreak = false) (e : RxError) :
    (s.receiveError p e).LinksOk :=
  (h.updPort p ((h.ports p).afterError hb e)).deliver _

theorem State.LinksOk.acceptFrame (h : s.LinksOk) {p : Port} (hb : (s.port p).inBreak = false) (c : SeqClass)
    (seq : Byte) : (s.acceptFrame p c seq).LinksOk := by
  refine h.of_port p (fun q hq => State.acceptFrame_port_ne s p c seq hq) ?_ h.replies fun q hq => ?_
  · rw [State.acceptFrame_port, State.acceptFrame_timers, Timers.get_set]
    exact (h.ports p).accepted hb c seq (by simp)
  · rw [State.acceptFrame_timers, Timers.get_set_ne _ _ _ _ (mt Port.channel_inj.1 hq)]

theorem State.LinksOk.handOn (h : s.LinksOk) (p : Port) (k : FrameKind) (seq : Byte) (payload : List Byte) :
    (s.handOn p k seq payload).LinksOk := by
  cases k with
  | motorReport => exact h.of_eq (by cases p <;> simp [State.handOn])
  | packReport | demand => exact h.of_eq (by simp [State.handOn])
  | command =>
    simp only [State.handOn, State.handCommand]
    split
    · exact h.updPort .cockpit ((h.ports .cockpit).dropReplies 1)
    · exact h.owe _

theorem State.LinksOk.sequenceFrame (h : s.LinksOk) {p : Port} (hb : (s.port p).inBreak = false) (k : FrameKind)
    (seq : Byte) (payload : List Byte) : (s.sequenceFrame p k seq payload).LinksOk := by
  unfold State.sequenceFrame
  dsimp only
  split
  · exact (h.updPort p (h.ports p).repeated).deliver _
  · exact (h.acceptFrame hb _ seq).handOn p k seq payload

theorem State.LinksOk.checkFrame (h : s.LinksOk) {p : Port} (hb : (s.port p).inBreak = false) (body : List Byte) :
    (s.checkFrame p body).LinksOk := by
  unfold State.checkFrame
  split
  · exact h.updPort p (h.ports p).protocolError
  · split
    · exact h.updPort p (h.ports p).malformedFrame
    · exact h.sequenceFrame hb _ _ _

theorem State.LinksOk.closeFrame (h : s.LinksOk) {p : Port} (hb : (s.port p).inBreak = false) (body : List Byte) :
    (s.closeFrame p body).LinksOk := by
  have ho : (s.updPort p LinkPort.opened).LinksOk := h.updPort p ((h.ports p).opened hb)
  unfold State.closeFrame
  split
  · exact ho
  · split
    · exact h.receiveError hb _
    · exact ho.checkFrame (by simp [LinkPort.opened, hb]) _

theorem State.LinksOk.appendByte (h : s.LinksOk) {p : Port} (hb : (s.port p).inBreak = false) (b : Byte) :
    (s.appendByte p b).LinksOk := by
  unfold State.appendByte
  split
  · exact h.receiveError hb _
  · next hn =>
    exact h.updPort p ((h.ports p).reframed hb .body (by simp; omega))

/-- The framer takes any item outside a break (R2). -/
theorem State.LinksOk.frameItem (h : s.LinksOk) {p : Port} (hb : (s.port p).inBreak = false) (i : RxItem) :
    (s.frameItem p i).LinksOk := by
  have opened := h.updPort p ((h.ports p).opened hb)
  unfold State.frameItem
  split
  · unfold State.inHunt
    split
    · exact opened
    · exact h
  · cases i with
    | framingError => exact h.receiveError hb _
    | byte b =>
      simp only [State.inBody]
      split
      · exact h.closeFrame hb _
      · split
        · exact h.updPort p ((h.ports p).reframed hb .escaped (h.ports p).body)
        · exact h.appendByte hb b
  · cases i with
    | framingError => exact h.receiveError hb _
    | byte b =>
      simp only [State.inEscaped]
      split
      · exact opened
      · split
        · exact h.appendByte hb _
        · split
          · exact h.appendByte hb _
          · exact h.receiveError hb _

theorem State.emptyReplies_port_ok (s : State) (p : Port) {c : Channel} (h : (s.port p).Ok c) :
    ((s.emptyReplies p).port p).Ok c := by
  cases p with
  | front | rear | pack => exact h
  | cockpit => exact h.dropReplies _

theorem State.LinksOk.breakLink (h : s.LinksOk) (p : Port) : (s.breakLink p).LinksOk := by
  refine h.of_port p (fun q hq => State.breakLink_port_ne s p hq) ?_ ?_ fun q hq => ?_
  · rw [State.breakLink_port_eq, State.breakLink_timers, Timers.get_set]
    refine State.emptyReplies_port_ok _ p ?_
    exact (s.updPort_port p LinkPort.broken).symm ▸ (h.ports p).broken_port rfl
  · rw [State.breakLink_replies]
    split
    · exact Nat.zero_le _
    · exact h.replies
  · rw [State.breakLink_timers, Timers.get_set_ne _ _ _ _ (mt Port.channel_inj.1 hq)]

theorem State.LinksOk.silence (h : s.LinksOk) (p : Port) : (s.silence p).LinksOk := by
  cases hl : (s.port p).link.heard with
  | true =>
    rw [State.silence_heard hl]
    have hx := h.updPort p ((h.ports p).silenced hl)
    exact hx.of_eq
  | false => rwa [State.silence_unheard hl]

/-! ## The transmitter, the grants and the reply FIFO (01 R12 to R15, 08 R146) -/

theorem State.LinksOk.sendPart (h : s.LinksOk) : s.sendPart.LinksOk := by
  have hlen := h.replies
  unfold State.sendPart
  split
  · exact h
  · next rs e =>
    rw [e] at hlen
    exact ⟨h.ports, Nat.le_of_succ_le hlen⟩
  · next part rest rs e =>
    rw [e] at hlen
    have hr : (repliesAfterPart rest rs).length ≤ Config.fifoPlaces := by
      cases rest with
      | nil => exact Nat.le_of_succ_le hlen
      | cons => exact hlen
    exact ⟨(h.updPort .cockpit ((h.ports .cockpit).send _ _)).ports, hr⟩

theorem State.LinksOk.envelopeEvent (h : s.LinksOk) : s.envelopeEvent.LinksOk := by
  unfold State.envelopeEvent
  split
  · exact h
  · refine ⟨fun p => ?_, h.replies⟩
    dsimp only [State.port]
    rw [State.placeGrants_get]
    exact (h.ports p).placeGrant _

theorem State.LinksOk.placeReply (h : s.LinksOk) (r : Reply) : (s.placeReply r).LinksOk := by
  unfold State.placeReply
  cases hd : s.replyDropped with
  | true => exact (h.updPort .cockpit ((h.ports .cockpit).dropReplies 1)).of_eq rfl rfl fun _ => rfl
  | false =>
    refine ⟨h.ports, ?_⟩
    simp [State.replyDropped] at hd
    simp; omega

/-! ## Service commands: only their replies reach the ports (09 R153, R157) -/

@[simp] theorem State.done_state (s : State) (seq code : Byte) : (s.done seq code).state = s := rfl

@[simp] theorem State.beginSave_state (s : State) (seq : Byte) :
    (s.beginSave seq).state = State.handSave { s with deferred := some (.save seq) } := rfl

@[simp] theorem State.beginReload_state (s : State) (seq : Byte) :
    (s.beginReload seq).state = State.handReload { s with deferred := some (.reload seq) } := rfl

theorem State.LinksOk.takeCommand (h : s.LinksOk) (i : Instr) : (s.takeCommand i).LinksOk := h.took _

theorem State.LinksOk.start (h : s.LinksOk) {c : Chan} (hc : ∀ p : Port, p.channel ≠ c) : (s.start c).LinksOk :=
  h.of_eq rfl rfl fun p => s.start_channel p (hc p)

theorem State.LinksOk.placed {c : Carried} (h : c.state.LinksOk) : c.placed.LinksOk := by
  unfold Carried.placed
  split
  · exact h.placeReply _
  · exact h

theorem State.LinksOk.finish {c : Carried} (h : c.state.LinksOk) : c.finish.LinksOk :=
  State.LinksOk.placed (c := { c with state := c.state.start .serviceIdle }) (h.start fun p => by simp)

theorem State.LinksOk.inService (h : s.LinksOk) (i : Instr) (seq code : Byte) {f : State → Carried}
    (hf : ∀ u : State, u.LinksOk → (f u).state.LinksOk) : (s.inService i seq code f).LinksOk := by
  unfold State.inService
  dsimp only
  split
  · exact State.LinksOk.finish (hf _ (h.takeCommand i))
  · exact State.LinksOk.placed (h.takeCommand i)

/-- The commands the store's progress refuses leave what they find or carry out their effect (09 R154). -/
theorem State.LinksOk.unlessBusy (h : s.LinksOk) (seq code : Byte) {f : State → Carried}
    (hf : (f s).state.LinksOk) : (s.unlessBusy seq code f).state.LinksOk := by
  unfold State.unlessBusy
  split
  · exact h
  · exact hf

theorem State.LinksOk.rowWrite (h : s.LinksOk) (seq kind : Byte) (b : RowBytes) :
    (s.rowWrite seq kind b).state.LinksOk := by
  unfold State.rowWrite
  split
  · exact h
  · split
    · exact h
    · split
      · exact h
      · exact h.of_eq

theorem State.LinksOk.paramWrite (h : s.LinksOk) (seq number : Byte) (v : Half) :
    (s.paramWrite seq number v).state.LinksOk := by
  unfold State.paramWrite
  split
  · exact h
  · split
    · exact h.of_eq rfl rfl fun _ => rfl
    · exact h

theorem State.LinksOk.recordClear (h : s.LinksOk) (seq slot : Byte) : (s.recordClear seq slot).state.LinksOk := by
  unfold State.recordClear
  split
  · split
    · exact h
    · split
      · exact h
      · exact h
      · exact h
      · exact h.of_eq
      · exact h.of_eq
  · exact h

/-- What changes the fault table alone keeps the ports sound. -/
theorem State.LinksOk.withTable (h : s.LinksOk) (x : FaultTable) : State.LinksOk { s with table := x } :=
  h.of_eq

theorem State.LinksOk.startSweep (h : s.LinksOk) (seq start unit kind mode count : Byte) :
    (s.startSweep seq start unit kind mode count).state.LinksOk := by
  unfold State.startSweep
  split
  · exact h
  · split
    · exact h.withTable _
    · exact h

theorem State.LinksOk.resumeSweep (h : s.LinksOk) (seq : Byte) : (s.resumeSweep seq).state.LinksOk := by
  unfold State.resumeSweep
  split
  · exact h.withTable _
  · exact h

theorem State.LinksOk.cancelSweep (h : s.LinksOk) (seq : Byte) : (s.cancelSweep seq).state.LinksOk := by
  unfold State.cancelSweep
  split
  · exact h
  · exact h.withTable _

theorem State.LinksOk.setOverrides (h : s.LinksOk) (os : List Override) : (s.setOverrides os).LinksOk :=
  h.of_eq

theorem State.LinksOk.pushOverride (h : s.LinksOk) (seq a b c d : Byte) :
    (s.pushOverride seq a b c d).state.LinksOk := by
  unfold State.pushOverride
  split
  · exact h
  · split
    · exact h
    · exact h.setOverrides _

theorem State.LinksOk.popOverride (h : s.LinksOk) (seq : Byte) : (s.popOverride seq).state.LinksOk := by
  unfold State.popOverride
  split
  · exact h
  · exact h.setOverrides _

theorem State.LinksOk.serviceLeave (h : s.LinksOk) (seq : Byte) : (s.serviceLeave seq).LinksOk := by
  unfold State.serviceLeave
  dsimp only
  split
  · exact State.LinksOk.finish (h.withTable _)
  · exact State.LinksOk.placed h.of_eq

theorem State.LinksOk.takeStoreEnd (h : s.LinksOk) (e : StoreEnd) : (s.takeStoreEnd e).LinksOk := by
  have hb : (s.updStore fun x => { x with busy := false }).LinksOk := h.of_eq
  unfold State.takeStoreEnd
  dsimp only
  split
  · exact (hb.placeReply _).of_eq rfl rfl fun _ => rfl
  · exact hb

/-! ## The time base and power-on (03 R35, 00_scope.md) -/

/-- A step of the time base arms no channel and disarms none (03 R35, R36). -/
theorem Channel.step_armed (w : Params) (c : Chan) (x : Channel) :
    (x.step w c).state = .armed ↔ x.state = .armed := by
  unfold Channel.step
  split
  · next hr =>
    refine iff_of_false ?_ (by simp [hr])
    split
    · unfold Channel.expired; split <;> simp
    · split <;> simp [hr]
  · rfl

theorem Timers.step_get (w : Params) (x : Timers) (c : Chan) : (x.step w).get c = (x.get c).step w c := by
  cases c <;> rfl

theorem State.reset_linksOk : State.reset.LinksOk where
  ports p := by
    have h : LinkPort.initial.Ok Channel.initialArmed := by
      refine ⟨?_, ?_, ?_, ?_, ?_, ?_, ⟨?_, ?_, ?_, ?_, ?_, ?_, ?_, ?_, ?_⟩⟩ <;> decide
    cases p <;> exact h
  replies := by decide

/-! ## Every command keeps the ports sound -/

theorem State.LinksOk.next (e : Host.Outcome.next (φ := Fault) (ρ := Refusal) s = .next t) (h : s.LinksOk) :
    t.LinksOk := by
  cases e; exact h

theorem State.LinksOk.ite {b : Prop} [Decidable b] {u v : State} (hu : u.LinksOk) (hv : v.LinksOk) :
    (if b then u else v).LinksOk := by
  split
  · exact hu
  · exact hv

/-- Outside a break a port takes what it hears, and in one it hears nothing (R1). -/
theorem State.LinksOk.unlessBreak (h : s.LinksOk) {p : Port} {u : State}
    (hu : (s.port p).inBreak = false → u.LinksOk) : (if (s.port p).inBreak then s else u).LinksOk := by
  cases hb : (s.port p).inBreak with
  | true => exact h
  | false => exact hu hb

/-! ## The commands of the configuration store (10): none reaches a port -/

theorem State.LinksOk.loadImageReadDone (h : s.LinksOk) (r : BusRead) (e : execLoadImageReadDone r s = .next t) :
    t.LinksOk := by
  refine State.LinksOk.next e (State.LinksOk.ite (State.LinksOk.ite ?_ ?_) h)
  · exact h.of_eq
  · exact h.of_eq

theorem State.LinksOk.loadLatchListReadDone (h : s.LinksOk) (r : BusRead)
    (e : execLoadLatchListReadDone r s = .next t) : t.LinksOk := by
  refine State.LinksOk.next e ?_
  split
  · exact h.of_eq
  all_goals exact h

theorem State.LinksOk.endOperation (h : s.LinksOk) : s.endOperation.LinksOk :=
  h.of_eq

theorem State.LinksOk.endReported (h : s.LinksOk) (d : Delivery) (x : StoreEnd) : (s.endReported d x).LinksOk :=
  h.of_eq

theorem State.LinksOk.setOp (h : s.LinksOk) (o : StoreOp) : (s.setOp o).LinksOk := h.of_eq

theorem State.LinksOk.completeWrite (h : s.LinksOk) : s.completeWrite.LinksOk := by
  refine h.of_eq ?_ ?_ fun p => s.completeWrite_channel p
  all_goals unfold State.completeWrite; split <;> simp

theorem State.LinksOk.savePageWriteDone (h : s.LinksOk) (a : Bool) (e : execSavePageWriteDone a s = .next t) :
    t.LinksOk := by
  refine State.LinksOk.next e ?_
  split
  · exact State.LinksOk.ite (h.completeWrite.setOp _) (h.endReported _ _)
  all_goals exact h

theorem State.LinksOk.latchPageWriteDone (h : s.LinksOk) (a : Bool) (e : execLatchPageWriteDone a s = .next t) :
    t.LinksOk :=
  State.LinksOk.next e (State.LinksOk.ite
    (State.LinksOk.ite (h.completeWrite.setOp _) (h.deliver _).endOperation) h)

theorem State.LinksOk.storeWaited (h : s.LinksOk) : s.storeWaited.LinksOk :=
  h.of_eq

theorem State.LinksOk.saveReadbackDone (h : s.LinksOk) (r : BusRead) (e : execSaveReadbackDone r s = .next t) :
    t.LinksOk :=
  State.LinksOk.next e (State.LinksOk.ite
    (State.LinksOk.ite h.of_eq (h.endReported _ _)) h)

theorem State.LinksOk.reloadReadDone (h : s.LinksOk) (r : BusRead) (e : execReloadReadDone r s = .next t) :
    t.LinksOk :=
  State.LinksOk.next e (State.LinksOk.ite h.of_eq h)

theorem State.LinksOk.storeEndReport (h : s.LinksOk) (e : execStoreEndReport s = .next t) : t.LinksOk := by
  refine State.LinksOk.next e ?_
  split
  · exact (h.took _).takeStoreEnd _
  · exact h

/-! ## Wake changes, entry to and leave of SERVICE, the transmitter, breaks and queries -/

/-- A wake change taken moves the wake filter and the wake flag alone. -/
theorem State.LinksOk.acceptWake (h : s.LinksOk) (on : Bool) : (s.acceptWake on).LinksOk :=
  h.of_eq

theorem State.LinksOk.serviceEnter (h : s.LinksOk) (seq : Byte) (e : execServiceEnter seq s = .next t) :
    t.LinksOk := by
  have hc := h.takeCommand (.serviceEnter seq)
  refine State.LinksOk.next e ?_
  split
  · exact State.LinksOk.ite (State.LinksOk.finish hc) (State.LinksOk.placed hc)
  · exact State.LinksOk.placed hc.of_eq

theorem State.LinksOk.execServiceLeave (h : s.LinksOk) (seq : Byte) (e : execServiceLeave seq s = .next t) :
    t.LinksOk := by
  have hc := h.takeCommand (.serviceLeave seq)
  exact State.LinksOk.next e (State.LinksOk.ite
    (State.LinksOk.ite (State.LinksOk.finish hc) (hc.serviceLeave seq)) (State.LinksOk.placed hc))

theorem State.LinksOk.transmitterTakeFrame (h : s.LinksOk) (p : Port)
    (e : execTransmitterTakeFrame p s = .next t) : t.LinksOk := by
  refine State.LinksOk.next e ?_
  split
  · exact h.updPort p ((h.ports p).sendGrant _)
  · split
    · exact h.sendPart
    all_goals exact h

theorem State.LinksOk.lineBreak (h : s.LinksOk) (p : Port) (e : execLineBreak p s = .next t) : t.LinksOk :=
  State.LinksOk.next e (h.unlessBreak fun hb =>
    State.LinksOk.ite ((h.receiveError hb _).breakLink p) (h.breakLink p))

/-- A query's answer takes the command and places a reply. -/
theorem State.LinksOk.answer (h : s.LinksOk) (i : Instr) (r : Reply) : (s.answer i r).LinksOk :=
  (h.takeCommand i).placeReply r

/-- Every command keeps the ports sound. -/
theorem exec_keeps_linksOk (c : Instr) (s t : State) (h : s.LinksOk) (e : exec c s = .next t) : t.LinksOk := by
  cases c with
  -- the commands that reach a port (01)
  | frameReceived p body => exact State.LinksOk.next e (h.unlessBreak fun hb => h.closeFrame hb body)
  | receiveError p x => exact State.LinksOk.next e (h.unlessBreak fun hb => h.receiveError hb x)
  | byteReceived p i => exact State.LinksOk.next e (h.unlessBreak fun hb => h.frameItem hb i)
  | lineBreak p => exact h.lineBreak p e
  | breakEnd p => exact State.LinksOk.next e (State.LinksOk.ite (h.updPort p (h.ports p).breakEnded) h)
  | freshnessExpiry p =>
    exact State.LinksOk.next e (h.expiry p.channel (f := fun u => u.silence p) fun u hu => hu.silence p)
  | transmitterTakeFrame p => exact h.transmitterTakeFrame p e
  | envelopeExpiry => exact State.LinksOk.next e (h.expiry _ fun u hu => hu.envelopeEvent)
  -- power-on, the time base and the switch inputs (00, 02, 03)
  | powerOn cause torn => exact State.LinksOk.next e State.reset_linksOk.of_eq
  | timeBaseStep b st w =>
    refine State.LinksOk.next e (h.of_sameLinks ⟨rfl, rfl, fun p => ?_⟩)
    dsimp only
    rw [Timers.step_get]
    exact Channel.step_armed _ _ _
  | switchChangeAccepted sw a =>
    exact State.LinksOk.next e (State.LinksOk.ite (h.took _) (State.LinksOk.ite h h.of_eq))
  -- the monitor, the fault table and the containment controller (05 to 07)
  | arrivalNotice u => exact State.LinksOk.next e h.of_eq
  | linkStateNotice p => exact State.LinksOk.next e h.of_eq
  | wakeRising =>
    have hw := h.acceptWake true
    exact State.LinksOk.next e (State.LinksOk.ite hw.of_eq hw)
  | wakeFalling =>
    exact State.LinksOk.next e (h.acceptWake false).of_eq
  | checkExpiry => exact State.LinksOk.next e (h.expiry _ fun u hu => hu.of_eq)
  | isolationNotice m x => exact State.LinksOk.next e h.of_eq
  | recordTickExpiry =>
    exact State.LinksOk.next e (h.expiry .recordTick (f := fun u => u.tableEvent (s.table.tick s.working))
      fun u hu => hu.of_eq)
  | gatherExpiry => exact State.LinksOk.next e (h.expiry _ fun u hu => hu.of_eq)
  | gatherBatchTaken =>
    exact State.LinksOk.next e (State.LinksOk.ite h.of_eq (h.took _))
  | haltRampExpiry => exact State.LinksOk.next e (h.expiry _ fun u hu => hu.of_eq)
  | containmentAnnouncement => exact State.LinksOk.next e h.of_eq
  | endOfLoading =>
    exact State.LinksOk.next e (State.LinksOk.ite h.of_eq (h.took _))
  | sweepExamination => exact State.LinksOk.next e (State.LinksOk.ite h.of_eq h)
  -- the configuration store (10)
  | loadImageReadDone r => exact h.loadImageReadDone r e
  | loadLatchListReadDone r => exact h.loadLatchListReadDone r e
  | latchRewriteRequest => exact State.LinksOk.next e h.of_eq
  | savePageWriteDone a => exact h.savePageWriteDone a e
  | storeWaitExpiry => exact State.LinksOk.next e (h.expiry _ fun u hu => hu.storeWaited)
  | saveReadbackDone r => exact h.saveReadbackDone r e
  | latchPageWriteDone a => exact h.latchPageWriteDone a e
  | reloadReadDone r => exact h.reloadReadDone r e
  | storeEndReport => exact h.storeEndReport e
  -- queries and service commands (09)
  | queryRecords | queryLink | queryRow | queryParam | queryEnvelope | unknownCommand =>
    exact State.LinksOk.next e (h.answer _ _)
  | serviceEnter seq => exact h.serviceEnter seq e
  | serviceLeave seq => exact h.execServiceLeave seq e
  | serviceIdleExpiry =>
    exact State.LinksOk.next e (h.expiry _ fun u hu => hu.of_eq)
  | rowWrite seq kind row =>
    exact State.LinksOk.next e (h.inService _ _ _ fun u hu => hu.unlessBusy _ _ (hu.rowWrite _ _ _))
  | paramWrite seq number v =>
    exact State.LinksOk.next e (h.inService _ _ _ fun u hu => hu.unlessBusy _ _ (hu.paramWrite _ _ _))
  | storeSave seq =>
    exact State.LinksOk.next e (h.inService _ _ _ fun u hu => hu.unlessBusy _ _
      hu.of_eq)
  | storeReload seq =>
    exact State.LinksOk.next e (h.inService _ _ _ fun u hu => hu.unlessBusy _ _
      hu.of_eq)
  | recordClear seq slot => exact State.LinksOk.next e (h.inService _ _ _ fun u hu => hu.recordClear _ _)
  | sweepStart seq a u k m n =>
    exact State.LinksOk.next e (h.inService _ _ _ fun u hu => hu.startSweep _ _ _ _ _ _)
  | sweepResume seq => exact State.LinksOk.next e (h.inService _ _ _ fun u hu => hu.resumeSweep _)
  | sweepCancel seq => exact State.LinksOk.next e (h.inService _ _ _ fun u hu => hu.cancelSweep _)
  | overridePush seq a b l i =>
    exact State.LinksOk.next e (h.inService _ _ _ fun u hu => hu.pushOverride _ _ _ _ _)
  | overridePop seq => exact State.LinksOk.next e (h.inService _ _ _ fun u hu => hu.popOverride _)

end

/-- Settles O58: the ports are sound after a change of the queue and after every command. -/
theorem everyStepKeepsLinksOk : Obligations.EveryStepKeepsLinksOk :=
  step_keeps (fun _ _ h => h.of_eq) exec_keeps_linksOk

end Sys2Proof.Machine
end

section
/-! PROOFS. Power-on: what the state right after it holds (O3, O4), and what POWER_ON leaves of the state before it. -/

namespace Sys2Proof.Machine

open Sys2Proof

/-! ## The state right after power-on meets every invariant -/

theorem State.reset_memoryOk : State.reset.MemoryOk where
  canonical := rfl
  latch := Nat.zero_le _
  page := trivial
  writing _ h := absurd h (Nat.lt_irrefl 0)
  refusal h := nomatch h

/-- Every built-in parameter lies in its range (04 R56). -/
theorem Copy.builtin_ok : Copy.builtin.Ok where
  params p := by cases p <;> decide
  rows _ _ := rfl

theorem State.reset_copiesOk : State.reset.CopiesOk := ⟨Copy.builtin_ok, Copy.builtin_ok, trivial⟩

theorem Control.initial_ok : Control.initial.Ok where
  covers := by constructor <;> decide
  rampHalts h := nomatch h
  permitFront := by decide
  permitRear := by decide
  packLine := rfl
  warnLine _ := rfl

/-- Right after power-on no channel runs. -/
theorem State.reset_not_runs (c : Chan) : ¬ State.reset.runs c := by
  unfold State.runs
  cases c <;> decide

theorem State.reset_chipOk : State.reset.ChipOk where
  halted _ _ := ⟨rfl, rfl⟩
  walking h := nomatch h
  stack := Nat.zero_le _
  emptied _ := ⟨rfl, rfl⟩
  gather h := absurd h (State.reset_not_runs _)
  idle h := absurd h (State.reset_not_runs _)
  loading _ := ⟨State.reset_not_runs _, State.reset_not_runs _, State.reset_not_runs _⟩

theorem Observations.initial_ok : State.reset.obs.Ok := by
  refine ⟨⟨?_, ?_, ?_, ?_, ?_⟩, ⟨?_, ?_, ?_, ?_, ?_⟩, ⟨?_, ?_, ?_, ?_, ?_, ?_⟩, ⟨?_, ?_⟩⟩ <;> decide

/-- A computation of zeros keeps within every ceiling (08 R128). -/
theorem LastComputation.initial_ok : LastComputation.initial.Ok where
  drive := Nat.le_refl 0
  regen := Nat.le_refl 0
  limits := by decide
  commands := by decide
  oneOf := .inl ⟨rfl, rfl⟩
  overspeed _ := ⟨rfl, rfl⟩
  noRegen _ := ⟨rfl, rfl⟩
  isoFront h := nomatch h
  isoRear h := nomatch h

theorem State.reset_envelopeOk : State.reset.EnvelopeOk where
  obs := Observations.initial_ok
  copies := State.reset_copiesOk
  derate := by decide
  last := LastComputation.initial_ok
  slew := ⟨rfl, rfl, rfl, rfl⟩
  grants p g h := by cases p <;> cases h

/-- Settles O4. -/
theorem resetMeetsInvariants : Obligations.ResetMeetsInvariants :=
  ⟨State.reset_memoryOk, FaultTable.initial_ok, State.reset_copiesOk, Control.initial_ok, State.reset_chipOk,
    State.reset_linksOk, State.reset_envelopeOk, rfl⟩

/-! ## Power-on values and POWER_ON -/

/-- Outside the freshness channels every channel is stopped at power-on (03 R34). -/
theorem State.reset_stopped (c : Chan) (h : ∀ p : Port, c ≠ p.channel) :
    State.reset.timers.get c = ⟨.stopped, 0, 0⟩ := by
  cases c with
  | freshFront => exact absurd rfl (h .front)
  | freshRear => exact absurd rfl (h .rear)
  | freshPack => exact absurd rfl (h .pack)
  | freshCkpt => exact absurd rfl (h .cockpit)
  | envelope | check | haltRamp | recordTick | gather | serviceIdle | storeWait => rfl

/-- A page transfer is in progress only in a page write the memory did not refuse (10 R187, R188). -/
theorem Store.transfer_eq_none {x : Store}
    (h : x.refused = true ∨ (x.op ≠ .latchPage ∧ ∀ k, x.op ≠ .savePage k)) : x.transfer = none := by
  rcases ht : x.transfer with _ | ⟨a, n⟩
  · rfl
  · obtain ⟨hr, hop⟩ := Store.transfer_eq_some.1 ht
    rcases h with h | ⟨hl, hs⟩
    · exact absurd (hr.symm.trans h) (by decide)
    · rcases hop with ⟨k, hk, -⟩ | ⟨hk, -⟩
      · exact absurd hk (hs k)
      · exact absurd hk hl

/-- A transfer cut short leaves its bytes from its first address on, and every other byte as it was. -/
theorem memoryAfterCut_written {x : Store} {m : Memory} (hm : m.wf = true) {base n : Nat}
    (h : x.transfer = some (base, n)) (l : List Byte) :
    (∀ i, i < n → i < l.length → (memoryAfterCut x m (some l)).read (base + i) = byteAt l i)
      ∧ ∀ a, a < base ∨ base + min n l.length ≤ a → (memoryAfterCut x m (some l)).read a = m.read a := by
  refine ⟨fun i hi hl => ?_, fun a ha => ?_⟩
  · rw [memoryAfterCut_read hm h, if_pos (by omega), Nat.add_sub_cancel_left]; rfl
  · rw [memoryAfterCut_read hm h, if_neg (by omega)]

/-- What POWER_ON leaves: the values of power-on, but for the memory, its internal write and the queue. -/
theorem exec_powerOn (cause : ResetCause) (torn : Option (List Byte)) (s : State) :
    exec (.powerOn cause torn) s = .next { State.reset with
      memory := memoryAfterCut s.store s.memory torn
      memoryBusy := busyAfter cause s.memoryBusy
      store := { Store.initial with refused := decide (0 < busyAfter cause s.memoryBusy) }
      pending := s.pending } := rfl

/-- Settles O3: the values are read off `State.reset`, and a transfer cut short is `memoryAfterCut`. -/
theorem powerOnTakesPowerOnValues : Obligations.PowerOnTakesPowerOnValues := by
  refine ⟨⟨fun p => ?_, rfl, fun m => ?_, rfl, rfl, rfl, State.reset_stopped, rfl, rfl, rfl, rfl, rfl, rfl, rfl,
    rfl, rfl, rfl, rfl, rfl, rfl, rfl, rfl, rfl, rfl, rfl, rfl, rfl, rfl, rfl, rfl, rfl, rfl, rfl, rfl, rfl, rfl, rfl,
    rfl, rfl⟩, fun cause torn s hm => ⟨_, exec_powerOn cause torn s, rfl, ?_, ?_, fun h => ?_, ?_⟩⟩
  · cases p <;> exact ⟨rfl, rfl, rfl, rfl, rfl, rfl, rfl, rfl, rfl⟩
  · cases m <;> exact ⟨rfl, rfl, rfl, rfl, rfl, rfl, rfl, rfl, rfl, rfl, rfl, rfl⟩
  · rintro rfl
    exact ⟨rfl, rfl⟩
  · rintro rfl
    exact ⟨rfl, decide_eq_true_iff⟩
  · exact memoryAfterCut_idle (h.imp_right Store.transfer_eq_none)
  · rintro base n l hr rfl hop
    exact memoryAfterCut_written hm (Store.transfer_eq_some.2 ⟨hr, hop⟩) l

end Sys2Proof.Machine
end

section
/-! PROOFS. What a port hears: discarded frames (O5), receive errors (O7), breaks (O8, O9), silence (O10) and accepted
frames (O6). -/

namespace Sys2Proof.Machine

open Sys2Proof

/-! ## The commands outside a break and in one (01 R1) -/

section
variable {s : State} {p : Port}

theorem exec_frameReceived (hb : (s.port p).inBreak = false) (body : List Byte) :
    exec (.frameReceived p body) s = .next (s.closeFrame p body) := by
  simp [exec, execFrameReceived, hb]

theorem exec_receiveError (hb : (s.port p).inBreak = false) (e : RxError) :
    exec (.receiveError p e) s = .next (s.receiveError p e) := by
  simp [exec, execReceiveError, hb]

theorem exec_byteReceived (hb : (s.port p).inBreak = false) (i : RxItem) :
    exec (.byteReceived p i) s = .next (s.frameItem p i) := by
  simp [exec, execByteReceived, hb]

theorem exec_lineBreak_between (hb : (s.port p).inBreak = false) (hf : (s.port p).inFrame = false) :
    exec (.lineBreak p) s = .next (s.breakLink p) := by
  simp [exec, execLineBreak, hb, hf]

theorem exec_lineBreak_inFrame (hb : (s.port p).inBreak = false) (hf : (s.port p).inFrame = true) :
    exec (.lineBreak p) s = .next ((s.receiveError p .breakInFrame).breakLink p) := by
  simp [exec, execLineBreak, hb, hf]

/-- In a break the receiver recognises nothing (R1). -/
theorem exec_muted (hb : (s.port p).inBreak = true) (body : List Byte) (e : RxError) (i : RxItem) :
    exec (.lineBreak p) s = .next s ∧ exec (.frameReceived p body) s = .next s
      ∧ exec (.receiveError p e) s = .next s ∧ exec (.byteReceived p i) s = .next s := by
  simp [exec, execLineBreak, execFrameReceived, execReceiveError, execByteReceived, hb]

theorem exec_breakEnd (hb : (s.port p).inBreak = true) :
    exec (.breakEnd p) s = .next (s.updPort p LinkPort.breakEnded) := by
  simp [exec, execBreakEnd, hb]

theorem exec_freshnessExpiry (hf : s.expiryInForce p.channel = true) :
    exec (.freshnessExpiry p) s = .next ((s.afterExpiry p.channel).silence p) := by
  simp [exec, execFreshnessExpiry, hf]

/-! ## Closing a frame (01 R3, R5, R6) -/

theorem State.updPort_updPort (f g : LinkPort → LinkPort) :
    (s.updPort p f).updPort p g = s.updPort p fun x => g (f x) := by
  simp [State.updPort]

theorem State.closeFrame_error {body : List Byte} {e : RxError} (hne : body ≠ []) (he : bodyError body = some e) :
    s.closeFrame p body = s.receiveError p e := by
  cases body with
  | nil => exact absurd rfl hne
  | cons b l => simp [State.closeFrame, he]

/-- A body that passes the end-of-frame checks meets the acceptance checks, the framer in BODY again (R2, R3). -/
theorem State.closeFrame_sound {body : List Byte} (he : bodyError body = none) :
    s.closeFrame p body = (s.updPort p LinkPort.opened).checkFrame p body := by
  cases body with
  | nil => simp [bodyError] at he
  | cons b l => simp [State.closeFrame, he]

theorem State.checkFrame_protocolError {body : List Byte} (hk : acceptedKind p (bodyKind body) = none) :
    s.checkFrame p body = s.updPort p LinkPort.protocolError := by
  simp [State.checkFrame, hk]

theorem State.checkFrame_malformed {body : List Byte} {k : FrameKind} (hk : acceptedKind p (bodyKind body) = some k)
    (hm : malformed k (bodyPayload body) = true) : s.checkFrame p body = s.updPort p LinkPort.malformedFrame := by
  simp [State.checkFrame, hk, hm]

theorem State.checkFrame_sequence {body : List Byte} {k : FrameKind} (hk : acceptedKind p (bodyKind body) = some k)
    (hm : malformed k (bodyPayload body) = false) :
    s.checkFrame p body = s.sequenceFrame p k (bodySeq body) (bodyPayload body) := by
  simp [State.checkFrame, hk, hm]

theorem seqClass_eq_repeated {ref : Option Byte} {seq : Byte} : seqClass ref seq = .repeated ↔ ref = some seq := by
  unfold seqClass
  cases ref with
  | none => simp
  | some r =>
    dsimp only
    split
    · next h => simp [h]
    · next h => split <;> simp [Ne.symm h]

theorem State.sequenceFrame_repeated {k : FrameKind} {seq : Byte} {l : List Byte}
    (h : (s.port p).seqRef = some seq) :
    s.sequenceFrame p k seq l = (s.updPort p LinkPort.repeated).deliver (.evidence p.unit .linkFrozen none) := by
  simp [State.sequenceFrame, seqClass_eq_repeated.2 h]

theorem State.sequenceFrame_accepted {k : FrameKind} {seq : Byte} {l : List Byte}
    (h : (s.port p).seqRef ≠ some seq) : s.sequenceFrame p k seq l
      = (s.acceptFrame p (seqClass (s.port p).seqRef seq) seq).handOn p k seq l := by
  simp [State.sequenceFrame, mt seqClass_eq_repeated.1 h]

end

/-- Settles O5: each frame of a sound body meets its discarding check with the framer in BODY. -/
theorem discardedFrameOnlyCounts : Obligations.DiscardedFrameOnlyCounts := by
  refine ⟨fun p body s hb he => ⟨fun hk => ?_, fun k hk hm => ?_⟩, fun p body k s hb he hk hm hr => ?_⟩
  · rw [exec_frameReceived hb, State.closeFrame_sound he, State.checkFrame_protocolError hk, State.updPort_updPort]
    rfl
  · rw [exec_frameReceived hb, State.closeFrame_sound he, State.checkFrame_malformed hk hm, State.updPort_updPort]
    rfl
  · rw [exec_frameReceived hb, State.closeFrame_sound he, State.checkFrame_sequence hk hm,
      State.sequenceFrame_repeated (by rwa [State.updPort_port]), State.updPort_updPort]
    rfl

/-! ## Receive errors (01 R4) -/

theorem framerAfterError_eq (e : RxError) :
    framerAfterError e = if e = .crcMismatch ∨ e = .lengthMismatch then .body else .hunt := by
  cases e <;> rfl

/-- Settles O7. -/
theorem receiveErrorDiscardsFrame : Obligations.ReceiveErrorDiscardsFrame := by
  intro p e s hb
  refine ⟨?_, fun body hne he => ?_⟩
  · rw [exec_receiveError hb, ← framerAfterError_eq]
    rfl
  · rw [exec_frameReceived hb, exec_receiveError hb, State.closeFrame_error hne he]

/-! ## Breaks (01 R10) -/

@[simp] theorem State.receiveError_port (s : State) (p : Port) (e : RxError) :
    (s.receiveError p e).port p = (s.port p).afterError e := State.updPort_port _ _ _

/-- Settles O9: the receive error leaves the framer in HUNT, where the break finds no frame. -/
theorem breakInFrameAndBreakEnd : Obligations.BreakInFrameAndBreakEnd := by
  refine ⟨fun p s => ⟨fun hb hf => ?_, fun hb => exec_muted hb⟩, fun p s hb => exec_breakEnd hb⟩
  refine ⟨_, _, exec_receiveError hb _, exec_lineBreak_between ?_ ?_, exec_lineBreak_inFrame hb hf⟩
  · rw [State.receiveError_port]; exact hb
  · rw [State.receiveError_port]; rfl

section
variable (s : State) (p : Port)

theorem State.emptyReplies_port : (s.emptyReplies p).port p
    = if p = .cockpit then (s.port p).dropReplies s.replies.length else s.port p := by
  cases p <;> rfl

/-- The port a break leaves (R10, steps 1, 3, 4, 7 and 8). -/
theorem State.breakLink_port : (s.breakLink p).port p = { s.port p with
    framer := .hunt, body := [], inBreak := true, link := .down, seqRef := none, joinRun := 0, grant := none
    counters := { (s.port p).counters with
      breaks := bump (s.port p).counters.breaks
      dropped := if p = .cockpit then min 65535 ((s.port p).counters.dropped + s.replies.length)
        else (s.port p).counters.dropped } } := by
  have hx : ((s.updPort p LinkPort.broken).arm p.channel).port p = (s.port p).broken := s.updPort_port p _
  rw [State.breakLink_port_eq, State.emptyReplies_port, hx]
  by_cases hp : p = .cockpit <;> simp only [hp, if_true, if_false] <;> rfl

/-- What is owed once the port's channel is operated and its link state has changed to `l` (07 R106). -/
theorem State.noticing_owed (l : LinkState) :
    (s.noticing p l).owed = s.owed.map (Owed.voided p.channel) ++ linkNotice p (s.port p).link l := by
  simp [State.noticing, linkNotice, eq_comm]

/-- What deliveries leave owed depends on what was owed, the table, the working copy and the time alone. -/
theorem State.deliverAll_owed_congr {s t : State} (ds : List Delivery) (ho : s.owed = t.owed) (h : s.table = t.table)
    (hw : s.working = t.working) (hn : s.now = t.now) : (s.deliverAll ds).owed = (t.deliverAll ds).owed := by
  induction ds generalizing s t with
  | nil => exact ho
  | cons d ds ih =>
    exact ih (by rw [State.deliver_owed_eq, State.deliver_owed_eq, ho, h, hw, hn])
      (by rw [State.deliver_table_eq, State.deliver_table_eq, h, hw, hn]) hw hn

/-- The deliveries of a break (R10, step 2). -/
def breakEvidence (u : FaultUnit) (l : LinkState) : List Delivery :=
  if l.lostByBreak then [.evidence u .linkLost none] else []

/-- A break delivers its evidence with the link state notice owed. -/
theorem State.breakLink_delivers :
    (s.breakLink p).table = ((s.noticing p .down).deliverAll (breakEvidence p.unit (s.port p).link)).table
      ∧ (s.breakLink p).owed = ((s.noticing p .down).deliverAll (breakEvidence p.unit (s.port p).link)).owed := by
  refine ⟨State.deliverAll_table_congr _ ?_ ?_ ?_, State.deliverAll_owed_congr _ ?_ ?_ ?_ ?_⟩
  case refine_4 =>
    rw [State.noticing_owed]
    simp [State.owe, State.arm, State.operate]
  all_goals simp [State.noticing]

theorem State.breakLink_rest : s.breakLink p = { s with
    ports := (s.breakLink p).ports, replies := (s.breakLink p).replies, timers := (s.breakLink p).timers
    obs := (s.breakLink p).obs, table := (s.breakLink p).table, owed := (s.breakLink p).owed } := by
  apply State.ext_fields <;> simp

end

/-- Settles O8: the port, its channel and record, and the deliveries of `State.breakLink`, each by its own rule. -/
theorem breakTakesLinkDown : Obligations.BreakTakesLinkDown := by
  intro p s hb hf
  obtain ⟨htable, howed⟩ := s.breakLink_delivers p
  refine ⟨_, exec_lineBreak_between hb hf, s.breakLink_port p, fun q hq => s.breakLink_port_ne p hq,
    s.breakLink_replies p, s.breakLink_timers p, s.breakLink_obs p, fun hl => ?_, fun hl => ?_, s.breakLink_rest p⟩
  · have he : breakEvidence p.unit (s.port p).link = [.evidence p.unit .linkLost none] := by
      rcases hl with hl | hl <;> simp [breakEvidence, LinkState.lostByBreak, hl]
    rw [htable, howed, he]
    exact ⟨rfl, rfl⟩
  · have he : breakEvidence p.unit (s.port p).link = [] := by
      rcases hl with hl | hl <;> simp [breakEvidence, LinkState.lostByBreak, hl]
    rw [htable, howed, he]
    exact ⟨rfl, rfl⟩

/-! ## Silence (01 R9) -/

/-- The oldest expiry of a channel decides exactly when one is owed. -/
theorem State.owes_expiry_iff (s : State) (c : Chan) :
    s.owes (Owed.isExpiry c) = (s.owed.find? (Owed.isExpiry c)).isSome := by
  rw [Bool.eq_iff_iff]
  simp [State.owes]

/-- A freshness channel runs one shot, so an expiry taken with none owed leaves it stopped (03 R36, R43; log 4). -/
theorem State.afterExpiry_stopped {s : State} {p : Port} (hf : s.expiryInForce p.channel = true)
    (ho : s.owes (Owed.isExpiry p.channel) = false) :
    ((s.afterExpiry p.channel).timers.get p.channel).state = .stopped := by
  have hn : s.owed.find? (Owed.isExpiry p.channel) = none := by
    rw [State.owes_expiry_iff] at ho
    simpa using ho
  have hrun : (s.timers.get p.channel).state = .running := by
    simpa [State.expiryInForce, hn] using hf
  have hmode : p.channel.mode = .oneShot := by cases p <;> rfl
  simp [State.afterExpiry, ho, hrun, Channel.expired, hmode]

theorem State.afterExpiry_timers_owed {s : State} {c : Chan} (ho : s.owes (Owed.isExpiry c) = true) :
    (s.afterExpiry c).timers = s.timers := by
  simp [State.afterExpiry, ho]

theorem State.afterExpiry_timers_ne (s : State) {c d : Chan} (h : d ≠ c) :
    (s.afterExpiry c).timers.get d = s.timers.get d := by
  simp only [State.afterExpiry]
  split
  · rfl
  · split
    · exact Timers.get_set_ne _ _ _ _ h
    · rfl

/-- Settles O10: the expiry is taken, and the link it finds heard is silenced. -/
theorem freshnessExpirySilencesLink : Obligations.FreshnessExpirySilencesLink := by
  intro p s hf hl
  have hh : (s.port p).link.heard = true := by
    rcases hl with hl | hl <;> rw [hl] <;> rfl
  refine ⟨_, exec_freshnessExpiry hf, ?_⟩
  rw [State.silence_heard (s := s.afterExpiry p.channel) hh]
  refine ⟨?_, fun q hq => ?_, rfl, rfl, rfl, fun ho => ?_, fun ho => ?_, fun c hc => ?_, ?_⟩
  · exact State.updPort_port _ p _
  · exact State.updPort_port_ne _ p _ hq
  · exact State.afterExpiry_stopped hf ho
  · exact State.afterExpiry_timers_owed ho
  · exact State.afterExpiry_timers_ne s hc
  · apply State.ext_fields <;> simp

/-! ## Accepted frames (01 R6 to R8, R15) -/

/-- A SEQ neither repeated nor next is a gap (R6). -/
theorem seqClass_gap {r seq : Byte} (h : seq ≠ r) (hn : seq ≠ r + 1#8) : seqClass (some r) seq = .gap := by
  simp [seqClass, h, hn]

/-- Without a reference, or next after it, a SEQ is no gap (R6). -/
theorem seqClass_ne_gap {ref : Option Byte} {seq : Byte} (h : ref = none ∨ ref = some (seq - 1#8)) :
    seqClass ref seq ≠ .gap := by
  rcases h with rfl | rfl
  · simp [seqClass]
  · rw [seqClass, BitVec.sub_add_cancel]
    split <;> simp

/-- A link that was DOWN or SILENT joins anew (R8). -/
theorem linkMove_unheard {l : LinkState} (h : l = .down ∨ l = .silent) (n : Nat) (c : SeqClass) :
    linkMove l n c = (.joining, 1) := by
  rcases h with rfl | rfl <;> rfl

/-- In sequence the join run grows, and its third frame brings the link UP (R8). -/
theorem linkMove_joining {c : SeqClass} (hc : c ≠ .gap) (n : Nat) :
    (n < 2 → linkMove .joining n c = (.joining, n + 1)) ∧ (n = 2 → linkMove .joining n c = (.up, 3)) := by
  refine ⟨fun h => ?_, fun h => ?_⟩
  · simp [linkMove, hc, Config.joinFrames]; omega
  · simp [linkMove, hc, Config.joinFrames, h]

/-- A state whose owed events are those of another followed by others, none a link state notice. -/
def State.OwesNoNotice (s t : State) : Prop := ∃ news, t.owed = s.owed ++ news ∧ ∀ q, Owed.linkState q ∉ news

theorem State.OwesNoNotice.refl {s : State} : s.OwesNoNotice s := ⟨[], by simp, by simp⟩

theorem State.OwesNoNotice.trans {s t u : State} (h : s.OwesNoNotice t) (h' : t.OwesNoNotice u) :
    s.OwesNoNotice u := by
  obtain ⟨l, hl, hn⟩ := h
  obtain ⟨l', hl', hn'⟩ := h'
  exact ⟨l ++ l', by rw [hl', hl, List.append_assoc], fun q => by simp [hn q, hn' q]⟩

theorem State.OwesNoNotice.owe (s : State) (e : Owed) (h : ∀ q, e ≠ .linkState q) : s.OwesNoNotice (s.owe [e]) :=
  ⟨[e], rfl, fun q => by simpa using (h q).symm⟩

/-- A delivery owes announcements and requests alone (05 R78, R80). -/
theorem State.OwesNoNotice.deliver (s : State) (d : Delivery) : s.OwesNoNotice (s.deliver d) :=
  ⟨_, s.deliver_owed_eq d, fun q => by simp only [TableOut.owes]; split <;> split <;> simp⟩

/-- The verdicts of a report owe no link state notice (02 R23 to R25). -/
theorem State.OwesNoNotice.reportVerdicts (s : State) (u : FaultUnit) (f : Option Nat) (claims : List Kind) :
    s.OwesNoNotice (s.reportVerdicts u f claims) := by
  refine (State.OwesNoNotice.deliver s (obsRangeVerdict u f)).trans ?_
  unfold State.reportVerdicts
  generalize s.deliver (obsRangeVerdict u f) = x
  induction claimable u generalizing x with
  | nil => exact .refl
  | cons k ks ih =>
    refine State.OwesNoNotice.trans ?_ (ih _)
    unfold State.deliverClaim
    split
    · exact State.OwesNoNotice.deliver _ _
    · exact .refl

/-- Handing a frame on owes no link state notice (R7, step 6). -/
theorem State.OwesNoNotice.handOn (s : State) (p : Port) (k : FrameKind) (seq : Byte) (l : List Byte) :
    s.OwesNoNotice (s.handOn p k seq l) := by
  have motor : ∀ m, s.OwesNoNotice (s.takeMotorReport m l) := fun m =>
    (State.OwesNoNotice.reportVerdicts { s with obs := s.obs.setMotor m _ } _ _ _).trans
      (State.OwesNoNotice.owe _ (.arrival _ _) (by simp))
  cases k with
  | motorReport =>
    cases p with
    | front => exact motor .front
    | rear => exact motor .rear
    | pack | cockpit => exact .refl
  | packReport => exact State.OwesNoNotice.reportVerdicts { s with
      obs := { s.obs with pack := (s.obs.pack.take s.now l).value } } _ _ _
  | demand =>
    exact (State.OwesNoNotice.reportVerdicts { s with
      obs := { s.obs with cockpit := (s.obs.cockpit.take s.now l).value } } _ _ _).trans
      (State.OwesNoNotice.owe _ (.arrival _ _) (by simp))
  | command =>
    simp only [State.handOn, State.handCommand]
    split
    · exact .refl
    · exact State.OwesNoNotice.owe _ (.command _) (by simp)

section
variable {s : State} {p : Port} {k : FrameKind} {body : List Byte}

/-- COMMAND frames are the cockpit's (R5). -/
theorem acceptedKind_command {n : Nat} (h : acceptedKind p n = some .command) : p = .cockpit := by
  unfold acceptedKind at h
  split at h <;> simp_all

/-- Only a COMMAND that finds four replies touches a port when it is handed on (R15). -/
theorem State.handOn_ports_eq (seq : Byte) (l : List Byte) (h : k ≠ .command ∨ s.replies.length < 4) :
    (s.handOn p k seq l).ports = s.ports := by
  cases k with
  | motorReport => cases p <;> simp [State.handOn]
  | packReport | demand => simp [State.handOn]
  | command =>
    have hn : ¬ Config.fifoPlaces ≤ s.replies.length := by simpa [Config.fifoPlaces] using h
    simp [State.handOn, State.handCommand, hn]

/-- A COMMAND that finds four replies is dropped and counted (R15). -/
theorem State.handOn_command_dropped (seq : Byte) (l : List Byte) (h : 4 ≤ s.replies.length) :
    s.handOn p .command seq l = s.updPort .cockpit (LinkPort.dropReplies 1) := if_pos h

/-- A COMMAND handed on: nothing but what is owed, or the count of a dropped one (R15). -/
theorem State.handOn_command (s : State) (seq : Byte) (l : List Byte) :
    (s.handOn .cockpit .command seq l).obs = s.obs ∧ (s.handOn .cockpit .command seq l).table = s.table
      ∧ (s.replies.length < 4 → (s.handOn .cockpit .command seq l).owed = s.owed ++ [.command (commandOf seq l)])
      ∧ (4 ≤ s.replies.length → (s.handOn .cockpit .command seq l).owed = s.owed
        ∧ ((s.handOn .cockpit .command seq l).port .cockpit).counters.dropped
          = min 65535 ((s.port .cockpit).counters.dropped + 1)) := by
  refine ⟨by simp [State.handOn], by simp [State.handOn], fun h => ?_, fun h => ?_⟩
  · have hn : ¬ Config.fifoPlaces ≤ s.replies.length := Nat.not_le.2 h
    simp [State.handOn, State.handCommand, hn, State.owe]
  · rw [State.handOn_command_dropped seq l h]
    exact ⟨rfl, rfl⟩

/-- Handing on moves at most the replies-dropped counter of the port that heard the frame. -/
theorem State.handOn_port (hk : k = .command → p = .cockpit) (seq : Byte) (l : List Byte) :
    (s.handOn p k seq l).port p = { s.port p with counters := { (s.port p).counters with
        dropped := ((s.handOn p k seq l).port p).counters.dropped } }
      ∧ ∀ q, q ≠ p → (s.handOn p k seq l).port q = s.port q := by
  by_cases h : k ≠ .command ∨ s.replies.length < 4
  · simp [State.port, State.handOn_ports_eq seq l h]
  · obtain ⟨hc, hr⟩ := not_or.1 h
    obtain rfl := not_not.1 hc
    obtain rfl := hk rfl
    rw [State.handOn_command_dropped seq l (Nat.le_of_not_lt hr)]
    exact ⟨by rw [State.updPort_port]; rfl, fun q hq => State.updPort_port_ne s .cockpit _ hq⟩

/-- The state of an accepted frame: the framer in BODY again, the port's part of R7, then the frame handed on. -/
theorem State.accepts.exec_eq (h : s.accepts p k body) : exec (.frameReceived p body) s
    = .next (((s.updPort p LinkPort.opened).acceptFrame p (seqClass (s.port p).seqRef (bodySeq body))
        (bodySeq body)).handOn p k (bodySeq body) (bodyPayload body)) := by
  have hr : ((s.updPort p LinkPort.opened).port p).seqRef = (s.port p).seqRef := by rw [State.updPort_port]; rfl
  rw [exec_frameReceived h.line, State.closeFrame_sound h.sound, State.checkFrame_sequence h.kind h.structured,
    State.sequenceFrame_accepted (by rw [hr]; exact h.fresh), hr]

/-- An accepted frame's clean observations are delivered with the link state notice owed (R7, step 5). -/
theorem State.acceptFrame_delivers (s : State) (p : Port) (c : SeqClass) (seq : Byte) :
    ((s.updPort p LinkPort.opened).acceptFrame p c seq).table
        = ((s.noticing p (linkMove (s.port p).link (s.port p).joinRun c).1).deliverAll (linkCleans p.unit)).table
      ∧ ((s.updPort p LinkPort.opened).acceptFrame p c seq).owed
        = ((s.noticing p (linkMove (s.port p).link (s.port p).joinRun c).1).deliverAll (linkCleans p.unit)).owed := by
  have ho : (s.updPort p LinkPort.opened).port p = (s.port p).opened := State.updPort_port _ _ _
  refine ⟨State.deliverAll_table_congr _ ?_ ?_ ?_, State.deliverAll_owed_congr _ ?_ ?_ ?_ ?_⟩
  case refine_4 =>
    rw [State.noticing_owed, ho]
    simp [State.owe, State.start, State.operate, LinkPort.opened]
  all_goals simp [State.noticing]

/-- The state after an accepted frame: its port, its channel, and everything else as it was (R6, R7). -/
theorem State.accepts.exec_spec (h : s.accepts p k body) : ∃ t, exec (.frameReceived p body) s = .next t
    ∧ t.port p = { (s.port p).opened.accepted (seqClass (s.port p).seqRef (bodySeq body)) (bodySeq body) with
        counters := { ((s.port p).accepted (seqClass (s.port p).seqRef (bodySeq body)) (bodySeq body)).counters with
          dropped := (t.port p).counters.dropped } }
    ∧ (∀ q, q ≠ p → t.port q = s.port q)
    ∧ (k ≠ .command ∨ s.replies.length < 4 → (t.port p).counters.dropped = (s.port p).counters.dropped)
    ∧ t.timers = s.timers.set p.channel ⟨.running, p.channel.reloadValue s.working.params, 0⟩
    ∧ (∃ news, t.owed = ((s.noticing p (t.port p).link).deliverAll (linkCleans p.unit)).owed ++ news
        ∧ ∀ q, Owed.linkState q ∉ news)
    ∧ t = { s with ports := t.ports, timers := t.timers, obs := t.obs, table := t.table, owed := t.owed } := by
  have ho : (s.updPort p LinkPort.opened).port p = (s.port p).opened := State.updPort_port _ _ _
  obtain ⟨hp, hq⟩ := State.handOn_port
    (s := (s.updPort p LinkPort.opened).acceptFrame p (seqClass (s.port p).seqRef (bodySeq body)) (bodySeq body))
    (p := p) (k := k) (fun hk => acceptedKind_command (hk ▸ h.kind)) (bodySeq body) (bodyPayload body)
  rw [State.acceptFrame_port, ho] at hp
  obtain ⟨news, hn, hfree⟩ := State.OwesNoNotice.handOn
    ((s.updPort p LinkPort.opened).acceptFrame p (seqClass (s.port p).seqRef (bodySeq body)) (bodySeq body))
    p k (bodySeq body) (bodyPayload body)
  refine ⟨_, h.exec_eq, hp, fun q hne => ?_, fun hd => ?_, ?_, ⟨news, ?_, hfree⟩, ?_⟩
  · rw [hq q hne, State.acceptFrame_port_ne _ _ _ _ hne, State.updPort_port_ne _ _ _ hne]
  · rw [State.port_eq, State.handOn_ports_eq _ _ (by simpa using hd), ← State.port_eq, State.acceptFrame_port, ho]
    rfl
  · rw [State.handOn_timers, State.acceptFrame_timers]
    rfl
  · rw [hn, (State.acceptFrame_delivers s p _ _).2, hp]
    rfl
  · apply State.ext_fields <;> simp

end

/-- Settles O6: the link clauses are the cases of `seqClass` and `linkMove`, read off the accepted port. -/
theorem acceptedFrameMovesLink : Obligations.AcceptedFrameMovesLink := by
  refine ⟨fun p body k s hb he hk hm hr => ?_, fun body s hb he hk hm hr => ?_⟩
  · obtain ⟨t, hx, hport, hother, hdrop, htimers, howed, hrest⟩ :=
      State.accepts.exec_spec (⟨hb, he, hk, hm, hr⟩ : s.accepts p k body)
    have hmove : ((t.port p).link, (t.port p).joinRun)
        = linkMove (s.port p).link (s.port p).joinRun (seqClass (s.port p).seqRef (bodySeq body)) := by
      rw [hport]; rfl
    have hgaps : (t.port p).counters.gaps = if seqClass (s.port p).seqRef (bodySeq body) = .gap
        then bump (s.port p).counters.gaps else (s.port p).counters.gaps := by
      rw [hport]; rfl
    have hgap : ∀ r, (s.port p).seqRef = some r → bodySeq body ≠ r + 1#8 →
        seqClass (s.port p).seqRef (bodySeq body) = .gap := by
      intro r h hne
      rw [h] at hr ⊢
      exact seqClass_gap (fun e => hr (congrArg some e.symm)) hne
    refine ⟨t, hx, by rw [hport]; rfl, by rw [hport]; rfl, by rw [hport]; rfl, by rw [hport]; rfl, ?_, ?_, ?_, ?_, ?_,
      ?_, htimers, by rw [hport]; rfl, hdrop, howed, hother, hrest⟩
    · intro r h hne
      rw [hgaps, if_pos (hgap r h hne)]
    · intro h
      rw [hgaps, if_neg (seqClass_ne_gap h)]
    · intro h
      rw [linkMove_unheard h] at hmove
      exact Prod.mk.inj hmove
    · intro hj h
      obtain ⟨hlt, heq⟩ := linkMove_joining (seqClass_ne_gap (.inr h)) (s.port p).joinRun
      rw [hj] at hmove
      exact ⟨fun hn => Prod.mk.inj (hmove.trans (hlt hn)), fun hn => Prod.mk.inj (hmove.trans (heq hn))⟩
    · rintro hj ⟨r, h, hne⟩
      rw [hj, hgap r h hne] at hmove
      exact Prod.mk.inj hmove
    · intro hu
      rw [hu] at hmove
      exact (Prod.mk.inj hmove).1
  · have h : s.accepts .cockpit .command body := ⟨hb, he, by rw [hk]; rfl, hm, hr⟩
    obtain ⟨t, hx, hport, -, -, -, -, -⟩ := h.exec_spec
    have ht := Host.Outcome.next.inj (hx.symm.trans h.exec_eq)
    have hlink : t.ports.cockpit.link = (linkMove (s.port .cockpit).link (s.port .cockpit).joinRun
        (seqClass (s.port .cockpit).seqRef (bodySeq body))).1 := congrArg LinkPort.link hport
    obtain ⟨htable, howed⟩ :=
      State.acceptFrame_delivers s .cockpit (seqClass (s.port .cockpit).seqRef (bodySeq body)) (bodySeq body)
    rw [← hlink] at htable howed
    obtain ⟨hobs, htab, hlow, hfull⟩ := State.handOn_command
      ((s.updPort .cockpit LinkPort.opened).acceptFrame .cockpit (seqClass (s.port .cockpit).seqRef (bodySeq body))
        (bodySeq body)) (bodySeq body) (bodyPayload body)
    rw [← ht] at hobs htab hlow hfull
    refine ⟨t, hx, by simpa using hobs, _, rfl, htab.trans htable, fun hlt => ?_, fun hge => ?_⟩
    · rw [hlow (by simpa using hlt), howed]
      rfl
    · obtain ⟨ho, hdrop⟩ := hfull (by simpa using hge)
      refine ⟨ho.trans howed, hdrop.trans ?_⟩
      rw [State.acceptFrame_port, State.updPort_port]
      rfl

end Sys2Proof.Machine
end

section
/-! PROOFS. The framer follows its table (O11), frames as sent are received whole (O12), and the transmitter (O13). -/

namespace Sys2Proof.Machine

open Sys2Proof

/-! ## The framer's three states (01 R2) -/

section
variable {s : State} {p : Port}

theorem State.frameItem_hunt (hf : (s.port p).framer = .hunt) (i : RxItem) : s.frameItem p i = s.inHunt p i := by
  simp [State.frameItem, hf]

theorem State.frameItem_body (hf : (s.port p).framer = .body) (i : RxItem) : s.frameItem p i = s.inBody p i := by
  simp [State.frameItem, hf]

theorem State.frameItem_escaped (hf : (s.port p).framer = .escaped) (i : RxItem) :
    s.frameItem p i = s.inEscaped p i := by
  simp [State.frameItem, hf]

theorem State.inHunt_delimiter : s.inHunt p (.byte 0xA5#8) = s.updPort p LinkPort.opened := if_pos rfl

theorem State.inHunt_ignored {i : RxItem} (h : i ≠ .byte 0xA5#8) : s.inHunt p i = s := if_neg h

theorem State.inBody_delimiter : s.inBody p (.byte 0xA5#8) = s.closeFrame p (s.port p).body := rfl

theorem State.inBody_escape : s.inBody p (.byte 0xA6#8) = s.updPort p fun x => { x with framer := .escaped } := rfl

theorem State.inBody_byte {b : Byte} (h5 : b ≠ 0xA5#8) (h6 : b ≠ 0xA6#8) :
    s.inBody p (.byte b) = s.appendByte p b := (if_neg h5).trans (if_neg h6)

theorem State.inEscaped_delimiter : s.inEscaped p (.byte 0xA5#8) = s.updPort p LinkPort.opened := rfl

/-- The two escape pairs give the byte they stand for (R2). -/
theorem State.inEscaped_pair {b c : Byte} (h : (b = 0x25#8 ∧ c = 0xA5#8) ∨ (b = 0x26#8 ∧ c = 0xA6#8)) :
    s.inEscaped p (.byte b) = s.appendByte p c := by
  rcases h with ⟨rfl, rfl⟩ | ⟨rfl, rfl⟩ <;> rfl

theorem State.inEscaped_bad {b : Byte} (hd : b ≠ 0xA5#8) (h5 : b ≠ 0x25#8) (h6 : b ≠ 0x26#8) :
    s.inEscaped p (.byte b) = s.receiveError p .badEscape := (if_neg hd).trans ((if_neg h5).trans (if_neg h6))

theorem State.appendByte_room {b : Byte} (h : (s.port p).body.length < 45) :
    s.appendByte p b = s.updPort p fun x => { x with framer := .body, body := x.body ++ [b] } :=
  if_neg (Nat.not_le.2 h)

theorem State.appendByte_full {b : Byte} (h : 45 ≤ (s.port p).body.length) :
    s.appendByte p b = s.receiveError p .overlength := if_pos h

/-- A delimiter opens a new frame where no byte has been gathered that counts (R2). -/
theorem State.frameItem_opens (h : (s.port p).framer = .hunt ∨ (s.port p).framer = .escaped
    ∨ ((s.port p).framer = .body ∧ (s.port p).body = [])) :
    s.frameItem p (.byte 0xA5#8) = s.updPort p LinkPort.opened := by
  rcases h with hf | hf | ⟨hf, hb⟩
  · rw [State.frameItem_hunt hf, State.inHunt_delimiter]
  · rw [State.frameItem_escaped hf, State.inEscaped_delimiter]
  · rw [State.frameItem_body hf, State.inBody_delimiter, hb]
    rfl

theorem State.frameItem_framingError (h : (s.port p).framer ≠ .hunt) :
    s.frameItem p .framingError = s.receiveError p .framingError := by
  cases hf : (s.port p).framer with
  | hunt => exact absurd hf h
  | body => rw [State.frameItem_body hf]; rfl
  | escaped => rw [State.frameItem_escaped hf]; rfl

end

/-- Settles O11: each clause is one entry of the framer's table. -/
theorem framerFollowsItsTable : Obligations.FramerFollowsItsTable := by
  intro p s hb
  simp only [exec_byteReceived hb, exec_receiveError hb, exec_frameReceived hb]
  refine ⟨fun hf i hi => ?_, fun h => ?_, fun hf _ => ?_, fun hf => ?_, fun hf b h5 h6 =>
    ⟨fun h => ?_, fun h => ?_⟩, fun hf b c hp => ⟨fun h => ?_, fun h => ?_⟩, fun hf b hd h5 h6 => ?_, fun hf => ?_⟩
  · rw [State.frameItem_hunt hf, State.inHunt_ignored hi]
  · rw [State.frameItem_opens h]
    rfl
  · rw [State.frameItem_body hf, State.inBody_delimiter]
  · rw [State.frameItem_body hf, State.inBody_escape]
    rfl
  · rw [State.frameItem_body hf, State.inBody_byte h5 h6, State.appendByte_room h, ← hf]
    rfl
  · rw [State.frameItem_body hf, State.inBody_byte h5 h6, State.appendByte_full h]
  · rw [State.frameItem_escaped hf, State.inEscaped_pair hp, State.appendByte_room h]
    rfl
  · rw [State.frameItem_escaped hf, State.inEscaped_pair hp, State.appendByte_full h]
  · rw [State.frameItem_escaped hf, State.inEscaped_bad hd h5 h6]
  · rw [State.frameItem_framingError hf]

/-! ## A body taken byte by byte (01 R2, R12) -/

/-- A port in BODY with the bytes `l` gathered. -/
def LinkPort.gathered (l : List Byte) (x : LinkPort) : LinkPort := { x with framer := .body, body := l }

theorem execAll_append {as bs : List Instr} {s t : State} (h : execAll as s = .next t) :
    execAll (as ++ bs) s = execAll bs t := by
  induction as generalizing s with
  | nil => cases h; rfl
  | cons a as ih =>
    simp only [List.cons_append, execAll] at h ⊢
    split at h
    · exact ih h
    · cases h
    · cases h

/-- One command run before others, if it gives a next state. -/
theorem execAll_cons {c : Instr} {cs : List Instr} {s t : State} (h : exec c s = .next t) :
    execAll (c :: cs) s = execAll cs t := by
  rw [execAll, h]

section
variable (s : State) (p : Port)

theorem State.exec_gathered (hb : (s.port p).inBreak = false) (l : List Byte) (i : RxItem) :
    exec (.byteReceived p i) (s.updPort p (LinkPort.gathered l))
      = .next ((s.updPort p (LinkPort.gathered l)).inBody p i) := by
  rw [exec_byteReceived (by rw [State.updPort_port]; exact hb),
    State.frameItem_body (by rw [State.updPort_port]; rfl)]

/-- One body byte as sent, taken by a framer in BODY with room for it, is gathered. -/
theorem execAll_escapeByte (hb : (s.port p).inBreak = false) (l : List Byte) (hl : l.length < 45) (b : Byte) :
    execAll ((escapeByte b).map fun c => .byteReceived p (.byte c)) (s.updPort p (LinkPort.gathered l))
      = .next (s.updPort p (LinkPort.gathered (l ++ [b]))) := by
  have hg : ((s.updPort p (LinkPort.gathered l)).port p) = (s.port p).gathered l := s.updPort_port p _
  -- an escape pair: the escape byte, then the byte that stands for `b`
  have pair : ∀ c, (c = 0x25#8 ∧ b = 0xA5#8) ∨ (c = 0x26#8 ∧ b = 0xA6#8) →
      execAll [.byteReceived p (.byte 0xA6#8), .byteReceived p (.byte c)] (s.updPort p (LinkPort.gathered l))
        = .next (s.updPort p (LinkPort.gathered (l ++ [b]))) := by
    intro c hc
    have he : ((s.updPort p (LinkPort.gathered l)).updPort p fun x => { x with framer := .escaped }).port p
        = { s.port p with framer := .escaped, body := l } := by rw [State.updPort_port, hg]; rfl
    rw [execAll_cons (s.exec_gathered p hb l _), State.inBody_escape,
      execAll_cons (exec_byteReceived (by rw [he]; exact hb) _), State.frameItem_escaped (by rw [he]),
      State.inEscaped_pair hc, State.appendByte_room (by rw [he]; exact hl), State.updPort_updPort,
      State.updPort_updPort]
    rfl
  unfold escapeByte
  split
  · next h5 => exact pair _ (.inl ⟨rfl, h5⟩)
  · next h5 =>
    split
    · next h6 => exact pair _ (.inr ⟨rfl, h6⟩)
    · next h6 =>
      rw [List.map_singleton, execAll_cons (s.exec_gathered p hb l _), State.inBody_byte h5 h6,
        State.appendByte_room (by rw [hg]; exact hl), State.updPort_updPort]
      rfl

/-- A run of body bytes as sent, with room for them all, is gathered. -/
theorem execAll_escaped (hb : (s.port p).inBreak = false) (bs l : List Byte) (hl : (l ++ bs).length ≤ 45) :
    execAll ((bs.flatMap escapeByte).map fun c => .byteReceived p (.byte c)) (s.updPort p (LinkPort.gathered l))
      = .next (s.updPort p (LinkPort.gathered (l ++ bs))) := by
  induction bs generalizing l with
  | nil => rw [List.append_nil]; rfl
  | cons b bs ih =>
    rw [List.length_append, List.length_cons] at hl
    rw [List.flatMap_cons, List.map_append, execAll_append (execAll_escapeByte s p hb l (by omega) b),
      ih _ (by simp only [List.length_append, List.length_singleton]; omega), List.append_assoc]
    rfl

/-- What a closing delimiter makes of a body does not depend on the framer, which every branch sets anew. -/
theorem State.closeFrame_gathered (l body : List Byte) :
    (s.updPort p (LinkPort.gathered l)).closeFrame p body = s.closeFrame p body := by
  have ho : (s.updPort p (LinkPort.gathered l)).updPort p LinkPort.opened = s.updPort p LinkPort.opened :=
    State.updPort_updPort _ _
  have he : ∀ e, (s.updPort p (LinkPort.gathered l)).receiveError p e = s.receiveError p e := fun e => by
    rw [State.receiveError, State.updPort_updPort]
    rfl
  unfold State.closeFrame
  simp only [ho, he]

/-- A body sent as R12 sends it, into a framer in HUNT, ends as the frame received whole. -/
theorem execAll_frame (hb : (s.port p).inBreak = false) (hf : (s.port p).framer = .hunt) (body : List Byte)
    (hl : body.length ≤ 45) :
    execAll ((0xA5#8 :: body.flatMap escapeByte ++ [0xA5#8]).map fun b => .byteReceived p (.byte b)) s
      = exec (.frameReceived p body) s := by
  have hopen : exec (.byteReceived p (.byte 0xA5#8)) s = .next (s.updPort p (LinkPort.gathered [])) := by
    rw [exec_byteReceived hb, State.frameItem_hunt hf]
    rfl
  rw [List.cons_append, List.map_cons, execAll_cons hopen, List.map_append,
    execAll_append (execAll_escaped s p hb body [] hl), List.map_singleton, execAll_cons (s.exec_gathered p hb _ _),
    State.inBody_delimiter, State.updPort_port, exec_frameReceived hb]
  exact congrArg Host.Outcome.next (s.closeFrame_gathered p _ body)

end

/-! ## A composed frame (01 R3, R12) -/

section
variable (kind seq : Byte) (payload : List Byte)

theorem crcBytes_length (l : List Byte) : (crcBytes l).length = 2 := rfl

theorem frameBody_length : (frameBody kind seq payload).length = payload.length + 5 := by
  simp [frameBody, crcBytes_length]

theorem frameBody_len (h : payload.length ≤ 40) : u8At (frameBody kind seq payload) 2 = payload.length := by
  have : payload.length % 256 = payload.length := Nat.mod_eq_of_lt (by omega)
  simpa [frameBody, u8At, byteAt, byteOf] using this

/-- Before its CRC a composed body holds KIND, SEQ, LEN and the payload. -/
theorem frameBody_take : (frameBody kind seq payload).take (payload.length + 3)
    = kind :: seq :: byteOf payload.length :: payload := List.take_left' (by simp)

theorem frameBody_drop : (frameBody kind seq payload).drop (payload.length + 3)
    = crcBytes (kind :: seq :: byteOf payload.length :: payload) := List.drop_left' (by simp)

/-- A composed frame passes the end-of-frame checks (R3). -/
theorem frameBody_sound (h : payload.length ≤ 40) : bodyError (frameBody kind seq payload) = none := by
  have hn : payload.length + 5 - 2 = payload.length + 3 := rfl
  simp only [bodyError, frameBody_length, frameBody_len kind seq payload h, hn, frameBody_take, frameBody_drop]
  rw [if_pos ⟨by omega, h, trivial⟩, if_pos trivial]

theorem frameBody_payload (h : payload.length ≤ 40) : bodyPayload (frameBody kind seq payload) = payload := by
  rw [bodyPayload, frameBody_len kind seq payload h]
  exact List.take_left' rfl

end

/-- Settles O12. -/
theorem sentFrameIsReceivedWhole : Obligations.SentFrameIsReceivedWhole :=
  ⟨fun p body s hb hf _ hl => execAll_frame s p hb hf body hl,
    fun kind seq payload h => ⟨rfl, frameBody_length kind seq payload, frameBody_sound kind seq payload h, rfl, rfl,
      frameBody_payload kind seq payload h⟩⟩

/-! ## The transmitter (01 R12 to R14) -/

theorem repliesAfterPart_eq (rest : List (List Byte)) (rs : List Reply) :
    repliesAfterPart rest rs = if rest = [] then rs else ⟨rest⟩ :: rs := by
  cases rest <;> simp [repliesAfterPart]

section
variable {s : State}

/-- A waiting grant is taken first (R14). -/
theorem exec_transmitter_grant {p : Port} {g : Grant} (hg : (s.port p).grant = some g) :
    exec (.transmitterTakeFrame p) s = .next (s.updPort p (LinkPort.sendGrant g)) := by
  simp [exec, execTransmitterTakeFrame, hg]

/-- Without a grant the motor and pack ports have nothing to send (R14). -/
theorem exec_transmitter_idle {p : Port} (hg : (s.port p).grant = none) (hp : p ≠ .cockpit) :
    exec (.transmitterTakeFrame p) s = .next s := by
  cases p with
  | cockpit => exact absurd rfl hp
  | front | rear | pack => simp [exec, execTransmitterTakeFrame, hg]

/-- Without a grant the cockpit port turns to its replies (R14). -/
theorem exec_transmitter_reply (hg : (s.port .cockpit).grant = none) :
    exec (.transmitterTakeFrame .cockpit) s = .next s.sendPart := by
  simp [exec, execTransmitterTakeFrame, hg]

theorem State.sendPart_nil (hr : s.replies = []) : s.sendPart = s := by
  simp [State.sendPart, hr]

theorem State.sendPart_part {part : List Byte} {rest : List (List Byte)} {rs : List Reply}
    (hr : s.replies = ⟨part :: rest⟩ :: rs) : s.sendPart = { s.updPort .cockpit (LinkPort.send 0x23#8 part) with
      replies := if rest = [] then rs else ⟨rest⟩ :: rs } := by
  simp only [State.sendPart, hr, repliesAfterPart_eq]

end

/-- Settles O13: one clause per branch of the transmitter's choice. -/
theorem transmitterTakesGrantThenReplyPart : Obligations.TransmitterTakesGrantThenReplyPart := by
  intro p s
  refine ⟨fun g hg => exec_transmitter_grant hg, exec_transmitter_idle, ?_, ?_⟩
  · rintro hg rfl hr
    rw [exec_transmitter_reply hg, State.sendPart_nil hr]
  · rintro part rest rs hg rfl hr
    rw [exec_transmitter_reply hg, State.sendPart_part hr]
    rfl

end Sys2Proof.Machine
end

section
/-! PROOFS. Replies and queries (O39): a query changes nothing but what its reply takes. -/

namespace Sys2Proof.Machine

open Sys2Proof

/-! ## The reply FIFO (01 R15) -/

section
variable (s : State) (r : Reply)

theorem State.replyDropped_iff :
    s.replyDropped = true ↔ 4 ≤ s.replies.length ∨ s.ports.cockpit.link = .down := by
  simp only [State.replyDropped, Bool.or_eq_true, decide_eq_true_eq, beq_iff_eq]
  rfl

theorem State.placeReply_taken (hl : s.replies.length < 4) (hd : s.ports.cockpit.link ≠ .down) :
    s.placeReply r = { s with replies := s.replies ++ [r] } := by
  have h : s.replyDropped = false := by
    rw [Bool.eq_false_iff, Ne, State.replyDropped_iff]
    exact not_or.2 ⟨Nat.not_le.2 hl, hd⟩
  simp [State.placeReply, h]

theorem State.placeReply_dropped (h : 4 ≤ s.replies.length ∨ s.ports.cockpit.link = .down) :
    s.placeReply r = { s with ports := s.ports.set .cockpit (s.ports.cockpit.dropReplies 1) } := by
  simp [State.placeReply, s.replyDropped_iff.2 h]

end

/-! ## The arguments of queries (09 R155, 11 R192) -/

theorem Kind.ofCode_code (k : Kind) : Kind.ofCode k.code = some k := by cases k <;> rfl

theorem Kind.ofCode_none {n : Nat} (h : 28 ≤ n) : Kind.ofCode n = none := List.getElem?_eq_none h

theorem Param.ofNumber_number (p : Param) : Param.ofNumber p.number = some p := by cases p <;> rfl

theorem Param.ofNumber_none {n : Nat} (h : 29 ≤ n) : Param.ofNumber n = none := List.getElem?_eq_none h

theorem linkArg_unit {a : Byte} {p : Port} (h : a.toNat = p.unit.code) : linkArg a = some p := by
  rw [linkArg, h]
  cases p <;> rfl

/-- CORE has no link, and no code above it names a unit (R155). -/
theorem linkArg_none {a : Byte} (h : 4 ≤ a.toNat) : linkArg a = none := by
  unfold linkArg
  generalize a.toNat = n at h
  match n, h with
  | 4, _ => rfl
  | _ + 5, _ => rfl

theorem byteOf_toNat (a : Byte) : byteOf a.toNat = a := by simp [byteOf]

/-! ## The records of QUERY_RECORDS (09 R155, 11 R195) -/

theorem mem_slotsFrom {l : List (Option FaultRecord)} {n i : Nat} {r : FaultRecord} :
    (i, r) ∈ slotsFrom l n ↔ n ≤ i ∧ l[i - n]? = some (some r) := by
  induction l generalizing n with
  | nil => simp [slotsFrom]
  | cons o l ih =>
    have tail : (i, r) ∈ slotsFrom l (n + 1) ↔ n < i ∧ (o :: l)[i - n]? = some (some r) := by
      rw [ih, Nat.succ_le_iff]
      refine and_congr_right fun hi => ?_
      rw [show i - n = i - (n + 1) + 1 by omega, List.getElem?_cons_succ]
    have head : n ≤ i ∧ (o :: l)[i - n]? = some (some r)
        ↔ (i = n ∧ o = some r) ∨ n < i ∧ (o :: l)[i - n]? = some (some r) := by
      constructor
      · rintro ⟨hi, h⟩
        rcases Nat.eq_or_lt_of_le hi with rfl | hi
        · exact .inl ⟨rfl, by simpa using h⟩
        · exact .inr ⟨hi, h⟩
      · rintro (⟨rfl, rfl⟩ | ⟨hi, h⟩)
        · exact ⟨Nat.le_refl _, by simp⟩
        · exact ⟨Nat.le_of_lt hi, h⟩
    rw [head, ← tail]
    cases o with
    | none => simp [slotsFrom]
    | some q => simp [slotsFrom, eq_comm]

theorem slotsFrom_pairwise (l : List (Option FaultRecord)) (n : Nat) :
    (slotsFrom l n).Pairwise fun x y => x.1 < y.1 := by
  induction l generalizing n with
  | nil => exact .nil
  | cons o l ih =>
    cases o with
    | none => exact ih (n + 1)
    | some q => exact .cons (fun x hx => (mem_slotsFrom.1 hx).1) (ih (n + 1))

section
variable (t : FaultTable) (start : Nat)

theorem FaultTable.mem_slots_drop {i : Nat} {r : FaultRecord} :
    (i, r) ∈ slotsFrom (t.slots.drop start) start ↔ start ≤ i ∧ t.slot i = some r := by
  rw [mem_slotsFrom]
  refine and_congr_right fun hi => ?_
  rw [List.getElem?_drop, Nat.add_sub_cancel' hi, FaultTable.slot]
  cases t.slots[i]? <;> simp

/-- The records found are the first four: any other at or above the start slot lies behind them. -/
theorem FaultTable.recordsFrom_first {j : Nat} {q : FaultRecord} (hj : start ≤ j) (hq : t.slot j = some q) :
    (j, q) ∈ t.recordsFrom start
      ∨ ((t.recordsFrom start).length = 4 ∧ ∀ i r, (i, r) ∈ t.recordsFrom start → i < j) := by
  have hm := (t.mem_slots_drop start).2 ⟨hj, hq⟩
  have hp := slotsFrom_pairwise (t.slots.drop start) start
  rw [← List.take_append_drop 4 (slotsFrom _ _)] at hm hp
  rcases List.mem_append.1 hm with hm | hm
  · exact .inl hm
  · have hlen := List.length_pos_of_mem hm
    rw [List.length_drop] at hlen
    obtain ⟨-, -, hbefore⟩ := List.pairwise_append.1 hp
    exact .inr ⟨List.length_take_of_le (show 4 ≤ _ by omega), fun i r hi => hbefore _ hi _ hm⟩

theorem recordParts_length (seq : Byte) (head : List Byte) (n i : Nat) (l : List (Nat × FaultRecord)) :
    (recordParts seq head n i l).length = l.length := by
  induction l generalizing i with
  | nil => rfl
  | cons x l ih => rw [recordParts, List.length_cons, ih, List.length_cons]

/-- One part to a record, and one part for none (R195). -/
theorem recordsReply_length (seq : Byte) :
    (recordsReply seq t start).untaken.length = max 1 (t.recordsFrom start).length := by
  unfold recordsReply
  cases t.recordsFrom start with
  | nil => rfl
  | cons x l => simp only [recordParts_length, List.length_cons]; omega

end

theorem nextSlot_end {l : List (Nat × FaultRecord)} (h : l.length < 4) : nextSlot l = 40 := by
  have hn : l[Config.recordsPerReply - 1]? = none := List.getElem?_eq_none (Nat.le_of_lt_succ h)
  simp [nextSlot, hn, Config.slotCount]

theorem nextSlot_after {l : List (Nat × FaultRecord)} {i : Nat} {r : FaultRecord} (h : l[3]? = some (i, r)) :
    nextSlot l = i + 1 := by
  have hn : l[Config.recordsPerReply - 1]? = some (i, r) := h
  simp [nextSlot, hn]

/-! ## The queries -/

section
variable (s : State) (seq a : Byte)

theorem exec_queryRecords : exec (.queryRecords seq a) s = .next (s.answer (.queryRecords seq a)
    (if a.toNat < 40 then recordsReply seq s.table a.toNat else plainReply seq 0x01#8 .badArgument)) := rfl

end

/-- Settles O39: a query is `State.answer`, so only its reply is to be read off; the records are the first four. -/
theorem queriesAreAnsweredAndChangeNothing : Obligations.QueriesAreAnsweredAndChangeNothing := by
  refine ⟨⟨fun s r => ⟨s.placeReply_taken r, s.placeReply_dropped r⟩, fun seq a s => ⟨fun h => ?_, fun h => ?_,
    fun h => ?_, fun p h => ?_, fun h => ?_, fun k h => ?_, fun h => ?_, fun p h => ?_, rfl, rfl,
    fun c => State.took_eq_erase s _⟩⟩, fun t start seq => ⟨?_, fun i r h => ?_, fun j q hj hq => ?_, ?_, ?_, ?_, ?_⟩⟩
  · rw [exec_queryRecords, if_neg (Nat.not_lt.2 h)]
    rfl
  · rw [exec_queryRecords, if_pos h]
    rfl
  · simp only [exec, execQueryLink, linkArg_none h]
    rfl
  · simp only [exec, execQueryLink, linkArg_unit h, State.linkReply, ← h, byteOf_toNat]
    rfl
  · simp only [exec, execQueryRow, Kind.ofCode_none h]
    rfl
  · simp only [exec, execQueryRow, h, Kind.ofCode_code]
    rfl
  · simp only [exec, execQueryParam, Param.ofNumber_none h]
    rfl
  · simp only [exec, execQueryParam, h, Param.ofNumber_number]
    rfl
  · exact List.length_take_le _ _
  · exact (t.mem_slots_drop start).1 (List.mem_of_mem_take h)
  · exact t.recordsFrom_first start hj hq
  · exact (slotsFrom_pairwise _ _).take
  · exact recordsReply_length t start seq
  · exact nextSlot_end
  · exact fun i r => nextSlot_after

end Sys2Proof.Machine
end

section
/-! PROOFS. Accepted reports (O14 to O16): what each stores of its fields, and the verdicts it gives. -/

namespace Sys2Proof.Machine

open Sys2Proof

/-! ## The treatment of one field (02 R19, R20, R23) -/

section
variable {α : Type} (no : Nat) (received stored : α)

theorem heldUnless_value (ok : Bool) :
    (heldUnless no ok received stored).value = if ok = true then received else stored := by
  unfold heldUnless; split <;> rfl

/-- A field out of its range is the lowest refused one, unless one before it is. -/
theorem heldUnless_refuse_or (ok : Bool) (rest : Option Nat) :
    (heldUnless no ok received stored).refuse.or rest = if ok = false then some no else rest := by
  cases ok <;> rfl

theorem heldCode_value (code : Option α) : (heldCode no code stored).value = code.getD stored := by
  cases code <;> rfl

theorem heldCode_refuse_or (code : Option α) (rest : Option Nat) :
    (heldCode no code stored).refuse.or rest = if code = none then some no else rest := by
  cases code <;> rfl

end

theorem treatTemp_value (no raw : Nat) (stored : Int) :
    (treatTemp no raw stored).value = if raw ≤ 240 then (raw : Int) - 40 else stored := by
  simp [treatTemp, heldUnless_value]

theorem treatTemp_refuse_or (no raw : Nat) (stored : Int) (rest : Option Nat) :
    (treatTemp no raw stored).refuse.or rest = if 240 < raw then some no else rest := by
  simp [treatTemp, heldUnless_refuse_or]

theorem currentInRange_iff (i : Int) : currentInRange i = true ↔ -150 ≤ i ∧ i ≤ 250 := by
  simp [currentInRange]

theorem currentInRange_eq_false (i : Int) : currentInRange i = false ↔ ¬ (-150 ≤ i ∧ i ≤ 250) := by
  rw [← Bool.not_eq_true, currentInRange_iff]

/-- The lowest refused field is the first one refused (R23). -/
theorem lowestRefused_cons (o : Option Nat) (fs : List (Option Nat)) :
    lowestRefused (o :: fs) = o.or (lowestRefused fs) := by
  cases o <;> simp [lowestRefused]

theorem lowestRefused_nil : lowestRefused [] = none := rfl

/-! ## The fields received as codes (11 R189) -/

theorem Gate.ofCode_eq (n : Nat) :
    Gate.ofCode n = if n = 0 then some .blocked else if n = 1 then some .switching else none := by
  unfold Gate.ofCode; split <;> simp_all

theorem Contactor.ofCode_eq (n : Nat) : Contactor.ofCode n
    = if n = 0 then some .opened else if n = 1 then some .precharge else if n = 2 then some .closed else none := by
  unfold Contactor.ofCode; split <;> simp_all

theorem Profile.ofCode_eq (n : Nat) : Profile.ofCode n
    = if n = 0 then some .eco else if n = 1 then some .tour else if n = 2 then some .sport else none := by
  unfold Profile.ofCode; split <;> simp_all

theorem Gate.ofCode_eq_none (n : Nat) : Gate.ofCode n = none ↔ 1 < n := by
  rw [Gate.ofCode_eq]; split_ifs <;> simp <;> omega

theorem Contactor.ofCode_eq_none (n : Nat) : Contactor.ofCode n = none ↔ 2 < n := by
  rw [Contactor.ofCode_eq]; split_ifs <;> simp <;> omega

theorem Profile.ofCode_eq_none (n : Nat) : Profile.ofCode n = none ↔ 2 < n := by
  rw [Profile.ofCode_eq]; split_ifs <;> simp <;> omega

/-! ## Claims (02 R24, R25) -/

theorem mem_resolveClaims {u : FaultUnit} {codes : List Nat} {k : Kind} :
    k ∈ resolveClaims u codes ↔ k ∈ claimable u ∧ k.code ∈ codes := by
  simp [resolveClaims]

theorem claimIgnored_iff {u : FaultUnit} {codes : List Nat} :
    claimIgnored u codes = true ↔ ∃ n ∈ codes, ∀ k ∈ claimable u, k.code ≠ n := by
  simp [claimIgnored]

theorem mem_demandClaims {b : Byte} {k : Kind} : k ∈ demandClaims b ↔
    (k = .throttleImplausible ∧ b.getLsbD 0 = true) ∨ (k = .brakeSensorFault ∧ b.getLsbD 1 = true)
      ∨ (k = .controlSwitchStuck ∧ b.getLsbD 2 = true) := by
  simp only [demandClaims, List.mem_append, List.mem_ite_nil_right, List.mem_singleton, or_assoc, and_comm]

/-! ## The three reports (02 R20 to R22, 11 R191) -/

section
variable (u : FaultUnit) (now : Time) (l : List Byte)

theorem MotorRecord.take_value (r : MotorRecord) : (r.take u now l).value =
    { dcCurrent := if -150 ≤ s16At l 0 ∧ s16At l 0 ≤ 250 then s16At l 0 else r.dcCurrent
      phaseCurrent := u8At l 2
      speed := if u16At l 3 ≤ 1200 then u16At l 3 else r.speed
      motorTemp := if u8At l 5 ≤ 240 then (u8At l 5 : Int) - 40 else r.motorTemp
      inverterTemp := if u8At l 6 ≤ 240 then (u8At l 6 : Int) - 40 else r.inverterTemp
      busVoltage := if u16At l 7 ≤ 1000 then u16At l 7 else r.busVoltage
      cDrive := u8At l 9
      cRegen := min (u8At l 10) 150
      gate := if u8At l 11 = 0 then .blocked else if u8At l 11 = 1 then .switching else r.gate
      claims := resolveClaims u (claimCodes l 13 (u8At l 12))
      fresh := true
      arrival := now } := by
  simp [MotorRecord.take, heldUnless_value, treatTemp_value, heldCode_value, currentInRange_iff, Gate.ofCode_eq,
    apply_ite (Option.getD · r.gate)]

theorem MotorRecord.take_refuse (r : MotorRecord) : (r.take u now l).refuse =
    if ¬ (-150 ≤ s16At l 0 ∧ s16At l 0 ≤ 250) then some 1
    else if 1200 < u16At l 3 then some 3
    else if 240 < u8At l 5 then some 4
    else if 240 < u8At l 6 then some 5
    else if 1000 < u16At l 7 then some 6
    else if 1 < u8At l 11 then some 9
    else if ∃ n ∈ claimCodes l 13 (u8At l 12), ∀ k ∈ claimable u, k.code ≠ n then some 10
    else none := by
  simp only [MotorRecord.take, lowestRefused_cons, lowestRefused_nil, heldUnless_refuse_or, treatTemp_refuse_or,
    heldCode_refuse_or, currentInRange_eq_false, decide_eq_false_iff_not, Nat.not_le, Gate.ofCode_eq_none,
    claimIgnored_iff, Option.or_none]

theorem PackRecord.take_value (r : PackRecord) : (r.take now l).value =
    { voltage := if u16At l 0 ≤ 1000 then u16At l 0 else r.voltage
      current := if -150 ≤ s16At l 2 ∧ s16At l 2 ≤ 250 then s16At l 2 else r.current
      iDis := u8At l 4
      iChg := min (u8At l 5) 150
      soc := min (u8At l 6) 100
      minCell := if u16At l 7 ≤ 5000 then u16At l 7 else r.minCell
      maxCellTemp := if u8At l 9 ≤ 240 then (u8At l 9 : Int) - 40 else r.maxCellTemp
      contactor := if u8At l 10 = 0 then .opened else if u8At l 10 = 1 then .precharge
        else if u8At l 10 = 2 then .closed else r.contactor
      claims := resolveClaims .pack (claimCodes l 12 (u8At l 11))
      fresh := true
      arrival := now } := by
  simp [PackRecord.take, heldUnless_value, treatTemp_value, heldCode_value, currentInRange_iff, Contactor.ofCode_eq,
    apply_ite (Option.getD · r.contactor)]

theorem PackRecord.take_refuse (r : PackRecord) : (r.take now l).refuse =
    if 1000 < u16At l 0 then some 1
    else if ¬ (-150 ≤ s16At l 2 ∧ s16At l 2 ≤ 250) then some 2
    else if 5000 < u16At l 7 then some 6
    else if 240 < u8At l 9 then some 7
    else if 2 < u8At l 10 then some 8
    else if ∃ n ∈ claimCodes l 12 (u8At l 11), ∀ k ∈ claimable .pack, k.code ≠ n then some 9
    else none := by
  simp only [PackRecord.take, lowestRefused_cons, lowestRefused_nil, heldUnless_refuse_or, treatTemp_refuse_or,
    heldCode_refuse_or, currentInRange_eq_false, decide_eq_false_iff_not, Nat.not_le, Contactor.ofCode_eq_none,
    claimIgnored_iff, Option.or_none]

theorem CockpitRecord.take_value (r : CockpitRecord) : (r.take now l).value =
    { demand := if u16At l 0 ≤ 1000 then u16At l 0 else 0
      brake := min (u16At l 2) 1000
      profile := if u8At l 4 = 0 then .eco else if u8At l 4 = 1 then .tour
        else if u8At l 4 = 2 then .sport else r.profile
      claims := demandClaims (byteAt l 5)
      fresh := true
      arrival := now } := by
  simp [CockpitRecord.take, heldUnless_value, heldCode_value, Profile.ofCode_eq, apply_ite (Option.getD · r.profile)]

theorem CockpitRecord.take_refuse (r : CockpitRecord) : (r.take now l).refuse =
    if 1000 < u16At l 0 then some 1 else if 2 < u8At l 4 then some 3 else none := by
  simp only [CockpitRecord.take, lowestRefused_cons, lowestRefused_nil, heldUnless_refuse_or, heldCode_refuse_or,
    decide_eq_false_iff_not, Nat.not_le, Profile.ofCode_eq_none]

end

/-! ## What verdicts depend on (05 R66, R70) -/

/-- Two states that the fault table cannot tell apart: what is owed, the table, the working copy and the time. -/
structure State.SameTable (s t : State) : Prop where
  owed    : s.owed = t.owed
  table   : s.table = t.table
  working : s.working = t.working
  now     : s.now = t.now

section
variable {s t : State}

theorem State.SameTable.deliver (h : s.SameTable t) (d : Delivery) : (s.deliver d).SameTable (t.deliver d) where
  owed := by rw [State.deliver_owed_eq, State.deliver_owed_eq, h.owed, h.table, h.working, h.now]
  table := by rw [State.deliver_table_eq, State.deliver_table_eq, h.table, h.working, h.now]
  working := h.working
  now := h.now

theorem State.SameTable.deliverClaim (h : s.SameTable t) (u : FaultUnit) (claims : List Kind) (k : Kind) :
    (State.deliverClaim u claims s k).SameTable (State.deliverClaim u claims t k) := by
  unfold State.deliverClaim
  rw [h.table]
  split
  · exact h.deliver _
  · exact h

theorem State.SameTable.reportVerdicts (h : s.SameTable t) (u : FaultUnit) (f : Option Nat) (claims : List Kind) :
    (s.reportVerdicts u f claims).SameTable (t.reportVerdicts u f claims) := by
  have hd := h.deliver (obsRangeVerdict u f)
  unfold State.reportVerdicts
  generalize s.deliver _ = x at hd
  generalize t.deliver _ = y at hd
  induction claimable u generalizing x y with
  | nil => exact hd
  | cons k ks ih => exact ih _ _ (hd.deliverClaim u claims k)

end

/-- Observations play no part in the verdicts of a report. -/
theorem State.SameTable.withObs {s t : State} (h : s.SameTable t) (o : Observations) :
    State.SameTable { s with obs := o } t := ⟨h.owed, h.table, h.working, h.now⟩

/-! ## A report taken (02 R19, R29) -/

section
variable (s : State) (m : Motor) (l : List Byte)

@[simp] theorem Observations.motor_setMotor (o : Observations) (x : MotorRecord) : (o.setMotor m x).motor m = x := by
  cases m <;> rfl

theorem State.takeMotorReport_obs : (s.takeMotorReport m l).obs
    = s.obs.setMotor m ((s.obs.motor m).take m.unit s.now l).value := by
  simp [State.takeMotorReport]

theorem State.takePackReport_obs :
    (s.takePackReport l).obs = { s.obs with pack := (s.obs.pack.take s.now l).value } := by
  simp [State.takePackReport]

theorem State.takeDemand_obs :
    (s.takeDemand l).obs = { s.obs with cockpit := (s.obs.cockpit.take s.now l).value } := by
  simp [State.takeDemand]

end

section
variable {s t : State} (h : s.SameTable t) (l : List Byte)
include h

theorem State.takeMotorReport_verdicts (m : Motor) {x : Treated MotorRecord}
    (hx : (s.obs.motor m).take m.unit s.now l = x) :
    (s.takeMotorReport m l).table = (t.reportVerdicts m.unit x.refuse x.value.claims).table
      ∧ (s.takeMotorReport m l).owed
        = (t.reportVerdicts m.unit x.refuse x.value.claims).owed ++ [.arrival (motorReporter m) x.value.speed] := by
  subst hx
  exact ⟨((h.withObs _).reportVerdicts _ _ _).table, congrArg (· ++ _) ((h.withObs _).reportVerdicts _ _ _).owed⟩

theorem State.takePackReport_verdicts {x : Treated PackRecord} (hx : s.obs.pack.take s.now l = x) :
    (s.takePackReport l).table = (t.reportVerdicts .pack x.refuse x.value.claims).table
      ∧ (s.takePackReport l).owed = (t.reportVerdicts .pack x.refuse x.value.claims).owed := by
  subst hx
  exact ⟨((h.withObs _).reportVerdicts _ _ _).table, ((h.withObs _).reportVerdicts _ _ _).owed⟩

theorem State.takeDemand_verdicts {x : Treated CockpitRecord} (hx : s.obs.cockpit.take s.now l = x) :
    (s.takeDemand l).table = (t.reportVerdicts .cockpit x.refuse x.value.claims).table
      ∧ (s.takeDemand l).owed
        = (t.reportVerdicts .cockpit x.refuse x.value.claims).owed ++ [.arrival .cockpit x.value.demand] := by
  subst hx
  exact ⟨((h.withObs _).reportVerdicts _ _ _).table, congrArg (· ++ _) ((h.withObs _).reportVerdicts _ _ _).owed⟩

end

/-! ## An accepted report (01 R7) -/

/-- A report handed on touches no port. -/
theorem State.handOn_report_port (s : State) (p q : Port) {k : FrameKind} (hk : k ≠ .command) (seq : Byte)
    (l : List Byte) : (s.handOn p k seq l).port q = s.port q := by
  rw [State.port_eq, State.handOn_ports_eq seq l (.inl hk), ← State.port_eq]

/-- An accepted frame that is no COMMAND is handed on as a report, once the link clean observations are delivered with
the link state notice owed. -/
theorem State.accepts.exec_report {s : State} {p : Port} {k : FrameKind} {body : List Byte} (h : s.accepts p k body)
    (hk : k ≠ .command) : ∃ v : State,
      exec (.frameReceived p body) s = .next (v.handOn p k (bodySeq body) (bodyPayload body))
      ∧ v.obs = s.obs ∧ v.now = s.now
      ∧ v.SameTable ((s.noticing p ((v.handOn p k (bodySeq body) (bodyPayload body)).port p).link).deliverAll
          (linkCleans p.unit)) := by
  obtain ⟨htable, howed⟩ := State.acceptFrame_delivers s p (seqClass (s.port p).seqRef (bodySeq body)) (bodySeq body)
  refine ⟨_, h.exec_eq, by simp, by simp, ?_⟩
  rw [State.handOn_report_port _ _ _ hk, State.acceptFrame_port, State.updPort_port]
  exact ⟨howed, htable, by simp [State.noticing], by simp [State.noticing]⟩

/-- Settles O14: the record is `MotorRecord.take`, and its verdicts fall on the table the clean observations leave. -/
theorem motorReportReplacesRecord : Obligations.MotorReportReplacesRecord := by
  intro m body s h
  obtain ⟨v, hx, hobs, hnow, hv⟩ := h.exec_report (by decide)
  have hon : v.handOn (motorPort m) .motorReport (bodySeq body) (bodyPayload body)
      = v.takeMotorReport m (bodyPayload body) := by cases m <;> rfl
  have hunit : (motorPort m).unit = m.unit := by cases m <;> rfl
  rw [hon, hunit] at hv
  rw [hon] at hx
  obtain ⟨htable, howed⟩ := State.takeMotorReport_verdicts hv (bodyPayload body) m rfl
  have hset := v.takeMotorReport_obs m (bodyPayload body)
  rw [hobs, hnow] at htable howed hset
  refine ⟨_, hx, ?_⟩
  have hrec : (v.takeMotorReport m (bodyPayload body)).obs.motor m
      = ((s.obs.motor m).take m.unit s.now (bodyPayload body)).value := by
    rw [hset, Observations.motor_setMotor]
  rw [← hrec, MotorRecord.take_refuse] at htable howed
  rw [← hrec] at hset
  rw [MotorRecord.take_value] at hrec
  refine ⟨?_, ?_, ?_, ?_, ?_, ?_, ?_, ?_, ?_, fun k => ?_, ?_, ?_, hset, _, htable, howed, rfl⟩
  all_goals rw [hrec]
  exact mem_resolveClaims

/-- Settles O15: the record is `PackRecord.take`; the verdicts are the last that is handed on. -/
theorem packReportReplacesRecord : Obligations.PackReportReplacesRecord := by
  intro body s h
  obtain ⟨v, hx, hobs, hnow, hv⟩ := h.exec_report (by decide)
  obtain ⟨htable, howed⟩ := State.takePackReport_verdicts hv (bodyPayload body) rfl
  have hset := v.takePackReport_obs (bodyPayload body)
  rw [hobs, hnow] at htable howed hset
  refine ⟨v.takePackReport (bodyPayload body), hx, ?_⟩
  have hrec : (v.takePackReport (bodyPayload body)).obs.pack = (s.obs.pack.take s.now (bodyPayload body)).value := by
    rw [hset]
  rw [← hrec, PackRecord.take_refuse] at htable howed
  rw [← hrec] at hset
  rw [PackRecord.take_value] at hrec
  refine ⟨?_, ?_, ?_, ?_, ?_, ?_, ?_, ?_, fun k => ?_, ?_, ?_, hset, _, htable, howed, rfl⟩
  all_goals rw [hrec]
  exact mem_resolveClaims

/-- Settles O16: the record is `CockpitRecord.take`, and its verdicts fall on the table the clean observations leave. -/
theorem demandReplacesCockpitRecord : Obligations.DemandReplacesCockpitRecord := by
  intro body s h
  obtain ⟨v, hx, hobs, hnow, hv⟩ := h.exec_report (by decide)
  obtain ⟨htable, howed⟩ := State.takeDemand_verdicts hv (bodyPayload body) rfl
  have hset := v.takeDemand_obs (bodyPayload body)
  rw [hobs, hnow] at htable howed hset
  refine ⟨v.takeDemand (bodyPayload body), hx, ?_⟩
  have hrec : (v.takeDemand (bodyPayload body)).obs.cockpit
      = (s.obs.cockpit.take s.now (bodyPayload body)).value := by
    rw [hset]
  rw [← hrec, CockpitRecord.take_refuse] at htable howed
  rw [← hrec] at hset
  rw [CockpitRecord.take_value] at hrec
  refine ⟨?_, ?_, ?_, fun k => ?_, ?_, ?_, hset, _, htable, howed, rfl⟩
  all_goals rw [hrec]
  exact mem_demandClaims

end Sys2Proof.Machine
end

section
/-! PROOFS. The time base and the switch filters (O17, O18). -/

namespace Sys2Proof.Machine

open Sys2Proof

/-! ## The switch filters (02 R31, R32) -/

section
variable {f : SwitchFilter} {level : Bool}

theorem SwitchFilter.sample_equal (h : level = f.asserted) : f.sample level = ⟨f.asserted, 0⟩ := if_pos h

theorem SwitchFilter.sample_counts (h : level ≠ f.asserted) (hr : f.run < 4) :
    f.sample level = ⟨f.asserted, f.run + 1⟩ := by
  have hn : ¬ Config.filterSamples ≤ f.run + 1 := by simp only [Config.filterSamples]; omega
  simp [SwitchFilter.sample, h, hn]

theorem SwitchFilter.sample_accepts (h : level ≠ f.asserted) (hr : 4 ≤ f.run) : f.sample level = ⟨level, 0⟩ := by
  have hn : Config.filterSamples ≤ f.run + 1 := Nat.succ_le_succ hr
  simp [SwitchFilter.sample, h, hn]

theorem SwitchFilter.accepts_iff : f.accepts level = true ↔ level ≠ f.asserted ∧ 4 ≤ f.run := by
  simp [SwitchFilter.accepts, Config.filterSamples]

end

/-- A filter delivers the change it accepts, and nothing else (R31, R32). -/
theorem mem_switchEvents {w : Switches} {brake stand wake : Bool} {e : Owed} :
    e ∈ switchEvents w brake stand wake ↔
      (e = .switchChange .brake brake ∧ brake ≠ w.brake.asserted ∧ 4 ≤ w.brake.run)
      ∨ (e = .switchChange .stand stand ∧ stand ≠ w.stand.asserted ∧ 4 ≤ w.stand.run)
      ∨ (e = .wakeChange wake ∧ wake ≠ w.wake.asserted ∧ 4 ≤ w.wake.run) := by
  simp only [switchEvents, List.mem_append, List.mem_ite_nil_right, List.mem_singleton, SwitchFilter.accepts_iff,
    or_assoc, and_comm]

/-! ## The channels (03 R35, R36) -/

section
variable {w : Params} {c : Chan} {x : Channel}

theorem Channel.step_of_not_running (h : x.state ≠ .running) : x.step w c = x := if_neg h

theorem Channel.expires_iff : x.expires c = true ↔ x.state = .running ∧ c.tick ≤ x.phase + 1 ∧ x.count ≤ 1 := by
  simp [Channel.expires, Channel.ticks, and_assoc]

theorem Channel.step_between_ticks (h : x.state = .running) (hp : x.phase + 1 < c.tick) :
    x.step w c = { x with phase := x.phase + 1 } := by
  have hx : ¬ x.expires c = true := by rw [Channel.expires_iff]; omega
  have ht : ¬ x.ticks c = true := by simp only [Channel.ticks, decide_eq_true_eq]; omega
  simp [Channel.step, h, hx, ht]

theorem Channel.step_counts (h : x.state = .running) (hp : c.tick ≤ x.phase + 1) (hn : 2 ≤ x.count) :
    x.step w c = ⟨.running, x.count - 1, 0⟩ := by
  have hx : ¬ x.expires c = true := by rw [Channel.expires_iff]; omega
  have ht : x.ticks c = true := by simpa [Channel.ticks] using hp
  simp [Channel.step, h, hx, ht]

theorem Channel.step_expires (h : x.expires c = true) : x.step w c = Channel.expired w c := by
  simp [Channel.step, h, (Channel.expires_iff.1 h).1]

theorem Channel.expired_oneShot (h : c.mode = .oneShot) : Channel.expired w c = ⟨.stopped, 0, 0⟩ := by
  simp [Channel.expired, h]

theorem Channel.expired_reload (h : c.mode = .reload) : Channel.expired w c = ⟨.running, c.reloadValue w, 0⟩ := by
  simp [Channel.expired, h]

end

theorem Chan.mem_all (c : Chan) : c ∈ Chan.all := by cases c <;> decide

/-- A step delivers one expiry in force for each channel that expires at it (R36). -/
theorem Timers.mem_expiries {t : Timers} {e : Owed} :
    e ∈ t.expiries ↔ ∃ c, (t.get c).expires c = true ∧ .expiry c true = e := by
  simp [Timers.expiries, Chan.mem_all]

/-! ## A step of the time base -/

/-- What a step of the time base owes. -/
def State.stepNews (s : State) (brake stand wake : Bool) : List Owed :=
  s.timers.expiries ++ switchEvents s.switches brake stand wake

theorem exec_timeBaseStep (brake stand wake : Bool) (s : State) :
    exec (.timeBaseStep brake stand wake) s = .next { s with
      now := s.now + 1#32
      timers := s.timers.step s.working.params
      switches :=
        ⟨s.switches.brake.sample brake, s.switches.stand.sample stand, s.switches.wake.sample wake⟩
      memoryBusy := s.memoryBusy - 1
      owed := s.owed ++ s.stepNews brake stand wake } := rfl

section
variable (s : State) (brake stand wake a : Bool)

theorem State.mem_stepNews_brake : Owed.switchChange .brake a ∈ s.stepNews brake stand wake
    ↔ a = brake ∧ a ≠ s.switches.brake.asserted ∧ 4 ≤ s.switches.brake.run := by
  by_cases h : a = brake
  · subst h
    simp [State.stepNews, Timers.mem_expiries, mem_switchEvents]
  · simp [State.stepNews, Timers.mem_expiries, mem_switchEvents, h]

theorem State.mem_stepNews_stand : Owed.switchChange .stand a ∈ s.stepNews brake stand wake
    ↔ a = stand ∧ a ≠ s.switches.stand.asserted ∧ 4 ≤ s.switches.stand.run := by
  by_cases h : a = stand
  · subst h
    simp [State.stepNews, Timers.mem_expiries, mem_switchEvents]
  · simp [State.stepNews, Timers.mem_expiries, mem_switchEvents, h]

theorem State.mem_stepNews_wake : Owed.wakeChange a ∈ s.stepNews brake stand wake
    ↔ a = wake ∧ a ≠ s.switches.wake.asserted ∧ 4 ≤ s.switches.wake.run := by
  by_cases h : a = wake
  · subst h
    simp [State.stepNews, Timers.mem_expiries, mem_switchEvents]
  · simp [State.stepNews, Timers.mem_expiries, mem_switchEvents, h]

theorem State.mem_stepNews_expiry (c : Chan) : Owed.expiry c a ∈ s.stepNews brake stand wake
    ↔ a = true ∧ (s.timers.get c).expires c = true := by
  cases a <;> simp [State.stepNews, Timers.mem_expiries, mem_switchEvents]

end

/-- Settles O17: each filter is `SwitchFilter.sample`, each channel `Channel.step`, each by its cases. -/
theorem timeBaseStepMovesChannelsAndFilters : Obligations.TimeBaseStepMovesChannelsAndFilters := by
  refine ⟨fun brake stand wake s => ⟨_, _, exec_timeBaseStep brake stand wake s, rfl, fun f g level h => ?_, rfl,
      fun a => s.mem_stepNews_brake .., fun a => s.mem_stepNews_stand .., fun a => s.mem_stepNews_wake .., rfl, rfl⟩,
    fun brake stand wake s => ⟨_, _, exec_timeBaseStep brake stand wake s, fun c => ?_, rfl⟩⟩
  · have hg : g = f.sample level := by
      rcases h with ⟨rfl, rfl, rfl⟩ | ⟨rfl, rfl, rfl⟩ | ⟨rfl, rfl, rfl⟩ <;> rfl
    subst hg
    exact ⟨SwitchFilter.sample_equal, SwitchFilter.sample_counts, SwitchFilter.sample_accepts⟩
  · dsimp only
    rw [Timers.step_get]
    refine ⟨Channel.step_of_not_running, Channel.step_between_ticks, Channel.step_counts, fun hr hp hn => ?_,
      fun f => ?_⟩
    · rw [Channel.step_expires (Channel.expires_iff.2 ⟨hr, hp, hn⟩)]
      exact ⟨Channel.expired_oneShot, Channel.expired_reload⟩
    · rw [State.mem_stepNews_expiry, Channel.expires_iff]

/-! ## SWITCH_CHANGE_ACCEPTED -/

section
variable {s : State} {sw : Switch} {level : Bool}

theorem State.owes_switchChange_iff :
    s.owes (· == .switchChange sw level) = true ↔ Owed.switchChange sw level ∈ s.owed := by
  simp [State.owes]

theorem Switches.get_set (w : Switches) (f : SwitchFilter) : (w.set sw f).get sw = f := by cases sw <;> rfl

theorem Switches.get_set_ne (w : Switches) (f : SwitchFilter) {o : Switch} (h : o ≠ sw) :
    (w.set sw f).get o = w.get o := by
  cases sw with
  | brake =>
    cases o with
    | brake => exact absurd rfl h
    | stand => rfl
  | stand =>
    cases o with
    | brake => rfl
    | stand => exact absurd rfl h

theorem Switches.set_wake (w : Switches) (f : SwitchFilter) : (w.set sw f).wake = w.wake := by cases sw <;> rfl

end

/-- Settles O18: one clause per branch of the command. -/
theorem switchChangeIsAccepted : Obligations.SwitchChangeIsAccepted := by
  intro sw level s
  refine ⟨fun ho => ⟨_, ?_, State.took_eq_erase s _⟩, fun ho ha =>
    ⟨{ s with switches := s.switches.set sw ⟨level, 0⟩ }, ?_, Switches.get_set _ _,
    Switches.set_wake _ _, fun o hne => Switches.get_set_ne _ _ hne, rfl⟩, fun ho ha => ?_⟩
  · simp only [exec, execSwitchChangeAccepted, if_pos (State.owes_switchChange_iff.2 ho)]
  · simp only [exec, execSwitchChangeAccepted, if_neg (mt State.owes_switchChange_iff.1 ho), if_neg ha]
  · simp only [exec, execSwitchChangeAccepted, if_neg (mt State.owes_switchChange_iff.1 ho), if_pos ha]

end Sys2Proof.Machine
end

section
/-! PROOFS. The envelope computation keeps within its budgets and ceilings (08 R132 to R148), for O59. -/

namespace Sys2Proof.Machine

open Sys2Proof

/-! ## Ceilings and commands, stage by stage (08 R134 to R144) -/

theorem slew_le (c : Params) (target old : Nat) : slew c target old ≤ target := by
  unfold slew
  split
  · exact Nat.le_refl _
  · exact Nat.min_le_left _ _

/-- The shares of a budget sum to at most the budget (R134). -/
theorem share_add_le {c : Params} (hc : c.frontShare ≤ 100) (a : Drive) (budget : Nat) :
    shareFront c a budget + shareRear c a budget ≤ budget := by
  have hs : budget * c.frontShare / 100 ≤ budget :=
    Nat.div_le_of_le_mul (Nat.mul_comm 100 budget ▸ Nat.mul_le_mul_left budget hc)
  unfold shareFront shareRear
  cases a.isoFront with
  | true => cases a.isoRear <;> simp
  | false =>
    cases a.isoRear with
    | true => simp
    | false => simp; omega

/-- Refitting hands a motor only what the other leaves of its share (R137, R138). -/
theorem fitShares_fits (c : Params) {budget shF shR : Nat} (h : shF + shR ≤ budget) (limF limR oldF oldR : Nat) :
    (fitShares c budget shF shR limF limR oldF oldR).fits := by
  have hF := slew_le c (min limF (min limF shF + (shR - min limR shR))) oldF
  have hR := slew_le c (min limR (min limR shR + (shF - min limF shF))) oldR
  simp only [Split.fits, fitShares]
  omega

theorem fitShares_ceilFront_le (c : Params) (budget shF shR limF limR oldF oldR : Nat) :
    (fitShares c budget shF shR limF limR oldF oldR).ceilFront ≤ limF :=
  (slew_le c _ _).trans (Nat.min_le_left _ _)

theorem fitShares_ceilRear_le (c : Params) (budget shF shR limF limR oldF oldR : Nat) :
    (fitShares c budget shF shR limF limR oldF oldR).ceilRear ≤ limR :=
  (slew_le c _ _).trans (Nat.min_le_left _ _)

/-- An isolated motor has no limit (R136). -/
theorem motorLimit_isolated (fresh : Bool) (cap k : Nat) : motorLimit true fresh cap k = 0 := rfl

/-- A per mille fraction of a ceiling stays within it. -/
theorem permille_le {n : Nat} (hn : n ≤ 1000) (ceiling : Nat) : n * ceiling / 1000 ≤ ceiling :=
  Nat.div_le_of_le_mul (Nat.mul_le_mul_right ceiling hn)

/-- The taper only lowers a command (R143). -/
theorem taper_le (vCeil v cmd : Nat) : taper vCeil v cmd ≤ cmd := by
  unfold taper
  split
  · exact Nat.zero_le _
  · split
    · refine Nat.div_le_of_le_mul ?_
      rw [Nat.mul_comm]
      exact Nat.mul_le_mul_right cmd (by omega)
    · exact Nat.le_refl _

theorem driveCommand_le {d : Nat} (hd : d ≤ 1000) (ceiling vCeil v : Nat) :
    driveCommand d ceiling vCeil v ≤ ceiling :=
  (taper_le _ _ _).trans (permille_le hd ceiling)

theorem driveCommand_zero (ceiling vCeil v : Nat) : driveCommand 0 ceiling vCeil v = 0 :=
  Nat.le_zero.1 ((taper_le _ _ _).trans (by simp))

theorem driveCommand_overspeed {vCeil v : Nat} (h : vCeil ≤ v) (d ceiling : Nat) :
    driveCommand d ceiling vCeil v = 0 := if_pos h

theorem regenCommand_zero (ceiling : Nat) : regenCommand 0 ceiling = 0 := by simp [regenCommand]

/-! ## Budgets and demands (08 R130 to R133, R139, R141, R142) -/

section
variable {c : Params} {o : Observations}

/-- A parameter in its range is at most the range's upper end (04 R56). -/
theorem Params.inRange.le_high (h : c.inRange) (p : Param) : c.get p ≤ p.high := by
  have hp := h p
  simp only [Param.inRange, Bool.and_eq_true, decide_eq_true_eq] at hp
  exact hp.2

theorem profilePct_le (h : c.inRange) (prof : Profile) : profilePct c prof ≤ 100 := by
  cases prof with
  | eco => exact h.le_high .ecoPct
  | tour => exact h.le_high .tourPct
  | sport => exact h.le_high .sportPct

theorem levelPercent_le (h : c.inRange) (prof : Profile) {a : Drive} (ha : a.derate ≤ 100) :
    levelPercent c prof a ≤ 100 := by
  have hp := profilePct_le h prof
  unfold levelPercent
  split
  · exact hp
  · exact Nat.div_le_of_le_mul (Nat.mul_le_mul hp ha)
  · exact (Nat.min_le_left _ _).trans hp
  · exact (Nat.min_le_left _ _).trans hp
  · exact Nat.zero_le _

theorem driveBudget_le (ho : o.Ok) {p : Nat} (hp : p ≤ 100) : driveBudget o p ≤ 255 := by
  refine Nat.div_le_of_le_mul ?_
  rw [Nat.mul_comm 100]
  exact Nat.mul_le_mul ho.pack.limits.1 hp

theorem regenBudget_le (ho : o.Ok) (a : Drive) : regenBudget o a ≤ 150 := by
  unfold regenBudget
  split
  · exact Nat.zero_le _
  · split
    · exact ho.pack.limits.2
    · exact ho.pack.limits.2
    · exact ho.pack.limits.2
    · exact Nat.zero_le _
    · exact Nat.zero_le _

/-- No regeneration at WALK and HALT (R139). -/
theorem regenBudget_walk {a : Drive} (h : Level.walk.rank ≤ a.level.rank) : regenBudget o a = 0 := by
  unfold regenBudget
  cases hl : a.level with
  | full | derate | limp => rw [hl] at h; exact absurd h (by decide)
  | walk | halt => simp

theorem brakeDemand_le (h : c.inRange) (ho : o.Ok) (brake : Bool) : brakeDemand c o brake ≤ 1000 := by
  refine Nat.max_le.2 ⟨?_, ?_⟩
  · unfold CockpitRecord.view
    split
    · exact ho.cockpit.brake
    · exact Nat.zero_le _
  · split
    · exact h.le_high .brakeLineRegen
    · exact Nat.zero_le _

theorem driveDemand_le (ho : o.Ok) (chip : Chip) (brake stand : Bool) (b v : Nat) :
    driveDemand o chip brake stand b v ≤ 1000 := by
  unfold driveDemand
  split
  · exact Nat.zero_le _
  · exact ho.cockpit.demand

/-- A brake demand leaves no drive demand (R142). -/
theorem driveDemand_braking {b : Nat} (hb : 0 < b) (chip : Chip) (brake stand : Bool) (v : Nat) :
    driveDemand o chip brake stand b v = 0 := by
  simp [driveDemand, hb]

end

/-! ## One computation and its grants (08 R129, R137 to R148) -/

/-- A computation from sound inputs keeps what R137 to R145 promise. -/
theorem compute_ok {i : EnvelopeInputs} (hc : i.params.inRange) (ho : i.obs.Ok) (ha : i.applied.derate ≤ 100) :
    (compute i).Ok := by
  have hshare : i.params.frontShare ≤ 100 := hc.le_high .frontShare
  have hb : (compute i).b ≤ 1000 := brakeDemand_le hc ho _
  have hd : (compute i).d ≤ 1000 := driveDemand_le ho _ _ _ _ _
  have hregen : (compute i).regen.fits := fitShares_fits _ (share_add_le hshare _ _) _ _ _ _
  exact {
    drive := fitShares_fits _ (share_add_le hshare _ _) _ _ _ _
    regen := hregen
    limits := ⟨driveBudget_le ho (levelPercent_le hc _ ha), regenBudget_le ho _⟩
    commands := ⟨driveCommand_le hd _ _ _, driveCommand_le hd _ _ _, permille_le hb _, permille_le hb _⟩
    oneOf := by
      rcases Nat.eq_zero_or_pos (compute i).b with h | h
      · have hr (ceiling : Nat) : regenCommand (compute i).b ceiling = 0 := h ▸ regenCommand_zero ceiling
        exact .inr ⟨hr _, hr _⟩
      · have hz : (compute i).d = 0 := driveDemand_braking h _ _ _ _
        have hr (ceiling vc v : Nat) : driveCommand (compute i).d ceiling vc v = 0 :=
          hz ▸ driveCommand_zero ceiling vc v
        exact .inl ⟨hr _ _ _, hr _ _ _⟩
    overspeed := fun h => ⟨driveCommand_overspeed h _ _, driveCommand_overspeed h _ _⟩
    noRegen := fun h => by
      have hz : (compute i).regen.budget = 0 := regenBudget_walk h
      have hf : (compute i).regen.ceilFront + (compute i).regen.ceilRear ≤ (compute i).regen.budget := hregen
      omega
    isoFront := fun h => by
      have hi : i.applied.isoFront = true := h
      refine ⟨Nat.le_zero.1 ((fitShares_ceilFront_le _ _ _ _ _ _ _ _).trans ?_),
        Nat.le_zero.1 ((fitShares_ceilFront_le _ _ _ _ _ _ _ _).trans ?_)⟩ <;> rw [hi, motorLimit_isolated]
    isoRear := fun h => by
      have hi : i.applied.isoRear = true := h
      refine ⟨Nat.le_zero.1 ((fitShares_ceilRear_le _ _ _ _ _ _ _ _).trans ?_),
        Nat.le_zero.1 ((fitShares_ceilRear_le _ _ _ _ _ _ _ _).trans ?_)⟩ <;> rw [hi, motorLimit_isolated] }

/-- A motor's grant carries its commands within its ceilings, one of them 0, and nothing while isolated (R147). -/
theorem LastComputation.Ok.motorGrant {x : LastComputation} (h : x.Ok) (m : Motor) :
    (Grant.motor (x.motorGrant m)).Ok := by
  obtain ⟨hdF, hdR, hrF, hrR⟩ := h.commands
  cases m with
  | front => exact ⟨hdF, hrF, h.oneOf.imp And.left And.left, h.isoFront⟩
  | rear => exact ⟨hdR, hrR, h.oneOf.imp And.right And.right, h.isoRear⟩

/-- The pack's grant expects no more than the budgets (R148). -/
theorem LastComputation.Ok.packGrant {x : LastComputation} (h : x.Ok) (packOpen : Bool) :
    (Grant.pack (x.packGrant packOpen)).Ok :=
  ⟨Nat.le_trans h.drive h.limits.1, Nat.le_trans h.regen h.limits.2⟩

theorem LastComputation.Ok.grantFor {x : LastComputation} (h : x.Ok) (s : State) (p : Port) : (s.grantFor x p).Ok := by
  cases p with
  | front => exact h.motorGrant .front
  | rear => exact h.motorGrant .rear
  | pack => exact h.packGrant _
  | cockpit => trivial

end Sys2Proof.Machine
end

section
/-! PROOFS. Copies keep their parameters in range and their locked rows built-in (04 R51, R56, 10 R179), for O59. -/

namespace Sys2Proof.Machine

open Sys2Proof

/-! ## Parameters and rows read back (04 R53, R57) -/

@[simp] theorem Params.get_ofFun (f : Param → Nat) (p : Param) : (Params.ofFun f).get p = f p := by cases p <;> rfl

@[simp] theorem Rows.get_ofFun (f : Kind → Row) (k : Kind) : (Rows.ofFun f).get k = f k := by cases k <;> rfl

/-- A parameter written is a function of the names changed at one name (R57). -/
theorem Params.set_eq (c : Params) (p : Param) (v : Nat) : c.set p v = Params.ofFun (Function.update c.get p v) := by
  cases p <;> rfl

/-- A row written is a function of the kinds changed at one kind (R53). -/
theorem Rows.set_eq (r : Rows) (k : Kind) (x : Row) : r.set k x = Rows.ofFun (Function.update r.get k x) := by
  cases k <;> rfl

@[simp] theorem Params.get_set (c : Params) (p : Param) (v : Nat) : (c.set p v).get p = v := by simp [Params.set_eq]

theorem Params.get_set_ne (c : Params) {p q : Param} (v : Nat) (h : q ≠ p) : (c.set p v).get q = c.get q := by
  simp [Params.set_eq, h]

theorem Rows.get_set_ne (r : Rows) {k j : Kind} (x : Row) (h : j ≠ k) : (r.set k x).get j = r.get j := by
  simp [Rows.set_eq, h]

theorem Param.mem_all (p : Param) : p ∈ Param.all := by cases p <;> decide

theorem Kind.mem_all (k : Kind) : k ∈ Kind.all := by cases k <;> decide

/-! ## The working copy edited (09 R159, R160) -/

theorem Params.inRange.set {c : Params} (h : c.inRange) {p : Param} {v : Nat} (hv : p.inRange v = true) :
    (c.set p v).inRange := fun q => by
  by_cases hq : q = p
  · subst hq; rwa [Params.get_set]
  · rw [Params.get_set_ne c v hq]; exact h q

/-- A row that is not locked can be written (R51). -/
theorem Rows.lockedBuiltin.set {r : Rows} (h : r.lockedBuiltin) {k : Kind} (hk : k.isLocked ≠ true) (x : Row) :
    (r.set k x).lockedBuiltin := fun j hj => by
  have hne : j ≠ k := fun e => hk (e ▸ hj)
  rw [Rows.get_set_ne r x hne]; exact h j hj

/-! ## Images (10 R179, R183, 04 R62) -/

/-- A row an image holds is the one its six bytes spell, in range (R197). -/
theorem imageRow_eq_some {img : List Byte} {k : Kind} {r : Row} (h : imageRow img k = some r) :
    Row.ofBytes (rowBytesAt img (62 + 6 * k.code)) = some r :=
  (Option.filter_eq_some_iff.1 h).1

/-- An image whose parameters and locked rows pass their tests gives a sound copy. -/
theorem imageCopy_ok {img : List Byte} (hp : imageParamFailure img = none) (hl : imageLockedFailure img = none) :
    (imageCopy img).Ok where
  params p := by
    have := List.find?_eq_none.1 (Option.map_eq_none_iff.1 hp) p p.mem_all
    simpa [imageCopy] using this
  rows k hk := by
    have := List.find?_eq_none.1 (Option.map_eq_none_iff.1 hl) k k.mem_all
    have hrow : imageRow img k = some (Rows.builtin.get k) := by simpa [hk] using this
    simp [imageCopy, imageRow_eq_some hrow]

theorem imageFailure_none {img : List Byte} (h : imageFailure img = none) :
    imageParamFailure img = none ∧ imageLockedFailure img = none := by
  obtain ⟨hr, -⟩ := Option.or_eq_none_iff.1 h
  obtain ⟨hp, hr⟩ := Option.or_eq_none_iff.1 hr
  exact ⟨hp, (Option.or_eq_none_iff.1 hr).2⟩

/-- The copy a load of an image brings, if it brings one, is sound. -/
def ImageOutcome.Ok : ImageOutcome → Prop
  | .valid c => c.Ok
  | .noMemory | .crc | .invalid _ => True

theorem testImage_ok (img : List Byte) : (testImage img).Ok := by
  unfold testImage
  split
  · split
    · split
      · next h => exact imageCopy_ok (imageFailure_none h).1 (imageFailure_none h).2
      · trivial
    · trivial
  · trivial

theorem readImage_ok (buffer : List Byte) (r : Option (List Byte)) : (readImage buffer r).1.Ok := by
  cases r with
  | none => trivial
  | some bytes => exact testImage_ok bytes

/-- What a LOAD puts in use is sound: a sound image, or the built-in copy (R181). -/
theorem ImageOutcome.Ok.copy {i : ImageOutcome} (h : i.Ok) : i.copy.Ok := by
  cases i with
  | valid c => exact h
  | noMemory | crc | invalid => exact Copy.builtin_ok

theorem StoreOp.copyOk_loadLatches {i : ImageOutcome} : (StoreOp.loadLatches i).copyOk ↔ i.Ok := by
  cases i <;> rfl

theorem bufferCopy_ok (img : List Byte) {committed : Copy} (h : committed.Ok) : (bufferCopy img committed).Ok := by
  unfold bufferCopy
  split
  · next hn =>
    obtain ⟨hp, hl⟩ := Option.or_eq_none_iff.1 hn
    exact imageCopy_ok hp hl
  · exact h

end Sys2Proof.Machine
end

section
/-! PROOFS. Invariant of the observations, the copies and the envelope (O59): every step keeps `State.EnvelopeOk`. -/

namespace Sys2Proof.Machine

open Sys2Proof

/-! ## The observations (02 R20 to R22, R26) -/

theorem u8At_le (l : List Byte) (i : Nat) : u8At l i ≤ 255 := Nat.le_of_lt_succ (byteAt l i).isLt

/-- A field taken only when it lies in its range, and held otherwise, stays in it. -/
theorem ite_within {α : Type} {P : α → Prop} {b : Prop} [Decidable b] {x y : α} (hx : b → P x) (hy : P y) :
    P (if b then x else y) := by
  split
  · next h => exact hx h
  · exact hy

/-- A raw temperature taken is -40 to 200 (R20, R21). -/
theorem temp_within {raw : Nat} {old : Int} (h : -40 ≤ old ∧ old ≤ 200) :
    -40 ≤ (if raw ≤ 240 then (raw : Int) - 40 else old) ∧ (if raw ≤ 240 then (raw : Int) - 40 else old) ≤ 200 :=
  ite_within (P := fun i : Int => -40 ≤ i ∧ i ≤ 200) (fun _ => by omega) h

theorem MotorRecord.Ok.take {r : MotorRecord} (h : r.Ok) (u : FaultUnit) (now : Time) (l : List Byte) :
    (r.take u now l).value.Ok := by
  rw [MotorRecord.take_value]
  obtain ⟨hmLow, hmHigh, hiLow, hiHigh⟩ := h.temps
  obtain ⟨hm, hm'⟩ := temp_within (raw := u8At l 5) ⟨hmLow, hmHigh⟩
  obtain ⟨hi, hi'⟩ := temp_within (raw := u8At l 6) ⟨hiLow, hiHigh⟩
  exact {
    current := ite_within (P := fun i : Int => -150 ≤ i ∧ i ≤ 250) id h.current
    speed := ite_within (P := (· ≤ 1200)) id h.speed
    temps := ⟨hm, hm', hi, hi'⟩
    voltage := ite_within (P := (· ≤ 1000)) id h.voltage
    capacity := ⟨u8At_le _ _, Nat.min_le_right _ _⟩ }

theorem PackRecord.Ok.take {r : PackRecord} (h : r.Ok) (now : Time) (l : List Byte) : (r.take now l).value.Ok := by
  rw [PackRecord.take_value]
  exact {
    voltage := ite_within (P := (· ≤ 1000)) id h.voltage
    current := ite_within (P := fun i : Int => -150 ≤ i ∧ i ≤ 250) id h.current
    limits := ⟨u8At_le _ _, Nat.min_le_right _ _⟩
    soc := Nat.min_le_right _ _
    cell := ite_within (P := (· ≤ 5000)) id h.cell
    temp := temp_within h.temp }

/-- A cockpit record holds what a DEMAND carries, whatever it held before. -/
theorem CockpitRecord.take_ok (r : CockpitRecord) (now : Time) (l : List Byte) : (r.take now l).value.Ok := by
  rw [CockpitRecord.take_value]
  exact ⟨ite_within (P := (· ≤ 1000)) id (Nat.zero_le _), Nat.min_le_right _ _⟩

theorem Observations.Ok.motor {o : Observations} (h : o.Ok) (m : Motor) : (o.motor m).Ok := by
  cases m with
  | front => exact h.front
  | rear => exact h.rear

theorem Observations.Ok.setMotor {o : Observations} (h : o.Ok) {m : Motor} {x : MotorRecord} (hx : x.Ok) :
    (o.setMotor m x).Ok := by
  cases m with
  | front => exact { h with front := hx }
  | rear => exact { h with rear := hx }

/-- A stale record keeps its values (R26). -/
theorem Observations.Ok.stale {o : Observations} (h : o.Ok) (p : Port) : (o.stale p).Ok := by
  cases p with
  | front => exact { h with front := { h.front with } }
  | rear => exact { h with rear := { h.rear with } }
  | pack => exact { h with pack := { h.pack with } }
  | cockpit => exact { h with cockpit := { h.cockpit with } }

/-! ## The derate percents of target and applied state (07 R114, R117, R118) -/

/-- The derate percents of the target and of the applied state are percents. -/
def Control.DeratesOk (c : Control) : Prop := c.applied.derate ≤ 100 ∧ c.target.derate ≤ 100

/-- A fold whose every step lowers its value ends no higher than it begins. -/
theorem foldl_le {α : Type} {f : Nat → α → Nat} (hf : ∀ n x, f n x ≤ n) (l : List α) (n : Nat) :
    l.foldl f n ≤ n := by
  induction l generalizing n with
  | nil => exact Nat.le_refl n
  | cons x l ih => exact (ih _).trans (hf n x)

theorem derateOf_le (c : Copy) (rs : List FaultRecord) : derateOf c rs ≤ 100 :=
  foldl_le (fun n _ => ite_within (P := (· ≤ n)) (fun _ => Nat.min_le_left n _) (Nat.le_refl n)) rs 100

/-- Every chip state takes the derate percent of the contained records (R113 to R115). -/
theorem targetFor_derate (chip : Chip) (c : Copy) (t : FaultTable) (os : List Override) :
    (targetFor chip c t os).derate = derateOf c t.contained := by
  cases chip with
  | loading | standby | shutdown | drive => rfl
  | service => cases os <;> rfl

section
variable (s : State)

/-- A recomputation takes both percents from the records anew. -/
theorem State.recomputeCore_derates : s.recomputeCore.control.DeratesOk := by
  have h := State.recomputeCore_spec s
  have ht : s.recomputeCore.control.target.derate ≤ 100 := by
    rw [h.target, targetFor_derate]
    exact derateOf_le _ _
  exact ⟨h.covers.derate.trans ht, ht⟩

theorem State.apply_target (a : Drive) : (s.apply a).control.target = s.control.target := by
  obtain ⟨-, -, -, -, h⟩ := State.rampFor_spec { s with control := { s.control with applied := a } }
    s.control.applied.level a.level
  simp only [State.apply, State.owe, State.setLines, Control.setLines]
  rw [h]

theorem State.recompute_derates : s.recompute.control.DeratesOk := by
  unfold State.recompute State.testDrive
  split
  · exact State.recomputeCore_derates _
  · exact s.recomputeCore_derates

theorem State.enterStandby_derates : s.enterStandby.control.DeratesOk := State.recompute_derates _

theorem State.gatherFinished_derates : s.gatherFinished.control.DeratesOk := by
  unfold State.gatherFinished State.testDrive
  dsimp only
  split
  · exact State.recomputeCore_derates _
  · exact s.recomputeCore_derates

theorem State.endLoading_derates : s.endLoading.control.DeratesOk := by
  unfold State.endLoading
  dsimp only
  split
  · exact State.enterStandby_derates _
  · simp only [State.start_control]
    exact State.recomputeCore_derates _

variable {s} (h : s.control.DeratesOk)
include h

theorem State.testDrive_derates : s.testDrive.control.DeratesOk := by
  unfold State.testDrive
  split
  · exact State.recomputeCore_derates _
  · exact h

theorem State.noticeOf_derates (u : Reporter) : (s.noticeOf u).control.DeratesOk := by
  have motor : s.motorNotice.control.DeratesOk := by
    unfold State.motorNotice
    split <;> exact h
  cases u with
  | front | rear => exact motor
  | cockpit =>
    simp only [State.noticeOf, State.cockpitNotice]
    split
    · refine ⟨?_, ?_⟩
      · rw [State.apply_applied]; exact h.2
      · rw [State.apply_target]; exact h.2
    · exact h

theorem State.haltRampEnds_derates : s.haltRampEnds.control.DeratesOk := by
  unfold State.haltRampEnds
  split <;> exact h

theorem State.gatherExpires_derates : s.gatherExpires.control.DeratesOk := by
  unfold State.gatherExpires
  split
  · split
    · exact s.gatherFinished_derates
    · simpa using h
  · exact h

theorem State.freeSlot_derates (i : Nat) : (s.freeSlot i).control.DeratesOk := by
  unfold State.freeSlot
  dsimp only
  split
  · exact State.recompute_derates _
  · exact h

end

/-! ## The invariant and the parts of the state it speaks of -/

section
variable {s t : State}

/-- What leaves the observations, the copies, the envelope and the ports alone keeps the invariant, if it leaves
percents and no unsound copy. -/
theorem State.EnvelopeOk.of_parts (h : s.EnvelopeOk) (hd : t.control.DeratesOk) (hop : t.store.op.copyOk)
    (ho : t.obs = s.obs := by simp) (hw : t.working = s.working := by simp)
    (hc : t.committed = s.committed := by simp) (he : t.envelope = s.envelope := by simp)
    (hp : t.ports = s.ports := by simp) : t.EnvelopeOk where
  obs := ho ▸ h.obs
  copies := ⟨hw ▸ h.copies.working, hc ▸ h.copies.committed, hop⟩
  derate := hd
  last := he ▸ h.last
  slew := he ▸ h.slew
  grants p g hg := h.grants p g (by rwa [State.port_eq, hp] at hg)

/-- What moves, of all the invariant speaks of, the containment controller alone. -/
theorem State.EnvelopeOk.of_control (h : s.EnvelopeOk) (hd : t.control.DeratesOk)
    (hs : t.store.op = s.store.op := by simp)
    (ho : t.obs = s.obs := by simp) (hw : t.working = s.working := by simp)
    (hc : t.committed = s.committed := by simp) (he : t.envelope = s.envelope := by simp)
    (hp : t.ports = s.ports := by simp) : t.EnvelopeOk :=
  h.of_parts hd (hs ▸ h.copies.loading) ho hw hc he hp

/-- What the frame laws show to leave everything the invariant speaks of alone. -/
theorem State.EnvelopeOk.of_eq (h : s.EnvelopeOk) (hx : t.control = s.control := by simp)
    (hs : t.store.op = s.store.op := by simp)
    (ho : t.obs = s.obs := by simp) (hw : t.working = s.working := by simp)
    (hc : t.committed = s.committed := by simp) (he : t.envelope = s.envelope := by simp)
    (hp : t.ports = s.ports := by simp) : t.EnvelopeOk :=
  h.of_control (hx ▸ h.derate) hs ho hw hc he hp

/-- A new step of the store controller, with no unsound copy in it. -/
theorem State.EnvelopeOk.of_op (h : s.EnvelopeOk) (hop : t.store.op.copyOk) (hx : t.control = s.control := by simp)
    (ho : t.obs = s.obs := by simp) (hw : t.working = s.working := by simp)
    (hc : t.committed = s.committed := by simp) (he : t.envelope = s.envelope := by simp)
    (hp : t.ports = s.ports := by simp) : t.EnvelopeOk :=
  h.of_parts (hx ▸ h.derate) hop ho hw hc he hp

theorem State.EnvelopeOk.withObs (h : s.EnvelopeOk) {o : Observations} (ho : o.Ok) :
    State.EnvelopeOk { s with obs := o } :=
  { h with obs := ho, copies := { h.copies with } }

/-- Ports may lose grants, not gain any. -/
theorem State.EnvelopeOk.withPorts (h : s.EnvelopeOk) {x : Ports}
    (hx : ∀ p g, (x.get p).grant = some g → (s.port p).grant = some g) : State.EnvelopeOk { s with ports := x } :=
  { h with copies := { h.copies with }, grants := fun p g hg => h.grants p g (hx p g hg) }

theorem State.EnvelopeOk.updPort (h : s.EnvelopeOk) (p : Port) {f : LinkPort → LinkPort}
    (hf : ∀ g, (f (s.port p)).grant = some g → (s.port p).grant = some g) : (s.updPort p f).EnvelopeOk := by
  refine h.withPorts fun q g hg => ?_
  by_cases hq : q = p
  · subst hq
    exact hf g (by rwa [Ports.get_set] at hg)
  · rwa [Ports.get_set_ne _ _ _ _ hq] at hg

theorem State.EnvelopeOk.deliver (h : s.EnvelopeOk) (d : Delivery) : (s.deliver d).EnvelopeOk := h.of_eq

theorem State.EnvelopeOk.took (h : s.EnvelopeOk) (f : Owed → Bool) : (s.took f).EnvelopeOk := h.of_eq

theorem State.EnvelopeOk.owe (h : s.EnvelopeOk) (es : List Owed) : (s.owe es).EnvelopeOk := h.of_eq

theorem State.EnvelopeOk.next (e : Host.Outcome.next (φ := Fault) (ρ := Refusal) s = .next t) (h : s.EnvelopeOk) :
    t.EnvelopeOk := by
  cases e; exact h

theorem State.EnvelopeOk.ite {b : Prop} [Decidable b] (hs : s.EnvelopeOk) (ht : t.EnvelopeOk) :
    (if b then s else t).EnvelopeOk := ite_within (fun _ => hs) ht

/-- Every expiry command takes its expiry and, in force, has one effect. -/
theorem State.EnvelopeOk.expiry (h : s.EnvelopeOk) (c : Chan) {b : Prop} [Decidable b] {f : State → State}
    (hf : ∀ u : State, u.EnvelopeOk → (f u).EnvelopeOk) :
    (if b then f (s.afterExpiry c) else s.afterExpiry c).EnvelopeOk :=
  State.EnvelopeOk.ite (hf _ h.of_eq) h.of_eq

/-! ## The ports: grants are placed by computations alone (01 R10, R13, 08 R146) -/

theorem State.EnvelopeOk.receiveError (h : s.EnvelopeOk) (p : Port) (e : RxError) : (s.receiveError p e).EnvelopeOk :=
  (h.updPort p fun _ hg => hg).deliver _

theorem State.EnvelopeOk.acceptFrame (h : s.EnvelopeOk) (p : Port) (c : SeqClass) (seq : Byte) :
    (s.acceptFrame p c seq).EnvelopeOk := by
  have hp : (s.updPort p (LinkPort.accepted c seq)).EnvelopeOk := h.updPort p fun _ hg => hg
  exact hp.of_eq (hp := by simp [State.acceptFrame])

theorem State.EnvelopeOk.takeMotorReport (h : s.EnvelopeOk) (m : Motor) (l : List Byte) :
    (s.takeMotorReport m l).EnvelopeOk := by
  have ho : (s.takeMotorReport m l).obs.Ok := by
    rw [State.takeMotorReport_obs]
    exact h.obs.setMotor ((h.obs.motor m).take _ _ _)
  exact (h.withObs ho).of_eq

theorem State.EnvelopeOk.takePackReport (h : s.EnvelopeOk) (l : List Byte) : (s.takePackReport l).EnvelopeOk := by
  have ho : (s.takePackReport l).obs.Ok := by
    rw [State.takePackReport_obs]
    exact { h.obs with pack := h.obs.pack.take _ _ }
  exact (h.withObs ho).of_eq

theorem State.EnvelopeOk.takeDemand (h : s.EnvelopeOk) (l : List Byte) : (s.takeDemand l).EnvelopeOk := by
  have ho : (s.takeDemand l).obs.Ok := by
    rw [State.takeDemand_obs]
    exact { h.obs with cockpit := CockpitRecord.take_ok _ _ _ }
  exact (h.withObs ho).of_eq

theorem State.EnvelopeOk.handOn (h : s.EnvelopeOk) (p : Port) (k : FrameKind) (seq : Byte) (l : List Byte) :
    (s.handOn p k seq l).EnvelopeOk := by
  cases k with
  | motorReport =>
    cases p with
    | front => exact h.takeMotorReport .front l
    | rear => exact h.takeMotorReport .rear l
    | pack | cockpit => exact h
  | packReport => exact h.takePackReport l
  | demand => exact h.takeDemand l
  | command => exact State.EnvelopeOk.ite (h.updPort .cockpit fun _ hg => hg) (h.owe _)

theorem State.EnvelopeOk.checkFrame (h : s.EnvelopeOk) (p : Port) (body : List Byte) :
    (s.checkFrame p body).EnvelopeOk := by
  unfold State.checkFrame
  split
  · exact h.updPort p fun _ hg => hg
  · exact State.EnvelopeOk.ite (h.updPort p fun _ hg => hg)
      (State.EnvelopeOk.ite ((h.updPort p fun _ hg => hg).deliver _) ((h.acceptFrame p _ _).handOn _ _ _ _))

theorem State.EnvelopeOk.closeFrame (h : s.EnvelopeOk) (p : Port) (body : List Byte) :
    (s.closeFrame p body).EnvelopeOk := by
  have ho : (s.updPort p LinkPort.opened).EnvelopeOk := h.updPort p fun _ hg => hg
  unfold State.closeFrame
  split
  · exact ho
  · split
    · exact h.receiveError p _
    · exact ho.checkFrame p _

theorem State.EnvelopeOk.appendByte (h : s.EnvelopeOk) (p : Port) (b : Byte) : (s.appendByte p b).EnvelopeOk :=
  State.EnvelopeOk.ite (h.receiveError p _) (h.updPort p fun _ hg => hg)

theorem State.EnvelopeOk.frameItem (h : s.EnvelopeOk) (p : Port) (i : RxItem) : (s.frameItem p i).EnvelopeOk := by
  have ho : (s.updPort p LinkPort.opened).EnvelopeOk := h.updPort p fun _ hg => hg
  have he := h.receiveError p
  cases hf : (s.port p).framer with
  | hunt =>
    rw [State.frameItem_hunt hf]
    exact State.EnvelopeOk.ite ho h
  | body =>
    rw [State.frameItem_body hf]
    cases i with
    | framingError => exact he _
    | byte b =>
      exact State.EnvelopeOk.ite (h.closeFrame p _)
        (State.EnvelopeOk.ite (h.updPort p fun _ hg => hg) (h.appendByte p b))
  | escaped =>
    rw [State.frameItem_escaped hf]
    cases i with
    | framingError => exact he _
    | byte b =>
      exact State.EnvelopeOk.ite ho (State.EnvelopeOk.ite (h.appendByte p _)
        (State.EnvelopeOk.ite (h.appendByte p _) (he _)))

theorem State.EnvelopeOk.emptyReplies (h : s.EnvelopeOk) (p : Port) : (s.emptyReplies p).EnvelopeOk := by
  cases p with
  | front | rear | pack => exact h
  | cockpit =>
    have hd : (s.updPort .cockpit (LinkPort.dropReplies s.replies.length)).EnvelopeOk :=
      h.updPort .cockpit fun _ hg => hg
    exact hd.of_eq (hp := rfl)

/-- A break empties the grant slot (R10, step 7). -/
theorem State.EnvelopeOk.breakLink (h : s.EnvelopeOk) (p : Port) : (s.breakLink p).EnvelopeOk := by
  have hb : (s.updPort p LinkPort.broken).EnvelopeOk := h.updPort p fun _ hg => nomatch hg
  have ha : ((s.updPort p LinkPort.broken).arm p.channel).EnvelopeOk := hb.of_eq
  have he := ha.emptyReplies p
  exact (he.withObs (he.obs.stale p)).of_eq (ho := by simp [State.breakLink_obs]) (hp := s.breakLink_ports p)

theorem State.EnvelopeOk.silence (h : s.EnvelopeOk) (p : Port) : (s.silence p).EnvelopeOk := by
  cases hl : (s.port p).link.heard with
  | true =>
    have hx : (s.updPort p LinkPort.silenced).EnvelopeOk := h.updPort p fun _ hg => hg
    rw [State.silence_heard hl]
    exact (hx.withObs (h.obs.stale p)).of_eq
  | false => rwa [State.silence_unheard hl]

theorem State.EnvelopeOk.sendPart (h : s.EnvelopeOk) : s.sendPart.EnvelopeOk := by
  unfold State.sendPart
  split
  · exact h
  · exact h.of_eq
  · next part rest rs _ =>
    have hs : (s.updPort .cockpit (LinkPort.send 0x23#8 part)).EnvelopeOk := h.updPort .cockpit fun _ hg => hg
    exact hs.of_eq (hp := rfl)

theorem State.EnvelopeOk.transmitterTakeFrame (h : s.EnvelopeOk) (p : Port)
    (e : execTransmitterTakeFrame p s = .next t) : t.EnvelopeOk := by
  refine State.EnvelopeOk.next e ?_
  split
  · exact h.updPort p fun _ hg => nomatch hg
  · split
    · exact h.sendPart
    · exact h
    · exact h
    · exact h

theorem State.EnvelopeOk.placeReply (h : s.EnvelopeOk) (r : Reply) : (s.placeReply r).EnvelopeOk := by
  have hd : (s.updPort .cockpit (LinkPort.dropReplies 1)).EnvelopeOk := h.updPort .cockpit fun _ hg => hg
  unfold State.placeReply
  cases s.replyDropped with
  | true => exact hd.of_eq (hp := rfl)
  | false => exact h.of_eq

/-- A grant placed waits, or the slot stays as it was (01 R13). -/
theorem LinkPort.placeGrant_grant {x : LinkPort} {g g' : Grant} (h : (x.placeGrant g).grant = some g') :
    g' = g ∨ x.grant = some g' := by
  unfold LinkPort.placeGrant at h
  split at h
  · exact .inr h
  · exact .inl (Option.some.inj h).symm

/-- A computation from sound inputs leaves a sound record, its slew state and sound grants (08 R129, R146). -/
theorem State.EnvelopeOk.envelopeEvent (h : s.EnvelopeOk) : s.envelopeEvent.EnvelopeOk := by
  have hx : (compute s.envelopeInputs).Ok := compute_ok h.copies.working.params h.obs h.derate.1
  refine State.EnvelopeOk.ite h ?_
  exact {
    obs := h.obs
    copies := { h.copies with }
    derate := h.derate
    last := hx
    slew := ⟨rfl, rfl, rfl, rfl⟩
    grants := fun p g hg => by
      rw [State.port_eq, State.placeGrants_get] at hg
      rcases LinkPort.placeGrant_grant hg with rfl | hg
      · exact hx.grantFor s p
      · exact h.grants p g hg }

/-! ## The copies (04 R53, R58, R59, 10 R181 to R184) -/

theorem State.EnvelopeOk.withCommitted (h : s.EnvelopeOk) {c : Copy} (hc : c.Ok) (b : Bool) :
    State.EnvelopeOk { s with committed := c, unsaved := b } :=
  { h with copies := { h.copies with committed := hc } }

theorem State.EnvelopeOk.withWorking (h : s.EnvelopeOk) {c : Copy} (hc : c.Ok) :
    State.EnvelopeOk { s with working := c } :=
  { h with copies := { h.copies with working := hc } }

@[simp] theorem State.changeCopy_working (s : State) (c : Copy) : (s.changeCopy c).working = c := by
  simp [State.changeCopy]

theorem State.changeCopy_derates (s : State) (c : Copy) : (s.changeCopy c).control.DeratesOk :=
  State.recompute_derates _

theorem State.EnvelopeOk.changeCopy (h : s.EnvelopeOk) {c : Copy} (hc : c.Ok) : (s.changeCopy c).EnvelopeOk :=
  (h.withWorking hc).of_control (s.changeCopy_derates c)

theorem State.EnvelopeOk.replaceCopies (h : s.EnvelopeOk) {c : Copy} (hc : c.Ok) : (s.replaceCopies c).EnvelopeOk :=
  (h.withCommitted hc false).changeCopy hc

/-- A forced leave replaces a working copy that fails by the committed one, which is sound (04 R58). -/
theorem State.EnvelopeOk.revertIfInvalid (h : s.EnvelopeOk) (f : Option Failure) :
    (s.revertIfInvalid f).EnvelopeOk := by
  cases f with
  | none => exact h
  | some x =>
    have hs : State.EnvelopeOk { s with unsaved := false, store := { s.store with replaced := true } } :=
      h.of_eq
    exact hs.changeCopy h.copies.committed

theorem State.EnvelopeOk.forcedLeave (h : s.EnvelopeOk) (f : Option Failure) : (s.forcedLeave f).EnvelopeOk := by
  have hl : ((s.emptyOverrides.stop .serviceIdle).abandonSweep).EnvelopeOk := h.of_control h.derate
  exact hl.revertIfInvalid f

theorem State.EnvelopeOk.leaveToStandby (h : s.EnvelopeOk) : s.leaveToStandby.EnvelopeOk :=
  h.of_control (State.enterStandby_derates _)

theorem State.EnvelopeOk.idleLeave (h : s.EnvelopeOk) : s.idleLeave.EnvelopeOk := by
  have hs : s.abandonSweep.EnvelopeOk := h.of_eq
  exact (hs.revertIfInvalid _).leaveToStandby

theorem State.EnvelopeOk.shutDown (h : s.EnvelopeOk) : s.shutDown.EnvelopeOk :=
  h.of_control (State.recompute_derates _)

theorem State.EnvelopeOk.acceptWake (h : s.EnvelopeOk) (on : Bool) : (s.acceptWake on).EnvelopeOk := by
  refine h.of_control ?_
  unfold State.acceptWake
  split <;> exact h.derate

theorem State.EnvelopeOk.wakeFell (h : s.EnvelopeOk) : s.wakeFell.EnvelopeOk := by
  unfold State.wakeFell
  split
  · have hg : (s.stop .gather).EnvelopeOk := h.of_eq
    exact hg.shutDown
  · exact h.shutDown
  · exact (h.forcedLeave _).shutDown
  · exact h
  · exact h

/-! ## The store controller (10): only a LOAD holds a copy between two of its steps -/

theorem State.EnvelopeOk.setOp (h : s.EnvelopeOk) {op : StoreOp} (hop : op.copyOk) : (s.setOp op).EnvelopeOk :=
  h.of_op hop

theorem State.EnvelopeOk.updStore (h : s.EnvelopeOk) {f : Store → Store} (hf : (f s.store).op = s.store.op) :
    (s.updStore f).EnvelopeOk := h.of_eq (hs := hf)

theorem State.EnvelopeOk.beginPending (h : s.EnvelopeOk) : s.beginPending.EnvelopeOk := by
  unfold State.beginPending
  refine State.EnvelopeOk.ite (State.EnvelopeOk.ite ?_ (State.EnvelopeOk.ite ?_ (State.EnvelopeOk.ite ?_ h))) h
  · exact (h.updStore rfl).setOp trivial
  · exact (h.updStore rfl).setOp trivial
  · exact (h.updStore rfl).setOp trivial

theorem State.EnvelopeOk.endOperation (h : s.EnvelopeOk) : s.endOperation.EnvelopeOk :=
  (h.setOp (op := .none) trivial).beginPending

theorem State.EnvelopeOk.endReported (h : s.EnvelopeOk) (d : Delivery) (x : StoreEnd) :
    (s.endReported d x).EnvelopeOk := ((h.deliver d).owe _).endOperation

theorem State.EnvelopeOk.completeWrite (h : s.EnvelopeOk) : s.completeWrite.EnvelopeOk := by
  unfold State.completeWrite
  split
  · exact h.of_eq (hs := rfl)
  · exact h
  · exact h

theorem State.EnvelopeOk.storeWaited (h : s.EnvelopeOk) : s.storeWaited.EnvelopeOk := by
  have hm : s.memoryReady.EnvelopeOk := h.of_eq
  unfold State.storeWaited
  split
  · exact hm.setOp (ite_within (fun _ => trivial) trivial)
  · exact (hm.deliver _).endOperation
  all_goals exact h

theorem State.EnvelopeOk.loadResults (h : s.EnvelopeOk) {i : ImageOutcome} (hi : i.Ok) (l : LatchOutcome) :
    (s.loadResults i l).EnvelopeOk := by
  have hc := h.replaceCopies hi.copy
  refine State.EnvelopeOk.endOperation (State.EnvelopeOk.owe ?_ _)
  exact hc.of_eq

theorem State.EnvelopeOk.loadImageReadDone (h : s.EnvelopeOk) (r : BusRead) (e : execLoadImageReadDone r s = .next t) :
    t.EnvelopeOk :=
  State.EnvelopeOk.next e (State.EnvelopeOk.ite
    (State.EnvelopeOk.ite ((h.updStore rfl).loadResults (i := .noMemory) trivial _)
      ((h.updStore rfl).setOp (StoreOp.copyOk_loadLatches.2 (readImage_ok _ _)))) h)

theorem State.EnvelopeOk.loadLatchListReadDone (h : s.EnvelopeOk) (r : BusRead)
    (e : execLoadLatchListReadDone r s = .next t) : t.EnvelopeOk := by
  refine State.EnvelopeOk.next e ?_
  split
  · next i hi =>
    have hl := h.copies.loading
    rw [hi] at hl
    exact (h.updStore rfl).loadResults (StoreOp.copyOk_loadLatches.1 hl) _
  all_goals exact h

theorem State.EnvelopeOk.savePageWriteDone (h : s.EnvelopeOk) (a : Bool) (e : execSavePageWriteDone a s = .next t) :
    t.EnvelopeOk := by
  refine State.EnvelopeOk.next e ?_
  split
  · exact State.EnvelopeOk.ite (h.completeWrite.setOp trivial) (h.endReported _ _)
  all_goals exact h

theorem State.EnvelopeOk.latchPageWriteDone (h : s.EnvelopeOk) (a : Bool) (e : execLatchPageWriteDone a s = .next t) :
    t.EnvelopeOk :=
  State.EnvelopeOk.next e (State.EnvelopeOk.ite
    (State.EnvelopeOk.ite (h.completeWrite.setOp trivial) (h.deliver _).endOperation) h)

theorem State.EnvelopeOk.saveReadbackDone (h : s.EnvelopeOk) (r : BusRead) (e : execSaveReadbackDone r s = .next t) :
    t.EnvelopeOk :=
  State.EnvelopeOk.next e (State.EnvelopeOk.ite (State.EnvelopeOk.ite
    ((h.withCommitted (bufferCopy_ok _ h.copies.committed) _).endReported _ _) (h.endReported _ _)) h)

theorem State.EnvelopeOk.reloadEnd (h : s.EnvelopeOk) {i : ImageOutcome} (hi : i.Ok) : (s.reloadEnd i).EnvelopeOk := by
  cases i with
  | valid c => exact (h.replaceCopies hi).endReported _ _
  | noMemory | crc | invalid => exact h.endReported _ _

theorem State.EnvelopeOk.takeStoreEnd (h : s.EnvelopeOk) (x : StoreEnd) : (s.takeStoreEnd x).EnvelopeOk := by
  have hb : (s.updStore fun x => { x with busy := false }).EnvelopeOk := h.updStore rfl
  unfold State.takeStoreEnd
  dsimp only
  split
  · next d _ => exact (hb.placeReply (d.reply x)).of_eq
  · exact hb

/-! ## Service commands and leaves (09) -/

theorem State.EnvelopeOk.placed {c : Carried} (h : c.state.EnvelopeOk) : c.placed.EnvelopeOk := by
  unfold Carried.placed
  split
  · exact h.placeReply _
  · exact h

theorem State.EnvelopeOk.finish {c : Carried} (h : c.state.EnvelopeOk) : c.finish.EnvelopeOk :=
  State.EnvelopeOk.placed (c := { c with state := c.state.start .serviceIdle }) h.of_eq

/-- A service command keeps the invariant if its effect in SERVICE does (R154, R157). -/
theorem State.EnvelopeOk.inService (h : s.EnvelopeOk) (i : Instr) (seq code : Byte) {f : State → Carried}
    (hf : ∀ u : State, u.EnvelopeOk → (f u).state.EnvelopeOk) : (s.inService i seq code f).EnvelopeOk :=
  State.EnvelopeOk.ite (State.EnvelopeOk.finish (hf _ (h.took _))) (State.EnvelopeOk.placed (h.took _))

theorem State.EnvelopeOk.unlessBusy (h : s.EnvelopeOk) (seq code : Byte) {f : State → Carried}
    (hf : (f s).state.EnvelopeOk) : (s.unlessBusy seq code f).state.EnvelopeOk :=
  ite_within (P := fun c : Carried => c.state.EnvelopeOk) (fun _ => h) hf

theorem State.EnvelopeOk.withTable (h : s.EnvelopeOk) (x : FaultTable) : State.EnvelopeOk { s with table := x } :=
  h.of_eq

/-- A row written is of a kind that is not locked (R159). -/
theorem State.EnvelopeOk.rowWrite (h : s.EnvelopeOk) (seq kind : Byte) (b : RowBytes) :
    (s.rowWrite seq kind b).state.EnvelopeOk := by
  unfold State.rowWrite
  split
  · exact h
  · split
    · exact h
    · next hk =>
      split
      · exact h
      · next r _ =>
        have hs : State.EnvelopeOk { s with unsaved := true } := h.of_eq
        exact hs.changeCopy ⟨h.copies.working.params, h.copies.working.rows.set hk r⟩

/-- A parameter written is in its range (R160). -/
theorem State.EnvelopeOk.writeParam (h : s.EnvelopeOk) {p : Param} {v : Nat} (hv : p.inRange v = true) :
    (s.writeParam p v).EnvelopeOk := by
  have hc : Copy.Ok { s.working with params := s.working.params.set p v } :=
    ⟨h.copies.working.params.set hv, h.copies.working.rows⟩
  unfold State.writeParam
  exact (h.withWorking hc).of_eq

theorem State.EnvelopeOk.paramWrite (h : s.EnvelopeOk) (seq number : Byte) (v : Half) :
    (s.paramWrite seq number v).state.EnvelopeOk := by
  unfold State.paramWrite
  split
  · exact h
  · split
    · next hv => exact h.writeParam hv
    · exact h

theorem State.EnvelopeOk.recordClear (h : s.EnvelopeOk) (seq slot : Byte) :
    (s.recordClear seq slot).state.EnvelopeOk := by
  have hfree : (s.freeSlot slot.toNat).EnvelopeOk := h.of_control (State.freeSlot_derates h.derate _)
  unfold State.recordClear
  split
  · split
    · exact h
    · split
      · exact h
      · exact h
      · exact h
      · exact hfree
      · exact hfree
  · exact h

theorem State.EnvelopeOk.startSweep (h : s.EnvelopeOk) (seq start unit kind mode count : Byte) :
    (s.startSweep seq start unit kind mode count).state.EnvelopeOk := by
  unfold State.startSweep
  split
  · exact h
  · split
    · exact h.withTable _
    · exact h

theorem State.EnvelopeOk.resumeSweep (h : s.EnvelopeOk) (seq : Byte) : (s.resumeSweep seq).state.EnvelopeOk :=
  ite_within (P := fun c : Carried => c.state.EnvelopeOk) (fun _ => h.withTable _) h

theorem State.EnvelopeOk.cancelSweep (h : s.EnvelopeOk) (seq : Byte) : (s.cancelSweep seq).state.EnvelopeOk :=
  ite_within (P := fun c : Carried => c.state.EnvelopeOk) (fun _ => h) (h.withTable _)

theorem State.EnvelopeOk.setOverrides (h : s.EnvelopeOk) (os : List Override) : (s.setOverrides os).EnvelopeOk :=
  h.of_control (State.recompute_derates _)

theorem State.EnvelopeOk.pushOverride (h : s.EnvelopeOk) (seq a b c d : Byte) :
    (s.pushOverride seq a b c d).state.EnvelopeOk := by
  unfold State.pushOverride
  split
  · exact h
  · split
    · exact h
    · exact h.setOverrides _

theorem State.EnvelopeOk.popOverride (h : s.EnvelopeOk) (seq : Byte) : (s.popOverride seq).state.EnvelopeOk := by
  unfold State.popOverride
  split
  · exact h
  · exact h.setOverrides _

theorem State.EnvelopeOk.serviceEnter (h : s.EnvelopeOk) (seq : Byte) (e : execServiceEnter seq s = .next t) :
    t.EnvelopeOk := by
  have hc : (s.takeCommand (.serviceEnter seq)).EnvelopeOk := h.took _
  refine State.EnvelopeOk.next e ?_
  split
  · exact State.EnvelopeOk.ite (State.EnvelopeOk.finish hc) (State.EnvelopeOk.placed hc)
  · exact State.EnvelopeOk.placed (hc.of_control (State.recompute_derates _))

theorem State.EnvelopeOk.serviceLeave (h : s.EnvelopeOk) (seq : Byte) (e : execServiceLeave seq s = .next t) :
    t.EnvelopeOk := by
  have hc : (s.takeCommand (.serviceLeave seq)).EnvelopeOk := h.took _
  refine State.EnvelopeOk.next e (State.EnvelopeOk.ite
    (State.EnvelopeOk.ite (State.EnvelopeOk.finish hc) ?_) (State.EnvelopeOk.placed hc))
  unfold State.serviceLeave
  dsimp only
  split
  · exact State.EnvelopeOk.finish (hc.withTable _)
  · exact State.EnvelopeOk.placed (hc.withTable _).leaveToStandby

/-- A query's answer takes the command and places a reply. -/
theorem State.EnvelopeOk.answer (h : s.EnvelopeOk) (i : Instr) (r : Reply) : (s.answer i r).EnvelopeOk :=
  (h.took _).placeReply r

end

/-! ## Every command keeps the invariant -/

/-- Each command's effect is one of the rules above, or leaves what the invariant speaks of alone. -/
theorem exec_keeps_envelopeOk (c : Instr) (s t : State) (h : s.EnvelopeOk) (e : exec c s = .next t) :
    t.EnvelopeOk := by
  cases c with
  -- the commands that reach a port (01)
  | frameReceived p body => exact State.EnvelopeOk.next e (State.EnvelopeOk.ite h (h.closeFrame p body))
  | receiveError p x => exact State.EnvelopeOk.next e (State.EnvelopeOk.ite h (h.receiveError p x))
  | byteReceived p i => exact State.EnvelopeOk.next e (State.EnvelopeOk.ite h (h.frameItem p i))
  | lineBreak p =>
    exact State.EnvelopeOk.next e (State.EnvelopeOk.ite h
      (State.EnvelopeOk.ite ((h.receiveError p _).breakLink p) (h.breakLink p)))
  | breakEnd p => exact State.EnvelopeOk.next e (State.EnvelopeOk.ite (h.updPort p fun _ hg => hg) h)
  | freshnessExpiry p =>
    exact State.EnvelopeOk.next e (h.expiry p.channel (f := fun u => u.silence p) fun u hu => hu.silence p)
  | transmitterTakeFrame p => exact h.transmitterTakeFrame p e
  | envelopeExpiry => exact State.EnvelopeOk.next e (h.expiry _ fun u hu => hu.envelopeEvent)
  -- power-on, the time base and the switch inputs (00, 02, 03)
  | powerOn => exact State.EnvelopeOk.next e (State.reset_envelopeOk.of_eq (hs := rfl))
  | timeBaseStep => exact State.EnvelopeOk.next e h.of_eq
  | switchChangeAccepted =>
    exact State.EnvelopeOk.next e (State.EnvelopeOk.ite (h.took _) (State.EnvelopeOk.ite h h.of_eq))
  -- the monitor, the fault table and the containment controller (05 to 07)
  | arrivalNotice u =>
    exact State.EnvelopeOk.next e (h.of_control (State.noticeOf_derates (s := s.took _) h.derate u))
  | linkStateNotice p =>
    exact State.EnvelopeOk.next e (h.of_control (State.testDrive_derates (s := s.took _) h.derate))
  | wakeRising =>
    have hw := h.acceptWake true
    exact State.EnvelopeOk.next e
      (State.EnvelopeOk.ite (hw.of_control (State.enterStandby_derates _)) hw)
  | wakeFalling => exact State.EnvelopeOk.next e (h.acceptWake false).wakeFell
  | checkExpiry => exact State.EnvelopeOk.next e (h.expiry _ fun u hu => hu.of_eq)
  | isolationNotice => exact State.EnvelopeOk.next e h.of_eq
  | recordTickExpiry =>
    exact State.EnvelopeOk.next e (h.expiry .recordTick (f := fun u => u.tableEvent (s.table.tick s.working))
      fun u hu => hu.of_eq)
  | gatherExpiry =>
    exact State.EnvelopeOk.next e (h.expiry _ fun u hu => hu.of_control (State.gatherExpires_derates hu.derate))
  | gatherBatchTaken =>
    exact State.EnvelopeOk.next e
      (State.EnvelopeOk.ite (h.of_control (State.gatherFinished_derates _)) (h.took _))
  | haltRampExpiry =>
    exact State.EnvelopeOk.next e (h.expiry _ fun u hu => hu.of_control (State.haltRampEnds_derates hu.derate))
  | containmentAnnouncement =>
    exact State.EnvelopeOk.next e (h.of_control (State.recompute_derates _))
  | endOfLoading =>
    exact State.EnvelopeOk.next e
      (State.EnvelopeOk.ite (h.of_control (State.endLoading_derates _)) (h.took _))
  | sweepExamination => exact State.EnvelopeOk.next e (State.EnvelopeOk.ite h.of_eq h)
  -- the configuration store (10)
  | loadImageReadDone r => exact h.loadImageReadDone r e
  | loadLatchListReadDone r => exact h.loadLatchListReadDone r e
  | latchRewriteRequest => exact State.EnvelopeOk.next e ((h.took _).updStore rfl).beginPending
  | savePageWriteDone a => exact h.savePageWriteDone a e
  | storeWaitExpiry => exact State.EnvelopeOk.next e (h.expiry _ fun u hu => hu.storeWaited)
  | saveReadbackDone r => exact h.saveReadbackDone r e
  | latchPageWriteDone a => exact h.latchPageWriteDone a e
  | reloadReadDone r =>
    exact State.EnvelopeOk.next e (State.EnvelopeOk.ite ((h.updStore rfl).reloadEnd (readImage_ok _ _)) h)
  | storeEndReport =>
    refine State.EnvelopeOk.next e ?_
    split
    · exact (h.took _).takeStoreEnd _
    · exact h
  -- queries and service commands (09)
  | queryRecords | queryLink | queryRow | queryParam | queryEnvelope | unknownCommand =>
    exact State.EnvelopeOk.next e (h.answer _ _)
  | serviceEnter seq => exact h.serviceEnter seq e
  | serviceLeave seq => exact h.serviceLeave seq e
  | serviceIdleExpiry => exact State.EnvelopeOk.next e (h.expiry _ fun u hu => hu.idleLeave)
  | rowWrite =>
    exact State.EnvelopeOk.next e (h.inService _ _ _ fun u hu => hu.unlessBusy _ _ (hu.rowWrite _ _ _))
  | paramWrite =>
    exact State.EnvelopeOk.next e (h.inService _ _ _ fun u hu => hu.unlessBusy _ _ (hu.paramWrite _ _ _))
  | storeSave seq =>
    refine State.EnvelopeOk.next e (h.inService _ _ _ fun u hu => hu.unlessBusy _ _ ?_)
    have hd : State.EnvelopeOk { u with deferred := some (.save seq) } := hu.of_eq
    exact (hd.updStore rfl).beginPending
  | storeReload seq =>
    refine State.EnvelopeOk.next e (h.inService _ _ _ fun u hu => hu.unlessBusy _ _ ?_)
    have hd : State.EnvelopeOk { u with deferred := some (.reload seq) } := hu.of_eq
    exact (hd.updStore rfl).beginPending
  | recordClear => exact State.EnvelopeOk.next e (h.inService _ _ _ fun u hu => hu.recordClear _ _)
  | sweepStart => exact State.EnvelopeOk.next e (h.inService _ _ _ fun u hu => hu.startSweep _ _ _ _ _ _)
  | sweepResume => exact State.EnvelopeOk.next e (h.inService _ _ _ fun u hu => hu.resumeSweep _)
  | sweepCancel => exact State.EnvelopeOk.next e (h.inService _ _ _ fun u hu => hu.cancelSweep _)
  | overridePush => exact State.EnvelopeOk.next e (h.inService _ _ _ fun u hu => hu.pushOverride _ _ _ _ _)
  | overridePop => exact State.EnvelopeOk.next e (h.inService _ _ _ fun u hu => hu.popOverride _)

/-- Settles O59: the queue plays no part in the invariant, and every command keeps it. -/
theorem everyStepKeepsEnvelopeOk : Obligations.EveryStepKeepsEnvelopeOk :=
  step_keeps (fun _ _ h => h.of_eq) exec_keeps_envelopeOk

end Sys2Proof.Machine
end

section
/-! PROOFS. The owner's operations on a timer channel (O19): ARM, START and STOP. -/

namespace Sys2Proof.Machine

open Sys2Proof

/-! ## Putting a channel's expiries out of force (03 R41) -/

/-- An expiry put out of force is still an expiry of its channel. -/
theorem Owed.isExpiry_voided (c : Chan) (e : Owed) : Owed.isExpiry c (e.voided c) = Owed.isExpiry c e := by
  cases e <;> rfl

/-- Of what is owed, only the channel's own expiries lose their force. -/
theorem Owed.voided_of_not_isExpiry {c : Chan} {e : Owed} (h : Owed.isExpiry c e = false) : e.voided c = e := by
  cases e with
  | expiry d f =>
    have hd : d ≠ c := by simpa [Owed.isExpiry] using h
    simp [Owed.voided, hd]
  | _ => rfl

/-- No expiry of the channel comes out in force. -/
theorem Owed.voided_eq_expiry {c : Chan} {e : Owed} {f : Bool} (h : e.voided c = .expiry c f) : f = false := by
  cases e with
  | expiry d g =>
    obtain ⟨rfl, rfl⟩ : d = c ∧ (g && d != c) = f := by simpa [Owed.voided] using h
    simp
  | _ => cases h

/-! ## What every operation on a channel does (03 R37 to R41) -/

section
variable (s : State) (c : Chan) (f : Channel → Channel)

/-- The operation is applied to the channel it names. -/
theorem State.operate_timers_get : (s.operate c f).timers.get c = f (s.timers.get c) := Timers.get_set _ _ _

theorem State.operate_timers_get_ne {d : Chan} (h : d ≠ c) :
    (s.operate c f).timers.get d = s.timers.get d := Timers.get_set_ne _ _ _ _ h

/-- A countdown the operation ends gives no expiry (R41). -/
theorem State.operate_expiry_not_in_force {b : Bool} (h : Owed.expiry c b ∈ (s.operate c f).owed) : b = false := by
  obtain ⟨e, -, he⟩ := List.mem_map.1 h
  exact Owed.voided_eq_expiry he

/-- Whatever is no expiry of the channel stays owed, and nothing of the kind is added. -/
theorem State.mem_operate_owed_iff {e : Owed} (h : Owed.isExpiry c e = false) :
    e ∈ (s.operate c f).owed ↔ e ∈ s.owed := by
  constructor
  · intro hm
    obtain ⟨e', hm', rfl⟩ := List.mem_map.1 hm
    rw [Owed.isExpiry_voided] at h
    rwa [Owed.voided_of_not_isExpiry h]
  · intro hm
    exact List.mem_map.2 ⟨e, hm, Owed.voided_of_not_isExpiry h⟩

theorem State.operate_rest :
    s.operate c f = { s with timers := (s.operate c f).timers, owed := (s.operate c f).owed } := rfl

end

/-! ## The channel on which an operation changes nothing (03 R37, R40) -/

theorem Channel.arm_armed {x : Channel} (hs : x.state = .armed) (hp : x.phase = 0) : x.arm = x := by
  rw [Channel.arm, ← hs, ← hp]

theorem Channel.stop_stopped {x : Channel} (hs : x.state = .stopped) (hp : x.phase = 0) : x.stop = x := by
  rw [Channel.stop, ← hs, ← hp]

/-- Settles O19: ARM, START and STOP are each `State.operate` with their own move of the channel, so what else they
change and leave is said once, of `State.operate`. -/
theorem timerOperationsMoveTheirChannel : Obligations.TimerOperationsMoveTheirChannel := by
  intro s c
  refine ⟨s.operate_timers_get c _, fun hs hp => ?_, s.operate_timers_get c _, s.operate_timers_get c _,
    fun hs hp => ?_, fun t ht => ?_⟩
  · exact (s.operate_timers_get c _).trans (Channel.arm_armed hs hp)
  · exact (s.operate_timers_get c _).trans (Channel.stop_stopped hs hp)
  · obtain ⟨f, rfl⟩ : ∃ f, t = s.operate c f := by
      rcases ht with rfl | rfl | rfl <;> exact ⟨_, rfl⟩
    exact ⟨fun d hd => s.operate_timers_get_ne c f hd, fun b hb => s.operate_expiry_not_in_force c f hb,
      fun e he => s.mem_operate_owed_iff c f he, s.operate_rest c f⟩

end Sys2Proof.Machine
end

section
/-! PROOFS. Validation at a leave (O20): which relation is reported first, and that success means that all hold. -/

namespace Sys2Proof.Machine

open Sys2Proof

/-! ## The parameter relations (04 R60) -/

section
variable {c : Params}

theorem paramRelationFailure_eq_none : paramRelationFailure c = none ↔
    c.thermStart + 5 ≤ c.thermStop ∧ c.walkSpeed ≤ c.limpSpeed
    ∧ (c.limpSpeed ≤ c.ecoSpeed ∧ c.limpSpeed ≤ c.tourSpeed ∧ c.limpSpeed ≤ c.sportSpeed)
    ∧ c.walkPct ≤ c.limpPct ∧ c.ecoPct ≤ c.tourPct ∧ c.tourPct ≤ c.sportPct := by
  simp only [paramRelationFailure, ite_not, ite_eq_iff, reduceCtorEq, and_false, or_false, and_true]

/-- The relation reported fails, and the relations with a lower number hold. -/
theorem paramRelationFailure_eq_some {n : Nat} : paramRelationFailure c = some n →
    (n = 1 ∧ ¬ c.thermStart + 5 ≤ c.thermStop)
    ∨ c.thermStart + 5 ≤ c.thermStop ∧ ((n = 2 ∧ ¬ c.walkSpeed ≤ c.limpSpeed)
      ∨ c.walkSpeed ≤ c.limpSpeed ∧ ((n = 3 ∧ ¬ (c.limpSpeed ≤ c.ecoSpeed ∧ c.limpSpeed ≤ c.tourSpeed
            ∧ c.limpSpeed ≤ c.sportSpeed))
        ∨ (c.limpSpeed ≤ c.ecoSpeed ∧ c.limpSpeed ≤ c.tourSpeed ∧ c.limpSpeed ≤ c.sportSpeed)
          ∧ ((n = 4 ∧ ¬ c.walkPct ≤ c.limpPct)
            ∨ c.walkPct ≤ c.limpPct ∧ n = 5 ∧ ¬ (c.ecoPct ≤ c.tourPct ∧ c.tourPct ≤ c.sportPct)))) := by
  intro h
  unfold paramRelationFailure at h
  split_ifs at h <;> cases h <;> omega

end

/-! ## The row relations (04 R61) -/

theorem Row.relationsHold_iff (r : Row) : r.relationsHold = true ↔
    (r.packOpen = true → r.floor = .halt) ∧ (r.enabled = true → r.isolate = true → r.floor ≠ .full) := by
  have hrank : 1 ≤ r.floor.rank ↔ r.floor ≠ .full := by cases r.floor <;> simp [Level.rank]
  simp only [Row.relationsHold, Bool.and_eq_true, Bool.or_eq_true, Bool.not_eq_true', ← Bool.not_eq_true, beq_iff_eq,
    decide_eq_true_eq, hrank, not_and_or, or_assoc, imp_iff_not_or]

theorem Kind.all_sorted : Kind.all.Pairwise (·.code < ·.code) := by decide

/-- The first kind of the catalogue that passes a test has the lowest code of those that do. -/
theorem Kind.find?_lowest {p : Kind → Bool} {k : Kind} (h : Kind.all.find? p = some k) :
    p k = true ∧ ∀ j, j.code < k.code → p j = false := by
  obtain ⟨hp, before, after, hall, hbefore⟩ := List.find?_eq_some_iff_append.1 h
  have hsorted := Kind.all_sorted
  rw [hall, List.pairwise_append, List.pairwise_cons] at hsorted
  obtain ⟨-, ⟨hafter, -⟩, -⟩ := hsorted
  refine ⟨hp, fun j hj => ?_⟩
  have hm := Kind.mem_all j
  rw [hall, List.mem_append, List.mem_cons] at hm
  rcases hm with hm | rfl | hm
  · simpa using hbefore j hm
  · exact absurd hj (Nat.lt_irrefl _)
  · exact absurd hj (Nat.lt_asymm (hafter j hm))

theorem rowRelationFailure_eq_none {r : Rows} :
    rowRelationFailure r = none ↔ ∀ k, (r.get k).relationsHold = true := by
  simp [rowRelationFailure, Kind.mem_all]

theorem rowRelationFailure_eq_some {r : Rows} {k : Kind} (h : rowRelationFailure r = some k) :
    (r.get k).relationsHold = false ∧ ∀ j, j.code < k.code → (r.get j).relationsHold = true := by
  simpa using Kind.find?_lowest h

/-! ## Both together (04 R62) -/

section
variable {c : Copy}

theorem Copy.relationFailure_eq_none :
    c.relationFailure = none ↔ paramRelationFailure c.params = none ∧ ∀ k, (c.rows.get k).relationsHold = true := by
  rw [← rowRelationFailure_eq_none, Copy.relationFailure]
  cases paramRelationFailure c.params <;> simp

/-- A failure is one of a parameter relation, or, where these hold, the first of a row. -/
theorem Copy.relationFailure_eq_some {f : Failure} (h : c.relationFailure = some f) :
    (∃ n, f = ⟨.paramRelation, n⟩ ∧ paramRelationFailure c.params = some n)
    ∨ ∃ k : Kind, f = ⟨.rowRelation, k.code⟩ ∧ paramRelationFailure c.params = none
      ∧ rowRelationFailure c.rows = some k := by
  unfold Copy.relationFailure at h
  cases hp : paramRelationFailure c.params with
  | some n =>
    rw [hp] at h
    exact .inl ⟨n, (Option.some.inj h).symm, rfl⟩
  | none =>
    rw [hp] at h
    obtain ⟨k, hk, rfl⟩ := Option.map_eq_some_iff.1 h
    exact .inr ⟨k, rfl, rfl, hk⟩

end

/-- Settles O20: a failure is split into one of a parameter relation and, where those hold, the first of a row. -/
theorem validationReportsFirstFailure : Obligations.ValidationReportsFirstFailure := by
  intro c
  refine ⟨?_, fun n h => ?_, fun n h => ?_, fun f h => ?_⟩
  · simp only [Copy.relationFailure_eq_none, paramRelationFailure_eq_none, Row.relationsHold_iff, and_assoc]
  · obtain ⟨m, he, hm⟩ | ⟨k, he, -⟩ := Copy.relationFailure_eq_some h
    · obtain rfl : n = m := (Failure.mk.inj he).2
      have := paramRelationFailure_eq_some hm
      omega
    · cases he
  · obtain ⟨m, he, -⟩ | ⟨k, he, hp, hk⟩ := Copy.relationFailure_eq_some h
    · cases he
    · obtain rfl : n = k.code := (Failure.mk.inj he).2
      exact ⟨hp, k, rfl, rowRelationFailure_eq_some hk⟩
  · obtain ⟨m, rfl, -⟩ | ⟨k, rfl, -⟩ := Copy.relationFailure_eq_some h
    · exact .inl rfl
    · exact .inr rfl

end Sys2Proof.Machine
end

section
/-! PROOFS. The slots of a pair and what one slot's move hands on (O22, O24), and evidence for a pair that holds a record
(O22). -/

namespace Sys2Proof.Machine

open Sys2Proof

/-! ## The slots of a pair (05 R63) -/

section
variable {t t' : FaultTable} {u : FaultUnit} {k : Kind} {r : FaultRecord}

theorem holdsPair_some : holdsPair u k (some r) = true ↔ r.pairOf = (u, k) := by
  simp [holdsPair_iff]

/-- A pair keeps its record if its slots keep their place and their content, whatever becomes of the others. -/
theorem FaultTable.recordOf_map_of_eq {g : Option FaultRecord → Option FaultRecord}
    (ht : t'.slots = t.slots.map g) (hpair : ∀ o, holdsPair u k (g o) = holdsPair u k o)
    (hsame : ∀ o, holdsPair u k o = true → g o = o) : t'.recordOf u k = t.recordOf u k := by
  have hfind : holdsPair u k ∘ g = holdsPair u k := funext hpair
  rw [FaultTable.recordOf, FaultTable.recordOf, ht, List.find?_map, hfind]
  cases hf : t.slots.find? (holdsPair u k) with
  | none => rfl
  | some o => rw [Option.map_some, hsame o (List.find?_some hf)]

theorem FaultTable.recordOf_put_same (hr : r.pairOf = (u, k)) (h : t.recordOf u k ≠ none) :
    (t.put u k r).recordOf u k = some r := by
  have hfind : (holdsPair u k ∘ fun o => if holdsPair u k o then some r else o) = holdsPair u k := funext fun o => by
    simp only [Function.comp_apply]
    split <;> simp_all [holdsPair_some.2 hr]
  rw [FaultTable.recordOf, FaultTable.put, List.find?_map, hfind]
  cases hf : t.slots.find? (holdsPair u k) with
  | none => exact absurd (by rw [FaultTable.recordOf, hf]; rfl) h
  | some o => rw [Option.map_some, if_pos (List.find?_some hf)]; rfl

theorem holdsPair_other {u' : FaultUnit} {k' : Kind} (h : (u', k') ≠ (u, k)) {o : Option FaultRecord}
    (ho : holdsPair u k o = true) : holdsPair u' k' o = false := by
  obtain ⟨q, rfl, hq⟩ := (holdsPair_iff u k o).1 ho
  rw [← Bool.not_eq_true, holdsPair_some, hq]
  exact Ne.symm h

theorem FaultTable.recordOf_put_other {u' : FaultUnit} {k' : Kind} (hr : r.pairOf = (u, k)) (h : (u', k') ≠ (u, k)) :
    (t.put u k r).recordOf u' k' = t.recordOf u' k' := by
  refine FaultTable.recordOf_map_of_eq rfl (fun o => ?_) fun o ho => ?_
  · split
    · next hq => rw [holdsPair_other h hq, holdsPair_other h (holdsPair_some.2 hr)]
    · rfl
  · rw [if_neg fun hq => by simp [holdsPair_other h hq] at ho]

/-- A change of the records of one pair, under that pair, leaves every other pair's record. -/
theorem FaultTable.recordOf_update_other {u' : FaultUnit} {k' : Kind} {f : FaultRecord → Option FaultRecord}
    (hf : FaultRecord.Keeps f) (h : (u', k') ≠ (u, k)) :
    (t.update fun q => if holdsPair u k (some q) then f q else some q).recordOf u' k' = t.recordOf u' k' := by
  refine FaultTable.recordOf_map_of_eq (g := fun o => o.bind _) rfl (fun o => ?_) fun o ho => ?_
  · cases o with
    | none => rfl
    | some q =>
      simp only [Option.bind_some]
      split
      · next hq =>
        rw [holdsPair_other h hq]
        cases hfq : f q with
        | none => rfl
        | some q' => exact holdsPair_other h (holdsPair_some.2 ((hf.pair q q' hfq).trans (holdsPair_some.1 hq)))
      · rfl
  · cases o with
    | none => rfl
    | some q => exact if_neg fun hq => by simp [holdsPair_other h hq] at ho

@[simp] theorem FaultTable.slot_put (i : Nat) :
    (t.put u k r).slot i = if holdsPair u k (t.slot i) then some r else t.slot i := by
  cases h : t.slots[i]? with
  | none => simp [FaultTable.slot, FaultTable.put, h, holdsPair]
  | some o => simp [FaultTable.slot, FaultTable.put, h]

@[simp] theorem FaultTable.slot_update (f : FaultRecord → Option FaultRecord) (i : Nat) :
    (t.update f).slot i = (t.slot i).bind f := by
  simp only [FaultTable.slot, FaultTable.update, List.getElem?_map]
  rcases t.slots[i]? with _ | o <;> rfl

theorem FaultTable.exists_slot_of_mem (h : r ∈ t.records) : ∃ i, t.slot i = some r := by
  obtain ⟨i, hi, he⟩ := List.getElem_of_mem (mem_records.1 h)
  exact ⟨i, by rw [FaultTable.slot, List.getElem?_eq_getElem hi, he]; rfl⟩

/-- In a sound table a pair has one slot at most. -/
theorem FaultTable.Ok.slot_unique (h : t.Ok) {i j : Nat} {q : FaultRecord} (hi : t.slot i = some r)
    (hj : t.slot j = some q) (hp : r.pairOf = q.pairOf) : i = j := by
  have apart : t.slots.Pairwise fun a b => ∀ x, a = some x → ∀ y, b = some y → x.pairOf ≠ y.pairOf :=
    List.pairwise_filterMap.1 (List.pairwise_map.1 h.pairs)
  have hslot : ∀ {n x}, t.slot n = some x → ∃ hn : n < t.slots.length, t.slots[n] = some x := fun hx =>
    List.getElem?_eq_some_iff.1 (Option.join_eq_some_iff.1 hx)
  obtain ⟨hil, hi⟩ := hslot hi
  obtain ⟨hjl, hj⟩ := hslot hj
  rcases Nat.lt_trichotomy i j with hlt | rfl | hlt
  · exact absurd hp (List.pairwise_iff_getElem.1 apart i j hil hjl hlt r hi q hj)
  · rfl
  · exact absurd hp.symm (List.pairwise_iff_getElem.1 apart j i hjl hil hlt q hj r hi)

/-- The slot of the record that a pair holds. -/
theorem FaultTable.recordOf_slot (h : t.recordOf u k = some r) : r.pairOf = (u, k) ∧ ∃ i, t.slot i = some r := by
  obtain ⟨hm, hp⟩ := recordOf_some h
  exact ⟨hp, FaultTable.exists_slot_of_mem hm⟩

theorem FaultTable.recordOf_eq_none (h : ∀ i q, t.slot i = some q → q.pairOf ≠ (u, k)) : t.recordOf u k = none := by
  refine Option.eq_none_iff_forall_ne_some.2 fun q hq => ?_
  obtain ⟨hp, i, hi⟩ := FaultTable.recordOf_slot hq
  exact h i q hi hp

theorem FaultTable.Ok.recordOf_eq_some (h : t.Ok) {i : Nat} (hi : t.slot i = some r) (hp : r.pairOf = (u, k)) :
    t.recordOf u k = some r := by
  cases hq : t.recordOf u k with
  | none => exact absurd (mem_pairsOf.2 ⟨r, mem_records.1 (slot_mem hi), hp⟩) (recordOf_none hq)
  | some q =>
    obtain ⟨hqp, j, hj⟩ := FaultTable.recordOf_slot hq
    obtain rfl := h.slot_unique hi hj (hp.trans hqp.symm)
    exact hj.symm.trans hi

/-- In a sound table no other slot holds the pair of a record. -/
theorem FaultTable.Ok.holdsPair_slot_ne (h : t.Ok) {i j : Nat} (hi : t.slot i = some r) (hp : r.pairOf = (u, k))
    (hj : j ≠ i) : holdsPair u k (t.slot j) = false := by
  rw [← Bool.not_eq_true, holdsPair_iff]
  rintro ⟨q, hq, hqp⟩
  exact hj (h.slot_unique hq hi (hqp.trans hp.symm))

/-! ## Announcements and requests of one slot's move (05 R78, R80) -/

/-- An event that changes one slot is announced for that slot and for TABLE_FULL alone (R78). -/
theorem announces_one_slot {i : Nat} (hl : t'.slots.length = t.slots.length)
    (hrest : ∀ j, j ≠ i → t'.slot j = t.slot j) :
    announces t t' = true ↔ t.tableFull ≠ t'.tableFull ∨ slotView (t.slot i) ≠ slotView (t'.slot i) := by
  have hview : (∃ j, slotView (t.slot j) ≠ slotView (t'.slot j)) ↔ slotView (t.slot i) ≠ slotView (t'.slot i) := by
    refine ⟨fun ⟨j, hj⟩ => ?_, fun hi => ⟨i, hi⟩⟩
    by_cases hji : j = i
    · exact hji ▸ hj
    · exact absurd (congrArg slotView (hrest j hji).symm) hj
  rw [announces_iff hl, ← hview, FaultTable.ContainmentChange]
  simp only [ne_eq, slotView_eq_iff, not_and_or, exists_or]

theorem crossesWorkshop_iff (old new : Policy) : crossesWorkshop old new = true ↔
    (old = .workshop ∧ new ≠ .workshop) ∨ (old ≠ .workshop ∧ new = .workshop) := by
  cases old <;> cases new <;> decide

theorem TableOut.count_owes (o : TableOut) :
    o.owes.count .announcement = (if o.announce then 1 else 0) ∧ o.owes.count .latchRequest = (if o.request then 1 else 0) := by
  rcases o with ⟨t, _ | _, _ | _⟩ <;> exact ⟨rfl, rfl⟩

theorem TableOut.mem_owes {o : TableOut} {e : Owed} (h : e ∈ o.owes) : e = .announcement ∨ e = .latchRequest := by
  simp only [TableOut.owes, List.mem_append, List.mem_ite_nil_right, List.mem_singleton] at h
  exact h.imp And.right And.right

end

/-! ## A record under evidence (05 R66, R68, R69) -/

theorem bumpTo_eq_min (top n : Nat) : bumpTo top n = min top (n + 1) := by unfold bumpTo; split <;> omega

theorem FaultRecord.withRowPolicy_eq (row : Row) (r : FaultRecord) :
    r.withRowPolicy row = { r with policy := if r.escalated then r.policy else row.policy } := by
  unfold FaultRecord.withRowPolicy; split <;> rfl

section
variable (row : Row) (now : Time) (v : Option EvidenceValue) (r : FaultRecord)

/-- Whatever state evidence finds, the record keeps all but its state, run and age, and takes the row's policy, the time
and the value. -/
theorem FaultRecord.renewed_eq : r.renewed row now v =
    { r with
      policy := if r.escalated then r.policy else row.policy
      lastEvidence := now
      value := if r.kind.carriesValue then v else none
      state := (r.renewed row now v).state
      run := (r.renewed row now v).run
      age := (r.renewed row now v).age } := by
  cases hs : r.state <;> simp [FaultRecord.renewed, FaultRecord.withRowPolicy_eq, hs]

@[simp] theorem FaultRecord.renewed_lastEvidence : (r.renewed row now v).lastEvidence = now := by
  rw [FaultRecord.renewed_eq]
@[simp] theorem FaultRecord.renewed_value : (r.renewed row now v).value = if r.kind.carriesValue then v else none := by
  rw [FaultRecord.renewed_eq]
@[simp] theorem FaultRecord.renewed_occurrences : (r.renewed row now v).occurrences = r.occurrences := by
  rw [FaultRecord.renewed_eq]
@[simp] theorem FaultRecord.renewed_firstConfirmed : (r.renewed row now v).firstConfirmed = r.firstConfirmed := by
  rw [FaultRecord.renewed_eq]
@[simp] theorem FaultRecord.renewed_escalated : (r.renewed row now v).escalated = r.escalated := by
  rw [FaultRecord.renewed_eq]
@[simp] theorem FaultRecord.renewed_policy :
    (r.renewed row now v).policy = if r.escalated then r.policy else row.policy := by
  rw [FaultRecord.renewed_eq]

@[simp] theorem FaultRecord.confirm_lastEvidence : (r.confirm row now).lastEvidence = r.lastEvidence := rfl
@[simp] theorem FaultRecord.confirm_value : (r.confirm row now).value = r.value := rfl
@[simp] theorem FaultRecord.confirm_state : (r.confirm row now).state = .active := rfl
@[simp] theorem FaultRecord.confirm_run : (r.confirm row now).run = 0 := rfl
@[simp] theorem FaultRecord.confirm_occurrences : (r.confirm row now).occurrences = min 15 (r.occurrences + 1) :=
  bumpTo_eq_min _ _
@[simp] theorem FaultRecord.confirm_firstConfirmed :
    (r.confirm row now).firstConfirmed = some (r.firstConfirmed.getD now) := rfl

variable {row now v r}

/-- The occurrences reach K: the record escalates (R69). -/
theorem FaultRecord.confirm_escalates (h0 : 0 < row.recur) (hk : row.recur ≤ min 15 (r.occurrences + 1)) :
    (r.confirm row now).escalated = true ∧ (r.confirm row now).policy = .workshop := by
  simp [FaultRecord.confirm, bumpTo_eq_min, h0, hk]

/-- K is 0 or not reached: the escalation and the policy in effect stay (R69). -/
theorem FaultRecord.confirm_keeps_policy (h : row.recur = 0 ∨ min 15 (r.occurrences + 1) < row.recur) :
    (r.confirm row now).escalated = r.escalated ∧ (r.confirm row now).policy = r.policy := by
  have hne : (decide (0 < row.recur) && decide (row.recur ≤ bumpTo 15 r.occurrences)) = false := by
    rw [bumpTo_eq_min, Bool.and_eq_false_iff, decide_eq_false_iff_not, decide_eq_false_iff_not]
    omega
  simp only [FaultRecord.confirm, hne, Bool.or_false, Bool.false_eq_true, if_false, and_self]

/-- Which evidence confirms: the N_c-th of a PENDING record, and the first of a DORMANT one where N_c is 1 (R68). -/
theorem FaultRecord.confirmedBy_iff (h : r.run < 255) : r.confirmedBy row now v = true ↔
    (r.state = .pending ∧ row.confirm ≤ r.run + 1) ∨ (r.state = .dormant ∧ row.confirm ≤ 1) := by
  cases hs : r.state <;>
    simp [FaultRecord.confirmedBy, FaultRecord.renewed, FaultRecord.meetsConfirm, hs, bumpTo, h]

theorem FaultRecord.onEvidence_of_confirmed (h : r.confirmedBy row now v = true) :
    r.onEvidence row now v = (r.renewed row now v).confirm row now := if_pos h

theorem FaultRecord.onEvidence_of_not_confirmed (h : ¬ r.confirmedBy row now v = true) :
    r.onEvidence row now v = r.renewed row now v := if_neg h

theorem FaultRecord.onEvidence_lastEvidence : (r.onEvidence row now v).lastEvidence = now := by
  unfold FaultRecord.onEvidence; split <;> simp

theorem FaultRecord.onEvidence_value :
    (r.onEvidence row now v).value = if r.kind.carriesValue then v else none := by
  unfold FaultRecord.onEvidence; split <;> simp

/-! Evidence that does not confirm, state by state. -/

theorem FaultRecord.onEvidence_active (hs : r.state = .active) :
    (r.onEvidence row now v).state = .active ∧ (r.onEvidence row now v).run = r.run := by
  simp [FaultRecord.onEvidence, FaultRecord.confirmedBy, FaultRecord.renewed, hs]

theorem FaultRecord.onEvidence_clearing_or_latched (hs : r.state = .clearing ∨ r.state = .latched) :
    (r.onEvidence row now v).state = .active ∧ (r.onEvidence row now v).run = 0 := by
  rcases hs with hs | hs <;> simp [FaultRecord.onEvidence, FaultRecord.confirmedBy, FaultRecord.renewed, hs]

theorem FaultRecord.onEvidence_pending (hs : r.state = .pending) (hr : r.run < 255) (h : r.run + 1 < row.confirm) :
    (r.onEvidence row now v).state = .pending ∧ (r.onEvidence row now v).run = r.run + 1
      ∧ (r.onEvidence row now v).age = 0 := by
  rw [FaultRecord.onEvidence_of_not_confirmed (by rw [FaultRecord.confirmedBy_iff hr, hs]; simp; omega)]
  simp [FaultRecord.renewed, hs, bumpTo, hr]

theorem FaultRecord.onEvidence_dormant (hs : r.state = .dormant) (hr : r.run < 255) (h : 1 < row.confirm) :
    (r.onEvidence row now v).state = .pending ∧ (r.onEvidence row now v).run = 1
      ∧ (r.onEvidence row now v).age = 0 := by
  rw [FaultRecord.onEvidence_of_not_confirmed (by rw [FaultRecord.confirmedBy_iff hr, hs]; simp; omega)]
  simp [FaultRecord.renewed, hs]

/-- Evidence changes what R78 looks at exactly if it confirms the record or takes it out of LATCHED. -/
theorem FaultRecord.slotView_onEvidence_ne :
    slotView (some r) ≠ slotView (some (r.onEvidence row now v)) ↔
      r.confirmedBy row now v = true ∨ r.state = .latched := by
  by_cases hc : r.confirmedBy row now v = true
  · have hs : r.state = .pending ∨ r.state = .dormant := by
      cases h : r.state <;> simp_all [FaultRecord.confirmedBy]
    rw [FaultRecord.onEvidence_of_confirmed hc]
    rcases hs with hs | hs <;> simp [slotView, FaultRecord.contained, hs, hc]
  · rw [FaultRecord.onEvidence_of_not_confirmed hc]
    cases hs : r.state <;> simp [slotView, FaultRecord.contained, FaultRecord.renewed, hs, hc]

end

/-! ## The event of evidence for a record (05 R66, R87) -/

section
variable {t : FaultTable} {c : Copy} {row : Row} {now : Time} {u : FaultUnit} {k : Kind} {v : Option EvidenceValue}
  {r : FaultRecord}

theorem FaultTable.evidence_disabled (h : (c.rows.get k).enabled = false) :
    t.evidence c now u k v = ⟨t, false, false⟩ := by
  simp [FaultTable.evidence, h]

theorem FaultTable.evidence_of_record (he : (c.rows.get k).enabled = true) (hr : t.recordOf u k = some r) :
    t.evidence c now u k v = t.evidenceFor (c.rows.get k) now v r := by
  simp [FaultTable.evidence, he, hr]

theorem FaultTable.evidenceFor_slots :
    (t.evidenceFor row now v r).table.slots = (t.put r.unit r.kind (r.onEvidence row now v)).slots := by
  simp only [FaultTable.evidenceFor]; split <;> rfl

theorem FaultTable.evidenceFor_recordOf (u : FaultUnit) (k : Kind) : (t.evidenceFor row now v r).table.recordOf u k
    = (t.put r.unit r.kind (r.onEvidence row now v)).recordOf u k := by
  rw [FaultTable.recordOf, FaultTable.evidenceFor_slots, FaultTable.recordOf]

theorem FaultTable.evidenceFor_tableFull : (t.evidenceFor row now v r).table.tableFull = t.tableFull := by
  simp only [FaultTable.evidenceFor]; split <;> rfl

theorem FaultTable.evidenceFor_lost : (t.evidenceFor row now v r).table.lost = t.lost := by
  simp only [FaultTable.evidenceFor]; split <;> rfl

theorem FaultTable.evidenceFor_sweep : (t.evidenceFor row now v r).table.sweep
    = if r.confirmedBy row now v then t.sweep.onConfirmation else t.sweep := by
  simp only [FaultTable.evidenceFor]; split <;> rfl

theorem FaultTable.evidenceFor_length : (t.evidenceFor row now v r).table.slots.length = t.slots.length := by
  rw [FaultTable.evidenceFor_slots]; exact List.length_map _

theorem FaultTable.evidenceFor_announce : (t.evidenceFor row now v r).announce = true ↔
    t.ContainmentChange (t.evidenceFor row now v r).table :=
  announces_iff FaultTable.evidenceFor_length

/-- In a sound table evidence is announced exactly if it confirms or finds the record LATCHED. -/
theorem FaultTable.Ok.evidenceFor_announce (h : t.Ok) (hr : t.recordOf r.unit r.kind = some r) :
    (t.evidenceFor row now v r).announce = true ↔ r.confirmedBy row now v = true ∨ r.state = .latched := by
  obtain ⟨hp, i, hi⟩ := FaultTable.recordOf_slot hr
  have hslot : ∀ j, (t.evidenceFor row now v r).table.slot j
      = if holdsPair r.unit r.kind (t.slot j) then some (r.onEvidence row now v) else t.slot j := fun j => by
    rw [FaultTable.slot, FaultTable.evidenceFor_slots]; exact FaultTable.slot_put j
  have hrest : ∀ j, j ≠ i → (t.evidenceFor row now v r).table.slot j = t.slot j := fun j hj => by
    rw [hslot, if_neg (by simp [h.holdsPair_slot_ne hi hp hj])]
  refine (announces_one_slot FaultTable.evidenceFor_length hrest).trans ?_
  rw [hslot, hi, if_pos (holdsPair_some.2 hp), FaultTable.evidenceFor_tableFull, FaultRecord.slotView_onEvidence_ne]
  simp

/-- A rewrite is requested for a confirmation under WORKSHOP and for a policy that crosses WORKSHOP (R80). -/
theorem FaultTable.evidenceFor_request : (t.evidenceFor row now v r).request = true ↔
    (r.confirmedBy row now v = true ∧ (r.onEvidence row now v).policy = .workshop)
    ∨ (r.policy = .workshop ∧ (r.onEvidence row now v).policy ≠ .workshop)
    ∨ (r.policy ≠ .workshop ∧ (r.onEvidence row now v).policy = .workshop) := by
  simp only [FaultTable.evidenceFor, Bool.or_eq_true, Bool.and_eq_true, beq_iff_eq, crossesWorkshop_iff]
  exact or_comm

end

/-- A delivery owes its neighbours one announcement and one request at most, as its event gives. -/
theorem State.deliver_news (s : State) (d : Delivery) {o : TableOut} (h : s.table.deliver s.working s.now d = o) :
    ∃ news, s.deliver d = { s with table := o.table, owed := s.owed ++ news }
      ∧ (∀ e ∈ news, e = .announcement ∨ e = .latchRequest)
      ∧ news.count .announcement = (if o.announce then 1 else 0)
      ∧ news.count .latchRequest = (if o.request then 1 else 0)
      ∧ s.deliverAll [] = s ∧ ∀ ds, s.deliverAll (d :: ds) = (s.deliver d).deliverAll ds :=
  ⟨o.owes, h ▸ rfl, fun _ => TableOut.mem_owes, o.count_owes.1, o.count_owes.2, rfl, fun _ => rfl⟩

/-- Settles O22: the event writes the record back to its pair, so each clause is one about `FaultRecord.onEvidence`, by the
state found and by whether it confirms. -/
theorem evidenceMovesExistingRecord : Obligations.EvidenceMovesExistingRecord := by
  refine ⟨fun s d o he hc => s.deliver_news d ?_, fun t c now u k v r hr hrun => ⟨FaultTable.evidence_disabled, ?_⟩⟩
  · cases d with
    | evidence u k v => exact (he u k v rfl).symm
    | clean u k => exact (hc u k rfl).symm
  · intro hen
    rw [FaultTable.evidence_of_record hen hr]
    obtain ⟨rfl, rfl⟩ : r.unit = u ∧ r.kind = k := Prod.mk.inj (recordOf_some hr).2
    generalize c.rows.get r.kind = row
    have hpair := FaultRecord.onEvidence_pairOf row now v r
    have hconf := FaultRecord.confirmedBy_iff (row := row) (now := now) (v := v) hrun
    refine ⟨r.onEvidence row now v, ?_, (Prod.mk.inj hpair).1, (Prod.mk.inj hpair).2,
      FaultRecord.onEvidence_lastEvidence, FaultRecord.onEvidence_mark row now v r, FaultRecord.onEvidence_value,
      FaultRecord.onEvidence_active, FaultRecord.onEvidence_clearing_or_latched, fun hs => FaultRecord.onEvidence_pending hs hrun,
      fun hs => FaultRecord.onEvidence_dormant hs hrun, fun hs => ?_, fun hs => ?_, fun u' k' hne => ?_,
      FaultTable.evidenceFor_tableFull, FaultTable.evidenceFor_lost, FaultTable.evidenceFor_announce,
      fun confirmed hiff => ?_⟩
    · rw [FaultTable.evidenceFor_recordOf, FaultTable.recordOf_put_same hpair (by simp [hr])]
    · have hno : ¬ r.confirmedBy row now v = true := by
        rw [hconf]
        rintro (⟨h, hle⟩ | ⟨h, hle⟩) <;> simp only [h, reduceCtorEq, false_and, false_or, or_false, true_and] at hs <;>
          omega
      rw [FaultRecord.onEvidence_of_not_confirmed hno, FaultTable.evidenceFor_sweep, if_neg hno]
      simp
    · have hyes := hconf.2 hs
      rw [FaultRecord.onEvidence_of_confirmed hyes, FaultTable.evidenceFor_sweep, if_pos hyes]
      refine ⟨rfl, rfl, by simp, by simp, fun h0 hk => ?_, fun hk => ?_, rfl⟩
      · exact FaultRecord.confirm_escalates h0 (by simpa using hk)
      · simpa using FaultRecord.confirm_keeps_policy (r := r.renewed row now v) (now := now) (by simpa using hk)
    · rw [FaultTable.evidenceFor_recordOf, FaultTable.recordOf_put_other hpair hne]
    · rw [hiff, ← hconf]
      exact ⟨FaultTable.evidenceFor_request, fun hok => hok.evidenceFor_announce hr⟩

end Sys2Proof.Machine
end

section
/-! PROOFS. Clean observations (O24): the record heals, latches or is freed, in its own slot alone, and what the event
hands on. -/

namespace Sys2Proof.Machine

open Sys2Proof

/-! ## A record under a clean observation (05 R70, R71, 04 R54) -/

section
variable {row : Row} {r : FaultRecord}

/-- The entry into DORMANT of a record whose policy has been set from the row; a disabled row frees it (R71, R54). -/
theorem FaultRecord.enterDormant_withRowPolicy : (r.withRowPolicy row).enterDormant row =
    if row.enabled then some { r.withRowPolicy row with state := .dormant, run := 0, age := 0 } else none := rfl

theorem FaultRecord.onClean_pending (hs : r.state = .pending) :
    r.onClean row = if 0 < r.occurrences then (r.withRowPolicy row).enterDormant row else none := by
  simp [FaultRecord.onClean, FaultRecord.beforeClean, hs]

theorem FaultRecord.onClean_active_auto (hs : r.state = .active) (hp : (r.withRowPolicy row).policy = .auto) :
    r.onClean row = if row.heal ≤ 1 then (r.withRowPolicy row).enterDormant row
      else some { r.withRowPolicy row with state := .clearing, run := 1 } := by
  simp [FaultRecord.onClean, FaultRecord.beforeClean, hs, hp]

theorem FaultRecord.onClean_clearing_auto (hs : r.state = .clearing) (hp : (r.withRowPolicy row).policy = .auto)
    (hr : r.run < 255) : r.onClean row = if row.heal ≤ r.run + 1 then (r.withRowPolicy row).enterDormant row
      else some { r.withRowPolicy row with run := r.run + 1 } := by
  simp [FaultRecord.onClean, FaultRecord.beforeClean, hs, hp, bumpTo, hr]

/-- Under KEY and WORKSHOP a contained record latches. -/
theorem FaultRecord.onClean_latches (hs : r.state = .active ∨ r.state = .clearing)
    (hp : (r.withRowPolicy row).policy ≠ .auto) :
    r.onClean row = some { r.withRowPolicy row with state := .latched, run := 0 } := by
  rcases hs with hs | hs <;> cases hpol : (r.withRowPolicy row).policy <;>
    simp_all [FaultRecord.onClean, FaultRecord.beforeClean]

theorem FaultRecord.onClean_latched (hs : r.state = .latched) : r.onClean row = some r := by
  simp [FaultRecord.onClean, FaultRecord.beforeClean, hs]

theorem FaultRecord.onClean_dormant (hs : r.state = .dormant) : r.onClean row = some (r.withRowPolicy row) := by
  simp [FaultRecord.onClean, FaultRecord.beforeClean, hs]

end

/-! ## The event of a clean observation for a record (05 R70, R75) -/

section
variable {t : FaultTable} {c : Copy} {u : FaultUnit} {k : Kind} {r : FaultRecord}

theorem FaultTable.clean_of_none (h : t.recordOf u k = none) : t.clean c u k = ⟨t, false, false⟩ := by
  simp [FaultTable.clean, h]

theorem FaultTable.clean_of_record (h : t.recordOf u k = some r) : t.clean c u k =
    ⟨(t.clean c u k).table, announces t (t.clean c u k).table,
      crossesWorkshop r.policy (r.beforeClean (c.rows.get k)).policy
        || ((r.beforeClean (c.rows.get k)).policy == .workshop && (r.onClean (c.rows.get k)).isNone)⟩ := by
  simp only [FaultTable.clean, h]

theorem FaultTable.clean_table (h : t.recordOf u k = some r) : (t.clean c u k).table =
    t.update fun q => if holdsPair u k (some q) then q.onClean (c.rows.get k) else some q := by
  simp only [FaultTable.clean, h]

theorem FaultTable.clean_lost : (t.clean c u k).table.lost = t.lost := by
  unfold FaultTable.clean; split <;> rfl

theorem FaultTable.clean_sweep : (t.clean c u k).table.sweep = t.sweep := by
  unfold FaultTable.clean; split <;> rfl

theorem FaultTable.clean_length : (t.clean c u k).table.slots.length = t.slots.length := by
  unfold FaultTable.clean
  split
  · rfl
  · exact List.length_map _

theorem FaultTable.clean_recordOf_other {u' : FaultUnit} {k' : Kind} (h : (u', k') ≠ (u, k)) :
    (t.clean c u k).table.recordOf u' k' = t.recordOf u' k' := by
  cases hr : t.recordOf u k with
  | none => rw [FaultTable.clean_of_none hr]
  | some r => rw [FaultTable.clean_table hr, FaultTable.recordOf_update_other (FaultRecord.onClean_keeps _) h]

/-- In a sound table a clean observation changes the slot of its record alone. -/
theorem FaultTable.Ok.clean_slot (h : t.Ok) (hr : t.recordOf u k = some r) {i : Nat} (hi : t.slot i = some r) (j : Nat) :
    (t.clean c u k).table.slot j = if j = i then r.onClean (c.rows.get k) else t.slot j := by
  have hp := (recordOf_some hr).2
  rw [FaultTable.clean_table hr, FaultTable.slot_update]
  split
  · next hj => rw [hj, hi, Option.bind_some, if_pos (holdsPair_some.2 hp)]
  · next hj =>
    have hno := h.holdsPair_slot_ne hi hp hj
    cases hq : t.slot j with
    | none => rfl
    | some q => rw [Option.bind_some, if_neg (by simp [← hq, hno])]

/-- What a clean observation makes of the record is what the pair then holds. -/
theorem FaultTable.Ok.clean_recordOf (h : t.Ok) (hr : t.recordOf u k = some r) :
    (t.clean c u k).table.recordOf u k = r.onClean (c.rows.get k) := by
  obtain ⟨hp, i, hi⟩ := FaultTable.recordOf_slot hr
  cases hc : r.onClean (c.rows.get k) with
  | some r' =>
    refine (FaultTable.clean_ok h).recordOf_eq_some (i := i) ?_ (((FaultRecord.onClean_keeps _).pair r r' hc).trans hp)
    rw [h.clean_slot hr hi, if_pos rfl, hc]
  | none =>
    refine FaultTable.recordOf_eq_none fun j q hq hqp => ?_
    rw [h.clean_slot hr hi, hc] at hq
    split at hq
    · cases hq
    · next hj => exact hj (h.slot_unique hq hi (hqp.trans hp.symm))

/-- TABLE_FULL is cleared exactly if the record is freed (R75). -/
theorem FaultTable.Ok.clean_tableFull (h : t.Ok) (hr : t.recordOf u k = some r) :
    (t.clean c u k).table.tableFull = (t.tableFull && (r.onClean (c.rows.get k)).isSome) := by
  obtain ⟨hm, hp⟩ := recordOf_some hr
  obtain ⟨-, i, hi⟩ := FaultTable.recordOf_slot hr
  rw [FaultTable.clean_table hr]
  refine congrArg (t.tableFull && ·) (Bool.eq_iff_iff.2 ?_)
  simp only [List.all_eq_true, Bool.or_eq_true]
  refine ⟨fun hall => ?_, fun hsome o ho => ?_⟩
  · simpa [holdsPair_some.2 hp] using hall (some r) (mem_records.1 hm)
  · cases o with
    | none => exact .inl rfl
    | some q =>
      right
      rw [Option.bind_some]
      split
      · next hq =>
        obtain ⟨j, hj⟩ := FaultTable.exists_slot_of_mem (mem_records.2 ho)
        obtain rfl := h.slot_unique hi hj (hp.trans (holdsPair_some.1 hq).symm)
        rwa [← Option.some.inj (hi.symm.trans hj)]
      · rfl

theorem FaultTable.clean_announce (hr : t.recordOf u k = some r) :
    (t.clean c u k).announce = true ↔ t.ContainmentChange (t.clean c u k).table := by
  rw [FaultTable.clean_of_record hr]
  exact announces_iff FaultTable.clean_length

/-- In a sound table it is announced for a freeing that clears TABLE_FULL, and for what R78 looks at in the record. -/
theorem FaultTable.Ok.clean_announce_iff (h : t.Ok) (hr : t.recordOf u k = some r) :
    (t.clean c u k).announce = true ↔
      t.tableFull ≠ (t.tableFull && (r.onClean (c.rows.get k)).isSome)
      ∨ slotView (some r) ≠ slotView (r.onClean (c.rows.get k)) := by
  obtain ⟨-, i, hi⟩ := FaultTable.recordOf_slot hr
  have hrest : ∀ j, j ≠ i → (t.clean c u k).table.slot j = t.slot j := fun j hj => by
    rw [h.clean_slot hr hi, if_neg hj]
  have hview := announces_one_slot (FaultTable.clean_length (c := c)) hrest
  rw [h.clean_tableFull hr, h.clean_slot hr hi i, if_pos rfl, hi] at hview
  rw [FaultTable.clean_of_record hr]
  exact hview

/-- A LATCHED record's policy stays, and requests nothing (R52). -/
theorem FaultTable.clean_request_latched (hr : t.recordOf u k = some r) (hs : r.state = .latched) :
    (t.clean c u k).request = false := by
  have hpol : crossesWorkshop r.policy r.policy = false := by cases r.policy <;> rfl
  rw [FaultTable.clean_of_record hr]
  simp [FaultRecord.onClean_latched hs, FaultRecord.beforeClean, hs, hpol]

/-- A rewrite is requested for a policy that crosses WORKSHOP and for a record freed under WORKSHOP (R75, R80). -/
theorem FaultTable.Ok.clean_request (h : t.Ok) (hr : t.recordOf u k = some r) (hs : r.state ≠ .latched) {pol : Policy}
    (hp : (r.withRowPolicy (c.rows.get k)).policy = pol) : (t.clean c u k).request = true ↔
      (r.policy = .workshop ∧ pol ≠ .workshop) ∨ (r.policy ≠ .workshop ∧ pol = .workshop)
      ∨ (pol = .workshop ∧ (t.clean c u k).table.recordOf u k = none) := by
  rw [h.clean_recordOf hr, FaultTable.clean_of_record hr]
  simp only [FaultRecord.beforeClean, if_neg hs, hp, Bool.or_eq_true, Bool.and_eq_true, beq_iff_eq, crossesWorkshop_iff,
    Option.isNone_iff_eq_none, or_assoc]

end

/-- Settles O24: the pair then holds what `FaultRecord.onClean` makes of its record, by state and policy in effect. -/
theorem cleanObservationHealsOrLatches : Obligations.CleanObservationHealsOrLatches := by
  intro t c u k hok
  refine ⟨FaultTable.clean_of_none, fun u' k' h => FaultTable.clean_recordOf_other h, FaultTable.clean_lost,
    FaultTable.clean_sweep, fun r pol dormant hr hrun hpol hdorm => ?_⟩
  have hw : r.withRowPolicy (c.rows.get k) = { r with policy := pol } := by rw [FaultRecord.withRowPolicy_eq, hpol]
  have hwp : (r.withRowPolicy (c.rows.get k)).policy = pol := by rw [hw]
  have hd : (r.withRowPolicy (c.rows.get k)).enterDormant (c.rows.get k) = dormant := by
    rw [FaultRecord.enterDormant_withRowPolicy, hw, hdorm]
  have hann := hok.clean_announce_iff (c := c) hr
  refine ⟨?_, FaultTable.clean_announce hr, fun hs hp => ?_, fun hs => ?_, FaultTable.clean_request_latched hr,
    fun hs => hok.clean_request hr hs hwp, fun hs => ?_, fun hs hp => ?_, fun hs hp => ?_, fun hs hp => ?_, fun hs => ?_,
    fun hs => ?_⟩
  · rw [hok.clean_tableFull hr, hok.clean_recordOf hr]
  · rw [hann, FaultRecord.onClean_latches hs (hwp ▸ hp)]
    exact .inr (by rcases hs with hs | hs <;> simp [slotView, FaultRecord.contained, hs])
  · rw [← Bool.not_eq_true, hann]
    rcases hs with hs | hs
    · simp [FaultRecord.onClean_latched hs]
    · simp [FaultRecord.onClean_dormant hs, slotView, FaultRecord.contained, hs]
  all_goals rw [hok.clean_recordOf hr]
  · rw [FaultRecord.onClean_pending hs, hd]
  · rw [FaultRecord.onClean_active_auto hs (hwp.trans hp), hd, hw]
  · rw [FaultRecord.onClean_clearing_auto hs (hwp.trans hp) hrun, hd, hw]
  · rw [FaultRecord.onClean_latches hs (hwp ▸ hp), hw]
  · rw [FaultRecord.onClean_latched hs]
  · rw [FaultRecord.onClean_dormant hs, hw]

end Sys2Proof.Machine
end

section
/-! PROOFS. Rows, images and latch lists read back as they were written (O21). -/

namespace Sys2Proof.Machine

open Sys2Proof

/-! ## Bytes at an offset (11 R189) -/

section
variable {α : Type} {pre post l : List Byte}

theorem toNat_byteOf {n : Nat} (h : n ≤ 255) : (byteOf n).toNat = n := by
  rw [byteOf, BitVec.toNat_ofNat]; omega

/-- Entries of one width, one after another. -/
theorem length_flatMap_of_width {f : α → List Byte} {w : Nat} (hw : ∀ x, (f x).length = w) (xs : List α) :
    (xs.flatMap f).length = w * xs.length := by
  simp [List.length_flatMap, hw, Nat.mul_comm]

theorem byteAt_append_left {j : Nat} (h : j < pre.length) : byteAt (pre ++ post) j = byteAt pre j :=
  List.getD_append _ _ _ _ h

theorem byteAt_append_right (j : Nat) : byteAt (pre ++ post) (pre.length + j) = byteAt post j := by
  rw [byteAt, List.getD_append_right _ _ _ _ (Nat.le_add_right _ _), Nat.add_sub_cancel_left]
  rfl

theorem byteAt_flatMap {f : α → List Byte} {w : Nat} (hw : ∀ x, (f x).length = w) {xs : List α} {n : Nat} {x : α}
    (hx : xs[n]? = some x) {j : Nat} (hj : j < w) : byteAt (xs.flatMap f) (w * n + j) = byteAt (f x) j := by
  induction xs generalizing n with
  | nil => cases hx
  | cons y ys ih =>
    rw [List.flatMap_cons]
    cases n with
    | zero =>
      obtain rfl : y = x := Option.some.inj hx
      rw [Nat.mul_zero, Nat.zero_add, byteAt_append_left (by rwa [hw])]
    | succ n =>
      rw [Nat.mul_succ, Nat.add_comm (w * n), Nat.add_assoc, ← hw y, byteAt_append_right, hw y]
      exact ih hx

/-- The entry in place `n` of a run of entries of one width, the first at offset `o` of a text. -/
theorem byteAt_entry {f : α → List Byte} {w o : Nat} {xs : List α} (hl : l = pre ++ xs.flatMap f ++ post)
    (ho : pre.length = o) (hw : ∀ x, (f x).length = w) {n : Nat} {x : α} (hx : xs[n]? = some x) {j : Nat} (hj : j < w) :
    byteAt l (o + w * n + j) = byteAt (f x) j := by
  have hn : n < xs.length := (List.getElem?_eq_some_iff.1 hx).1
  have hroom : w * n + w ≤ w * xs.length := Nat.mul_le_mul_left w (Nat.succ_le_of_lt hn)
  rw [hl, List.append_assoc, ← ho, Nat.add_assoc, byteAt_append_right,
    byteAt_append_left (by rw [length_flatMap_of_width hw]; omega), byteAt_flatMap hw hx hj]

/-- A text followed by its own CRC passes the CRC test (01 R3, 10 R179, R180). -/
theorem crc_follows {head : List Byte} {n : Nat} (h : head.length = n) :
    crcBytes ((head ++ crcBytes head).take n) = ((head ++ crcBytes head).drop n).take 2 := by
  rw [List.take_left' h, List.drop_left' h]
  exact (List.take_of_length_le (crcBytes_length head).le).symm

end

/-! ## Rows (04 R49, 11 R196, R197) -/

/-- The flags byte gives back the four flags and the policy. -/
theorem flags_read_back (en iso regen pack : Bool) (pol : Policy) {b : Byte}
    (hb : b = byteOf (flagBit 1 en + flagBit 2 iso + flagBit 4 regen + flagBit 8 pack + 16 * pol.code)) :
    b.getLsbD 0 = en ∧ b.getLsbD 1 = iso ∧ b.getLsbD 2 = regen ∧ b.getLsbD 3 = pack
      ∧ Policy.ofCode (b.toNat / 16) = some pol := by
  subst hb
  revert en iso regen pack
  cases pol <;> decide

/-- A bit of a byte, at its weight. -/
theorem flagBit_getLsbD (b : Byte) {w i : Nat} (hw : 2 ^ i = w) : flagBit w (b.getLsbD i) = w * (b.toNat / w % 2) := by
  rw [flagBit, BitVec.getLsbD, Nat.testBit_eq_decide_div_mod_eq, hw]
  rcases Nat.mod_two_eq_zero_or_one (b.toNat / w) with h | h <;> simp [h]

theorem Policy.code_of_ofCode {n : Nat} {p : Policy} (h : Policy.ofCode n = some p) : p.code = n := by
  unfold Policy.ofCode at h
  split at h <;> cases h <;> rfl

theorem Level.rank_of_ofCode {n : Nat} {a : Level} (h : Level.ofCode n = some a) : a.rank = n := by
  unfold Level.ofCode at h
  split at h <;> cases h <;> rfl

theorem Level.ofCode_rank (a : Level) : Level.ofCode a.rank = some a := by cases a <;> rfl

theorem Level.rank_le (a : Level) : a.rank ≤ 4 := by cases a <;> decide

/-- A row whose counts fit a byte is the row its six bytes spell (R196). -/
theorem Row.ofBytes_encode {r : Row} (h : r.confirm ≤ 255 ∧ r.heal ≤ 255 ∧ r.recur ≤ 255 ∧ r.derate ≤ 255) :
    Row.ofBytes r.encode = some r := by
  obtain ⟨hconfirm, hheal, hrecur, hderate⟩ := h
  obtain ⟨hen, hiso, hregen, hpack, hpol⟩ :=
    flags_read_back r.enabled r.isolate r.regenInhibit r.packOpen r.policy (b := r.encode.flags) rfl
  have hfloor : Level.ofCode r.encode.floor.toNat = some r.floor := by
    have hle := r.floor.rank_le
    rw [Row.encode, toNat_byteOf (by omega), Level.ofCode_rank]
  simp only [Row.ofBytes, hpol, hfloor, hen, hiso, hregen, hpack]
  simp only [Row.encode, toNat_byteOf, hconfirm, hheal, hrecur, hderate]

/-- Six bytes that spell a row are the row's six bytes (R196). -/
theorem Row.encode_of_ofBytes {b : RowBytes} {r : Row} (h : Row.ofBytes b = some r) : r.encode = b := by
  unfold Row.ofBytes at h
  split at h
  · next pol floor hpol hfloor =>
    have hflags : flagBit 1 (b.flags.getLsbD 0) + flagBit 2 (b.flags.getLsbD 1) + flagBit 4 (b.flags.getLsbD 2)
        + flagBit 8 (b.flags.getLsbD 3) + 16 * pol.code = b.flags.toNat := by
      rw [flagBit_getLsbD b.flags (w := 1) rfl, flagBit_getLsbD b.flags (w := 2) rfl,
        flagBit_getLsbD b.flags (w := 4) rfl, flagBit_getLsbD b.flags (w := 8) rfl, Policy.code_of_ofCode hpol]
      omega
    obtain rfl := Option.some.inj h
    simp only [Row.encode, hflags, Level.rank_of_ofCode hfloor, byteOf_toNat]
  · cases h

theorem Row.byte_bounds {r : Row} (h : r.inRange = true) :
    r.confirm ≤ 255 ∧ r.heal ≤ 255 ∧ r.recur ≤ 255 ∧ r.derate ≤ 255 := by
  simp only [Row.inRange, Bool.and_eq_true, decide_eq_true_eq] at h
  omega

theorem Row.decode_encode {r : Row} (h : r.inRange = true) : Row.decode r.encode = some r := by
  rw [Row.decode, Row.ofBytes_encode (Row.byte_bounds h), Option.filter_some, if_pos h]

theorem Row.encode_of_decode {b : RowBytes} {r : Row} (h : Row.decode b = some r) : r.inRange = true ∧ r.encode = b := by
  obtain ⟨hb, hr⟩ := Option.filter_eq_some_iff.1 h
  exact ⟨hr, Row.encode_of_ofBytes hb⟩

/-! ## The configuration image (11 R196, R197) -/

section
variable (c : Copy)

/-- The parameters of an image take 58 bytes, its rows 168. -/
theorem imageParams_length : (Param.all.flatMap fun p => be16 (c.params.get p)).length = 58 :=
  length_flatMap_of_width (w := 2) (fun _ => rfl) _

theorem imageRows_length : (Kind.all.flatMap fun k => rowBytesList (c.rows.get k).encode).length = 168 :=
  length_flatMap_of_width (w := 6) (fun _ => rfl) _

theorem imageHead_length : (imageHead c).length = 230 := by
  simp only [imageHead, List.length_append, imageParams_length, imageRows_length]
  rfl

theorem encodeImage_length : (encodeImage c).length = 232 := by
  rw [encodeImage, List.length_append, imageHead_length, crcBytes_length]

theorem encodeImage_crcGood : imageCrcGood (encodeImage c) = true :=
  beq_iff_eq.2 (crc_follows (imageHead_length c))

theorem encodeImage_headerGood : imageHeaderGood (encodeImage c) = true := by
  have h : ∀ j, j < 4 → byteAt (encodeImage c) j
      = byteAt (be16 Config.imageVersion ++ be16 Config.imageLength) j := fun j hj => by
    rw [encodeImage, imageHead, List.append_assoc, List.append_assoc, byteAt_append_left hj]
  rw [imageHeaderGood, u16At, u16At, u8At, u8At, u8At, u8At, h 0 (by omega), h 1 (by omega), h 2 (by omega),
    h 3 (by omega)]
  decide

/-- Parameter n stands at 4 + 2n (R196). -/
theorem encodeImage_byteAt_param (p : Param) {j : Nat} (hj : j < 2) :
    byteAt (encodeImage c) (4 + 2 * p.number + j) = byteAt (be16 (c.params.get p)) j :=
  byteAt_entry (pre := be16 Config.imageVersion ++ be16 Config.imageLength) (f := fun p => be16 (c.params.get p))
    (List.append_assoc _ _ _) rfl (fun _ => rfl) (Param.ofNumber_number p) hj

/-- The row of kind c stands at 62 + 6c (R196). -/
theorem encodeImage_byteAt_row (k : Kind) {j : Nat} (hj : j < 6) :
    byteAt (encodeImage c) (62 + 6 * k.code + j) = byteAt (rowBytesList (c.rows.get k).encode) j :=
  byteAt_entry (f := fun k => rowBytesList (c.rows.get k).encode) rfl
    (by rw [List.length_append, imageParams_length]; rfl) (fun _ => rfl) (Kind.ofCode_code k) hj

theorem imageParam_encodeImage {p : Param} (h : c.params.get p ≤ 65535) :
    imageParam (encodeImage c) p = c.params.get p := by
  have hhigh : u8At (encodeImage c) (4 + 2 * p.number) = (byteOf (c.params.get p / 256)).toNat :=
    congrArg BitVec.toNat (encodeImage_byteAt_param c p (j := 0) (by omega))
  have hlow : u8At (encodeImage c) (4 + 2 * p.number + 1) = (byteOf (c.params.get p)).toNat :=
    congrArg BitVec.toNat (encodeImage_byteAt_param c p (by omega))
  rw [imageParam, u16At, hhigh, hlow, byteOf, byteOf, BitVec.toNat_ofNat, BitVec.toNat_ofNat]
  omega

theorem rowBytesAt_encodeImage (k : Kind) : rowBytesAt (encodeImage c) (62 + 6 * k.code) = (c.rows.get k).encode := by
  have h : ∀ j, j < 6 → _ := fun j => encodeImage_byteAt_row c k (j := j)
  exact (RowBytes.mk.injEq ..).mpr ⟨h 0 (by omega), h 1 (by omega), h 2 (by omega), h 3 (by omega), h 4 (by omega),
    h 5 (by omega)⟩

theorem Param.high_le (p : Param) : p.high ≤ 65535 := by cases p <;> decide

variable {c}

theorem Params.inRange.get_le (h : c.params.inRange) (p : Param) : c.params.get p ≤ 65535 := by
  have hp := h p
  rw [Param.inRange, Bool.and_eq_true, decide_eq_true_eq, decide_eq_true_eq] at hp
  exact hp.2.trans p.high_le

/-- An image gives back the copy it was composed of. -/
theorem imageCopy_encodeImage (hp : c.params.inRange) (hr : ∀ k, (c.rows.get k).confirm ≤ 255
    ∧ (c.rows.get k).heal ≤ 255 ∧ (c.rows.get k).recur ≤ 255 ∧ (c.rows.get k).derate ≤ 255) :
    imageCopy (encodeImage c) = c := by
  have hparams : imageParam (encodeImage c) = c.params.get := funext fun p => imageParam_encodeImage c (hp.get_le p)
  simp only [imageCopy, hparams, rowBytesAt_encodeImage, Row.ofBytes_encode (hr _), Option.getD_some]
  rfl

/-- The image of a copy in its ranges, with the locked rows built-in and the relations met, passes the load tests. -/
theorem imageFailure_encodeImage (hp : c.params.inRange) (hr : ∀ k, (c.rows.get k).inRange = true)
    (hl : c.rows.lockedBuiltin) (hrel : c.relationFailure = none) : imageFailure (encodeImage c) = none := by
  have hparam : ∀ p, imageParam (encodeImage c) p = c.params.get p := fun p => imageParam_encodeImage c (hp.get_le p)
  have hrow : ∀ k, imageRow (encodeImage c) k = some (c.rows.get k) := fun k => by
    rw [imageRow, rowBytesAt_encodeImage, Row.decode_encode (hr k)]
  have hparams : imageParamFailure (encodeImage c) = none := by
    simpa [imageParamFailure, hparam] using fun p _ => hp p
  have hrows : imageRowFailure (encodeImage c) = none := by
    simp [imageRowFailure, hrow]
  have hlocked : imageLockedFailure (encodeImage c) = none := by
    simpa [imageLockedFailure, hrow] using fun k _ => hl k
  rw [imageFailure, imageRangeFailure, hparams, hrows, hlocked,
    imageCopy_encodeImage hp fun k => Row.byte_bounds (hr k), hrel]
  rfl

theorem testImage_encodeImage (hp : c.params.inRange) (hr : ∀ k, (c.rows.get k).inRange = true)
    (hl : c.rows.lockedBuiltin) (hrel : c.relationFailure = none) : testImage (encodeImage c) = .valid c := by
  rw [testImage, if_pos (encodeImage_crcGood c), if_pos (encodeImage_headerGood c),
    imageFailure_encodeImage hp hr hl hrel, imageCopy_encodeImage hp fun k => Row.byte_bounds (hr k)]

end

/-! ## The latch list (10 R180, 11 R198, R199) -/

theorem FaultUnit.ofCode_code (u : FaultUnit) : FaultUnit.ofCode u.code = some u := by cases u <;> rfl

theorem FaultUnit.code_le (u : FaultUnit) : u.code ≤ 4 := by cases u <;> decide

theorem Kind.code_le (k : Kind) : k.code ≤ 27 := by cases k <;> decide

section
variable {es : List LatchEntry}

theorem latchHead_length (h : es.length ≤ 8) : (latchHead es).length = 25 := by
  rw [latchHead, List.length_cons, List.length_append, length_flatMap_of_width (w := 3) fun _ => rfl,
    List.length_replicate, Config.latchPlaces]
  omega

theorem encodeLatches_length (h : es.length ≤ 8) : (encodeLatches es).length = 27 := by
  rw [encodeLatches, List.length_append, latchHead_length h, crcBytes_length]

theorem encodeLatches_crc (h : es.length ≤ 8) :
    crcBytes ((encodeLatches es).take 25) = ((encodeLatches es).drop 25).take 2 :=
  crc_follows (latchHead_length h)

theorem encodeLatches_count (h : es.length ≤ 8) : u8At (encodeLatches es) 0 = es.length :=
  toNat_byteOf (by omega)

/-- The entry of position i stands at 1 + 3i (R199). -/
theorem encodeLatches_byteAt {i : Nat} {e : LatchEntry} (he : es[i]? = some e) {j : Nat} (hj : j < 3) :
    byteAt (encodeLatches es) (1 + 3 * i + j) = byteAt e.encode j :=
  byteAt_entry (pre := [byteOf es.length]) (f := LatchEntry.encode)
    (congrArg (byteOf es.length :: ·) (List.append_assoc _ _ _)) rfl (fun _ => rfl) he hj

/-- A sound entry is read from its position. -/
theorem latchEntryAt_encodeLatches {i : Nat} {e : LatchEntry} (he : es[i]? = some e) (hok : e.Ok) :
    latchEntryAt (encodeLatches es) i = some e := by
  have hocc := hok.2.2
  have hunit : u8At (encodeLatches es) (1 + 3 * i) = e.unit.code :=
    (congrArg BitVec.toNat (encodeLatches_byteAt he (j := 0) (by omega))).trans
      (toNat_byteOf (by have := e.unit.code_le; omega))
  have hkind : u8At (encodeLatches es) (2 + 3 * i) = e.kind.code := by
    rw [show 2 + 3 * i = 1 + 3 * i + 1 by omega, u8At, encodeLatches_byteAt he (by omega)]
    exact toNat_byteOf (by have := e.kind.code_le; omega)
  have hcount : u8At (encodeLatches es) (3 + 3 * i) = e.occurrences := by
    rw [show 3 + 3 * i = 1 + 3 * i + 2 by omega, u8At, encodeLatches_byteAt he (by omega)]
    exact toNat_byteOf (by omega)
  simp only [latchEntryAt, hunit, hkind, hcount, FaultUnit.ofCode_code, Kind.ofCode_code]
  exact if_pos hok

/-- The entries from position i on are read back. -/
theorem latchEntries_encodeLatches (hok : ∀ e ∈ es, e.Ok) {i n : Nat} (h : i + n = es.length) :
    latchEntries (encodeLatches es) i n = some (es.drop i) := by
  induction n generalizing i with
  | zero => rw [latchEntries, List.drop_eq_nil_of_le (by omega)]
  | succ n ih =>
    have hi : i < es.length := by omega
    rw [latchEntries, latchEntryAt_encodeLatches (List.getElem?_eq_getElem hi) (hok _ (List.getElem_mem hi)),
      ih (by omega), List.drop_eq_getElem_cons hi]

theorem testLatches_encodeLatches (h : es.length ≤ 8) (hok : ∀ e ∈ es, e.Ok) :
    testLatches (encodeLatches es) = .valid es := by
  rw [testLatches, if_pos (encodeLatches_crc h), encodeLatches_count h, Config.latchPlaces, if_pos h,
    latchEntries_encodeLatches hok (Nat.zero_add _), List.drop_zero]

end

/-- Settles O21: every field is an entry of one width at its offset (`byteAt_entry`). -/
theorem storedImageAndLatchListReadBack : Obligations.StoredImageAndLatchListReadBack :=
  ⟨⟨fun _ => Row.decode_encode, fun _ _ => Row.encode_of_decode⟩,
    fun c hp hr => ⟨encodeImage_length c, encodeImage_crcGood c, encodeImage_headerGood c, imageCopy_encodeImage hp hr,
      testImage_encodeImage hp⟩,
    fun _ h hok => ⟨encodeLatches_length h, testLatches_encodeLatches h hok⟩⟩

end Sys2Proof.Machine
end


section
/-! PROOFS. Evidence for a pair without a record (O23): the slot it takes, the record it makes, and what is lost. -/

namespace Sys2Proof.Machine

open Sys2Proof

/-! ## The oldest of some records (05 R76) -/

/-- The record in slot `i` is the oldest that `p` asks for, and in the lowest slot of those as old. -/
structure IsOldest (now : Time) (p : FaultRecord → Bool) (l : List (Option FaultRecord)) (i : Nat)
    (d : FaultRecord) : Prop where
  slot   : l[i]? = some (some d)
  asked  : p d = true
  oldest : ∀ j e, l[j]? = some (some e) → p e = true →
    e.evidenceAge now < d.evidenceAge now ∨ (e.evidenceAge now = d.evidenceAge now ∧ i ≤ j)

section
variable {now : Time} {p : FaultRecord → Bool}

/-- Among slots without a record that `p` asks for, the choice stays. -/
theorem oldestFrom_none {l : List (Option FaultRecord)} (h : ∀ e, some e ∈ l → p e = false) (n : Nat)
    (best : Option (Nat × Nat)) : oldestFrom now p l n best = best := by
  induction l generalizing n best with
  | nil => rfl
  | cons o l ih =>
    obtain ⟨ho, hl⟩ := List.forall_mem_cons.1 (show ∀ x ∈ o :: l, ∀ e, some e = x → p e = false from
      fun x hx e he => h e (he ▸ hx))
    have rest := ih fun e he => hl (some e) he e rfl
    cases o with
    | none => exact rest _ _
    | some r => simp [oldestFrom, rest, ho r rfl]

/-- A choice stays if none of the records after it is older. -/
theorem oldestFrom_keep {l : List (Option FaultRecord)} {d : Nat}
    (h : ∀ e, some e ∈ l → p e = true → e.evidenceAge now ≤ d) (n b : Nat) :
    oldestFrom now p l n (some (b, d)) = some (b, d) := by
  induction l generalizing n with
  | nil => rfl
  | cons o l ih =>
    have rest := ih fun e he => h e (List.mem_cons_of_mem _ he)
    cases o with
    | none => exact rest _
    | some r =>
      have hno : (p r && decide (d < r.evidenceAge now)) = false := by
        cases hp : p r with
        | false => rfl
        | true => simpa using h r List.mem_cons_self hp
      simp [oldestFrom, rest, hno]

theorem IsOldest.tail {o : Option FaultRecord} {l : List (Option FaultRecord)} {i : Nat} {d : FaultRecord}
    (h : IsOldest now p (o :: l) (i + 1) d) : IsOldest now p l i d := by
  obtain ⟨hi, hp, hold⟩ := h
  exact ⟨hi, hp, fun j e hj he => (hold (j + 1) e hj he).imp_right fun ⟨ha, hle⟩ => ⟨ha, Nat.le_of_succ_le_succ hle⟩⟩

/-- The oldest record's slot is chosen over every younger choice. -/
theorem oldestFrom_eq {l : List (Option FaultRecord)} {i : Nat} {d : FaultRecord} (h : IsOldest now p l i d) (n : Nat)
    (best : Option (Nat × Nat)) (hb : ∀ b a, best = some (b, a) → a < d.evidenceAge now) :
    oldestFrom now p l n best = some (n + i, d.evidenceAge now) := by
  induction l generalizing i n best with
  | nil => cases h.slot
  | cons o l ih =>
    cases i with
    | zero =>
      obtain ⟨hi, hp, hold⟩ := h
      obtain rfl : o = some d := by simpa using hi
      have keep := oldestFrom_keep (now := now) (p := p) (l := l) (d := d.evidenceAge now) (fun e he hpe => by
        obtain ⟨j, hj⟩ := List.mem_iff_getElem?.1 he
        rcases hold (j + 1) e hj hpe with hlt | ⟨heq, -⟩ <;> omega) (n + 1) n
      cases best with
      | none => simpa [oldestFrom, hp] using keep
      | some x => simpa [oldestFrom, hp, hb x.1 x.2 rfl] using keep
    | succ i =>
      have younger : ∀ r, o = some r → p r = true → r.evidenceAge now < d.evidenceAge now := fun r ho hpr =>
        (h.oldest 0 r (by simp [ho]) hpr).resolve_right fun ⟨_, hle⟩ => absurd hle (by omega)
      have rest := fun best hb => ih h.tail (n + 1) best hb
      rw [Nat.add_right_comm, Nat.add_assoc] at rest
      cases o with
      | none => exact rest best hb
      | some r =>
        refine rest _ fun b a hba => ?_
        rcases ite_eq_iff.1 hba with ⟨hc, hnew⟩ | ⟨-, hold⟩
        · obtain ⟨-, rfl⟩ := Prod.mk.inj (Option.some.inj hnew)
          exact younger r rfl (Bool.and_eq_true_iff.1 hc).1
        · exact hb b a hold

end

/-! ## The slot for a new record (05 R67, R76) -/

section
variable {t : FaultTable} {now : Time} {i : Nat} {d : FaultRecord}

theorem FaultTable.slot_eq_some_iff {r : FaultRecord} : t.slot i = some r ↔ t.slots[i]? = some (some r) :=
  Option.join_eq_some_iff

theorem FaultTable.slot_eq_none_iff (h : i < t.slots.length) : t.slot i = none ↔ t.slots[i] = none := by
  simp [FaultTable.slot, h]

theorem FaultTable.emptySlot_eq_some (h : i < t.slots.length) (hi : t.slot i = none)
    (hlow : ∀ j, j < i → t.slot j ≠ none) : t.emptySlot = some i := by
  refine List.findIdx?_eq_some_iff_getElem.2 ⟨h, ?_, fun j hj => ?_⟩
  · simpa using (FaultTable.slot_eq_none_iff h).1 hi
  · simpa using mt (FaultTable.slot_eq_none_iff (Nat.lt_trans hj h)).2 (hlow j hj)

theorem FaultTable.emptySlot_eq_none (h : ∀ j, j < t.slots.length → t.slot j ≠ none) : t.emptySlot = none := by
  refine List.findIdx?_eq_none_iff.2 fun o ho => ?_
  obtain ⟨j, hj, rfl⟩ := List.getElem_of_mem ho
  simpa [Option.isSome_iff_ne_none] using mt (FaultTable.slot_eq_none_iff hj).2 (h j hj)

/-- The table's own words for the oldest record of a sort. -/
theorem FaultTable.isOldest {p : FaultRecord → Bool} (hi : t.slot i = some d) (hp : p d = true)
    (hold : ∀ j e, t.slot j = some e → p e = true →
      e.evidenceAge now < d.evidenceAge now ∨ (e.evidenceAge now = d.evidenceAge now ∧ i ≤ j)) :
    IsOldest now p t.slots i d :=
  ⟨FaultTable.slot_eq_some_iff.1 hi, hp, fun j e hj => hold j e (FaultTable.slot_eq_some_iff.2 hj)⟩

theorem FaultTable.oldestFrom_none {p : FaultRecord → Bool} (h : ∀ j e, t.slot j = some e → p e = false) :
    oldestFrom now p t.slots 0 none = none :=
  Machine.oldestFrom_none (fun e he => by
    obtain ⟨j, hj⟩ := FaultTable.exists_slot_of_mem (mem_records.2 he)
    exact h j e hj) 0 none

theorem FaultTable.oldestFrom_eq {p : FaultRecord → Bool} (h : IsOldest now p t.slots i d) :
    oldestFrom now p t.slots 0 none = some (i, d.evidenceAge now) := by
  simpa using Machine.oldestFrom_eq h 0 none nofun

/-- The three sorts of slot that a new record takes: the lowest empty one; with none, that of the oldest DORMANT record;
with none, that of the oldest PENDING record that never was confirmed. -/
def FaultTable.TakenByNew (t : FaultTable) (now : Time) (i : Nat) : Prop :=
  (t.slot i = none ∧ ∀ j, j < i → t.slot j ≠ none)
  ∨ ((∀ j, j < t.slots.length → t.slot j ≠ none)
      ∧ ∃ d, t.slot i = some d ∧ d.state = .dormant
        ∧ ∀ j e, t.slot j = some e → e.state = .dormant →
          e.evidenceAge now < d.evidenceAge now ∨ (e.evidenceAge now = d.evidenceAge now ∧ i ≤ j))
  ∨ ((∀ j e, t.slot j = some e → e.state ≠ .dormant) ∧ (∀ j, j < t.slots.length → t.slot j ≠ none)
      ∧ ∃ d, t.slot i = some d ∧ d.state = .pending ∧ d.occurrences = 0
        ∧ ∀ j e, t.slot j = some e → e.state = .pending → e.occurrences = 0 →
          e.evidenceAge now < d.evidenceAge now ∨ (e.evidenceAge now = d.evidenceAge now ∧ i ≤ j))

theorem FaultTable.TakenByNew.slotForNew (h : t.TakenByNew now i) (hi : i < t.slots.length) :
    t.slotForNew now = some i := by
  rcases h with ⟨hempty, hlow⟩ | ⟨hfull, d, hd, hs, hold⟩ | ⟨hnone, hfull, d, hd, hs, ho, hold⟩
  · simp [FaultTable.slotForNew, FaultTable.emptySlot_eq_some hi hempty hlow]
  · have oldest := FaultTable.oldestFrom_eq (FaultTable.isOldest (now := now) (p := fun r => r.state == .dormant) hd
      (by simp [hs]) fun j e hj he => hold j e hj (by simpa using he))
    simp [FaultTable.slotForNew, FaultTable.emptySlot_eq_none hfull, FaultTable.evictSlot, oldest]
  · have noDormant := FaultTable.oldestFrom_none (now := now) (p := fun r => r.state == .dormant) fun j e hj => by
      simpa using hnone j e hj
    have oldest := FaultTable.oldestFrom_eq (FaultTable.isOldest (now := now)
      (p := fun r => r.state == .pending && r.occurrences == 0) hd (by simp [hs, ho]) fun j e hj he => by
        obtain ⟨hes, heo⟩ := Bool.and_eq_true_iff.1 he
        exact hold j e hj (by simpa using hes) (by simpa using heo))
    simp [FaultTable.slotForNew, FaultTable.emptySlot_eq_none hfull, FaultTable.evictSlot, noDormant, oldest]

/-- What a new record replaces was not contained (R76). -/
theorem FaultTable.TakenByNew.slotView (h : t.TakenByNew now i) : slotView (t.slot i) = (false, false) := by
  rcases h with ⟨hempty, -⟩ | ⟨-, d, hd, hs, -⟩ | ⟨-, -, d, hd, hs, -⟩
  · rw [hempty]; rfl
  · simp [hd, Machine.slotView, FaultRecord.contained, hs]
  · simp [hd, Machine.slotView, FaultRecord.contained, hs]

/-- A table of records of which none may be evicted has no slot for a new one. -/
theorem FaultTable.slotForNew_eq_none (h : ∀ j, j < t.slots.length → ∃ e, t.slot j = some e ∧ e.state ≠ .dormant
    ∧ (e.state = .pending → 0 < e.occurrences)) : t.slotForNew now = none := by
  have held : ∀ j e, t.slot j = some e → e.state ≠ .dormant ∧ (e.state = .pending → 0 < e.occurrences) :=
    fun j e hj => by
      obtain ⟨hlt, -⟩ := List.getElem?_eq_some_iff.1 (FaultTable.slot_eq_some_iff.1 hj)
      obtain ⟨e', he', hrest⟩ := h j hlt
      exact Option.some.inj (hj.symm.trans he') ▸ hrest
  have full : t.emptySlot = none := FaultTable.emptySlot_eq_none fun j hj => by
    obtain ⟨e, he, -⟩ := h j hj
    simp [he]
  have noDormant := FaultTable.oldestFrom_none (now := now) (p := fun r => r.state == .dormant) fun j e hj => by
    simpa using (held j e hj).1
  have noPending := FaultTable.oldestFrom_none (now := now) (p := fun r => r.state == .pending && r.occurrences == 0)
    fun j e hj => by
      have := (held j e hj).2
      simp only [Bool.and_eq_false_iff, beq_eq_false_iff_ne]
      by_cases hs : e.state = .pending
      · exact .inr (Nat.ne_of_gt (this hs))
      · exact .inl hs
  simp [FaultTable.slotForNew, full, FaultTable.evictSlot, noDormant, noPending]

end

/-! ## The record made (05 R67, R69) -/

section
variable {row : Row} {now : Time} {u : FaultUnit} {k : Kind} {v : Option EvidenceValue}

/-- The first evidence confirms where N_c is 1 or less (R68). -/
theorem FaultRecord.made_meetsConfirm : (FaultRecord.made row now u k v).meetsConfirm row = decide (row.confirm ≤ 1) :=
  rfl

theorem FaultRecord.confirmIfMet_made_pending (h : 1 < row.confirm) :
    (FaultRecord.made row now u k v).confirmIfMet row now = FaultRecord.made row now u k v :=
  if_neg (by simpa [FaultRecord.made_meetsConfirm] using h)

theorem FaultRecord.confirmIfMet_made_active (h : row.confirm ≤ 1) :
    (FaultRecord.made row now u k v).confirmIfMet row now = (FaultRecord.made row now u k v).confirm row now :=
  if_pos (by simpa [FaultRecord.made_meetsConfirm] using h)

/-- A first confirmation escalates under K 1 alone (R69). -/
theorem FaultRecord.confirm_made : (FaultRecord.made row now u k v).confirm row now =
    { FaultRecord.made row now u k v with
      occurrences := 1
      firstConfirmed := some now
      escalated := decide (row.recur = 1)
      policy := if row.recur = 1 then .workshop else row.policy
      state := .active
      run := 0 } := by
  have hesc : (decide (0 < row.recur) && decide (row.recur ≤ 1)) = decide (row.recur = 1) := by
    rw [← Bool.decide_and]
    exact decide_eq_decide.2 (by omega)
  simp [FaultRecord.confirm, FaultRecord.made, bumpTo, hesc]

/-- Confirmed at once or not, the new record is the pair's, with this evidence. -/
theorem FaultRecord.confirmIfMet_made_eq {r : FaultRecord}
    (h : (FaultRecord.made row now u k v).confirmIfMet row now = r) : r.unit = u ∧ r.kind = k ∧ r.lastEvidence = now
      ∧ r.age = 0 ∧ r.mark = false ∧ r.value = if k.carriesValue then v else none := by
  subst h
  unfold FaultRecord.confirmIfMet
  split <;> exact ⟨rfl, rfl, rfl, rfl, rfl, rfl⟩

theorem slotView_confirmIfMet_made :
    slotView (some ((FaultRecord.made row now u k v).confirmIfMet row now)) = (decide (row.confirm ≤ 1), false) := by
  by_cases h : row.confirm ≤ 1
  · simp [FaultRecord.confirmIfMet_made_active h, slotView, FaultRecord.contained, h]
  · rw [FaultRecord.confirmIfMet_made_pending (Nat.lt_of_not_le h)]
    simp [slotView, FaultRecord.contained, FaultRecord.made, h]

end

/-! ## The event (05 R75 to R78, R87) -/

section
variable {t : FaultTable} {c : Copy} {row : Row} {now : Time} {u : FaultUnit} {k : Kind} {v : Option EvidenceValue}
  {i : Nat}

theorem FaultTable.slot_place (h : i < t.slots.length) (r : FaultRecord) (j : Nat) :
    (t.place i r).slot j = if j = i then some r else t.slot j := by
  simp only [FaultTable.slot, FaultTable.place, List.getElem?_set]
  split
  · next hij => simp [← hij]
  · next hij => rw [if_neg (Ne.symm hij)]

theorem FaultTable.evidence_of_none (he : (c.rows.get k).enabled = true) (hr : t.recordOf u k = none) :
    t.evidence c now u k v = t.evidenceNew (c.rows.get k) now u k v := by
  simp [FaultTable.evidence, he, hr]

/-- The table with a new record in a slot; one that is confirmed at once suspends a running sweep (R87). -/
def FaultTable.placedNew (t : FaultTable) (row : Row) (i : Nat) (r : FaultRecord) : FaultTable :=
  { t.place i r with sweep := if row.confirm ≤ 1 then t.sweep.onConfirmation else t.sweep }

theorem FaultTable.slot_placedNew (h : i < t.slots.length) (r : FaultRecord) (j : Nat) :
    (t.placedNew row i r).slot j = if j = i then some r else t.slot j := FaultTable.slot_place h r j

theorem FaultTable.placedNew_length (r : FaultRecord) : (t.placedNew row i r).slots.length = t.slots.length :=
  List.length_set

theorem FaultTable.placedNew_sweep (r : FaultRecord) : (t.placedNew row i r).sweep =
    if row.confirm ≤ 1 ∧ t.sweep.state = .running then { t.sweep with state := .suspended } else t.sweep := by
  by_cases hc : row.confirm ≤ 1 <;> simp [FaultTable.placedNew, Sweep.onConfirmation, hc]

/-- A new record in the place of one that was not contained is announced for its confirmation and for TABLE_FULL. -/
theorem FaultTable.TakenByNew.announces_iff (h : t.TakenByNew now i) (hi : i < t.slots.length) {r : FaultRecord}
    (hr : (FaultRecord.made row now u k v).confirmIfMet row now = r) :
    announces t (t.placedNew row i r) = true ↔ row.confirm ≤ 1 ∨ (t.tableFull = true ∧ t.slot i ≠ none) := by
  have others : ∀ j, j ≠ i → (t.placedNew row i r).slot j = t.slot j := fun j hj => by
    rw [FaultTable.slot_placedNew hi, if_neg hj]
  have full : t.tableFull ≠ (t.placedNew row i r).tableFull ↔ t.tableFull = true ∧ t.slot i ≠ none := by
    simp [FaultTable.placedNew, FaultTable.place]
  rw [announces_one_slot (FaultTable.placedNew_length r) others, full, h.slotView, FaultTable.slot_placedNew hi,
    if_pos rfl, ← hr, slotView_confirmIfMet_made]
  simp [or_comm]

theorem FaultTable.evidenceNew_placed (h : t.slotForNew now = some i) {r : FaultRecord}
    (hr : (FaultRecord.made row now u k v).confirmIfMet row now = r) : t.evidenceNew row now u k v =
      ⟨t.placedNew row i r, announces t (t.placedNew row i r),
        t.evictsWorkshop i || (decide (row.confirm ≤ 1) && r.policy == .workshop)⟩ := by
  subst hr
  by_cases hc : row.confirm ≤ 1
  · simp only [FaultTable.evidenceNew, h, FaultRecord.made_meetsConfirm, FaultTable.placedNew, hc, decide_true, if_true]
    rfl
  · simp only [FaultTable.evidenceNew, h, FaultRecord.made_meetsConfirm, FaultTable.placedNew, hc, decide_false,
      Bool.false_eq_true, if_false]
    rfl

theorem FaultTable.evidenceNew_lost (h : t.slotForNew now = none) : t.evidenceNew row now u k v =
    ⟨{ t with tableFull := true, lost := min 65535 (t.lost + 1) }, !t.tableFull, false⟩ := by
  have hl : t.lose = { t with tableFull := true, lost := min 65535 (t.lost + 1) } := by
    rw [FaultTable.lose, show bump t.lost = min 65535 (t.lost + 1) from bumpTo_eq_min 65535 _]
  simp only [FaultTable.evidenceNew, h, hl, announces]
  simp

theorem FaultTable.evictsWorkshop_eq_true :
    t.evictsWorkshop i = true ↔ ∃ d, t.slot i = some d ∧ d.policy = .workshop := by
  unfold FaultTable.evictsWorkshop
  split <;> simp_all

end

/-- Settles O23: the slot is the one that `FaultTable.slotForNew` gives, and what it then holds is the record made,
confirmed where N_c is 1 or less. -/
theorem evidenceMakesOrLosesRecord : Obligations.EvidenceMakesOrLosesRecord := by
  intro t c now u k v hr
  refine ⟨FaultTable.evidence_disabled, fun hen => ?_⟩
  rw [FaultTable.evidence_of_none hen hr]
  generalize c.rows.get k = row
  refine ⟨fun i hi htaken => ?_, fun hheld => FaultTable.evidenceNew_lost (FaultTable.slotForNew_eq_none hheld)⟩
  have taken : t.TakenByNew now i := htaken
  obtain ⟨r, hmade⟩ : ∃ r, (FaultRecord.made row now u k v).confirmIfMet row now = r := ⟨_, rfl⟩
  obtain ⟨hunit, hkind, hlast, hage, hmark, hvalue⟩ := FaultRecord.confirmIfMet_made_eq hmade
  rw [FaultTable.evidenceNew_placed (taken.slotForNew hi) hmade]
  refine ⟨r, ?_, hunit, hkind, hlast, hage, hmark, hvalue, fun hc => ?_, fun hc => ?_, fun j hj => ?_, rfl, rfl,
    FaultTable.placedNew_sweep r, announces_iff (FaultTable.placedNew_length r), taken.announces_iff hi hmade, ?_⟩
  · rw [FaultTable.slot_placedNew hi, if_pos rfl]
  · rw [← hmade, FaultRecord.confirmIfMet_made_pending hc]
    exact ⟨rfl, rfl, rfl, rfl, rfl, rfl⟩
  · rw [← hmade, FaultRecord.confirmIfMet_made_active hc, FaultRecord.confirm_made]
    exact ⟨rfl, rfl, rfl, rfl, decide_eq_true_iff, rfl⟩
  · rw [FaultTable.slot_placedNew hi, if_neg hj]
  · simp only [Bool.or_eq_true, Bool.and_eq_true, decide_eq_true_eq, beq_iff_eq, FaultTable.evictsWorkshop_eq_true]
    exact or_comm

end Sys2Proof.Machine
end


section
/-! PROOFS. Ageing (O25): what a RECORD_TICK expiry makes of each slot, and what it hands on. -/

namespace Sys2Proof.Machine

open Sys2Proof

/-! ## A record under a tick (05 R72) -/

section
variable {c : Copy} {r : FaultRecord}

/-- A record of these states does not age. -/
theorem FaultRecord.onTick_contained (h : r.state = .active ∨ r.state = .clearing ∨ r.state = .latched) :
    r.onTick c = some r := by
  rcases h with h | h | h <;> simp [FaultRecord.onTick, h]

/-- Short of the window a PENDING or DORMANT record ages. -/
theorem FaultRecord.onTick_ages (h : r.state = .pending ∨ r.state = .dormant) (ha : r.age < 65535)
    (hw : r.age + 1 < c.params.dormantWindow) : r.onTick c = some { r with age := r.age + 1 } := by
  have hlt : ¬ c.params.dormantWindow ≤ r.age + 1 := Nat.not_le.2 hw
  rcases h with h | h <;> simp [FaultRecord.onTick, h, bumpTo, Config.counterMax, ha, hlt]

theorem FaultRecord.onTick_dormant_over (h : r.state = .dormant) (hw : c.params.dormantWindow ≤ r.age + 1)
    (ha : r.age < 65535) : r.onTick c = none := by
  simp [FaultRecord.onTick, h, bumpTo, Config.counterMax, ha, hw]

/-- At the window a PENDING record with an occurrence falls back, where its row lets it (R71, 04 R54). -/
theorem FaultRecord.onTick_pending_over (h : r.state = .pending) (hw : c.params.dormantWindow ≤ r.age + 1)
    (ha : r.age < 65535) : r.onTick c = if 0 < r.occurrences ∧ (c.rows.get r.kind).enabled = true then
      some { r with state := .dormant, run := 0, age := 0 } else none := by
  simp [FaultRecord.onTick, FaultRecord.enterDormant, h, bumpTo, Config.counterMax, ha, hw, ite_and]

end

/-! ## An event that changes records one by one (05 R75) -/

/-- TABLE_FULL stays exactly if no slot is freed. -/
theorem FaultTable.update_tableFull_iff {t : FaultTable} {f : FaultRecord → Option FaultRecord} :
    (t.update f).tableFull = true ↔
      t.tableFull = true ∧ ∀ i r, t.slot i = some r → (t.update f).slot i ≠ none := by
  have frees : (∀ o ∈ t.slots, o.isNone = true ∨ (o.bind f).isSome = true) ↔
      ∀ i r, t.slot i = some r → (t.update f).slot i ≠ none := by
    refine ⟨fun h i r hi => ?_, fun h o ho => ?_⟩
    · simpa [hi, Option.isSome_iff_ne_none] using h _ (mem_records.1 (slot_mem hi))
    · cases o with
      | none => exact .inl rfl
      | some r =>
        obtain ⟨i, hi⟩ := FaultTable.exists_slot_of_mem (mem_records.2 ho)
        exact .inr (by simpa [hi, Option.isSome_iff_ne_none] using h i r hi)
  rw [← frees]
  simp [FaultTable.update]

/-! ## The expiry (03 R36, R43) -/

section
variable {s : State}

theorem exec_recordTickExpiry (h : s.expiryInForce .recordTick = true) : exec .recordTickExpiry s
    = .next ((s.afterExpiry .recordTick).tableEvent (s.table.tick s.working)) :=
  congrArg Host.Outcome.next (if_pos h)

/-- The tick channel reloads, so an expiry taken with none owed leaves it running again (03 R36, R43; log 4). -/
theorem State.afterExpiry_recordTick (hf : s.expiryInForce .recordTick = true)
    (ho : s.owes (Owed.isExpiry .recordTick) = false) :
    (s.afterExpiry .recordTick).timers.get .recordTick = ⟨.running, 1, 0⟩ := by
  have hnone : s.owed.find? (Owed.isExpiry .recordTick) = none := by
    simpa [State.owes_expiry_iff] using ho
  have hrun : (s.timers.get .recordTick).state = .running := by
    simpa [State.expiryInForce, hnone] using hf
  simp [State.afterExpiry, ho, hrun, Channel.expired_reload (c := .recordTick) rfl, Chan.reloadValue]

end

/-- Settles O25: the event is `FaultRecord.onTick` in every slot, so each clause on a record is one of its cases. -/
theorem recordTickAgesRecords : Obligations.RecordTickAgesRecords := by
  intro s hf
  have hslot : ∀ i, (s.table.tick s.working).table.slot i = (s.table.slot i).bind (FaultRecord.onTick s.working) :=
    FaultTable.slot_update _
  refine ⟨_, exec_recordTickExpiry hf, fun i hi => ?_, fun i r hi => ?_, rfl, rfl, FaultTable.update_tableFull_iff,
    ⟨_, rfl, FaultTable.updateEvent_notifies _ _⟩, State.afterExpiry_recordTick hf, rfl⟩
  · exact (hslot i).trans (by rw [hi]; rfl)
  · have hr : ((s.afterExpiry .recordTick).tableEvent (s.table.tick s.working)).table.slot i = r.onTick s.working :=
      (hslot i).trans (by rw [hi]; rfl)
    rw [hr]
    exact ⟨FaultRecord.onTick_contained, FaultRecord.onTick_ages, FaultRecord.onTick_dormant_over,
      FaultRecord.onTick_pending_over⟩

end Sys2Proof.Machine
end


section
/-! PROOFS. The sweep's examinations (O26): what one frees, passes or stops at, and where the sweep goes from it. -/

namespace Sys2Proof.Machine

open Sys2Proof

section
variable {t t' : FaultTable} {w : Sweep} {o : Option FaultRecord}

/-! ## How an examination finds a slot (05 R85) -/

/-- A sweep examines the records that are marked and match its filters, and no other. -/
theorem Sweep.examines_of_skipped {r : FaultRecord} (h : ¬ (r.mark = true ∧ w.matchesRecord r = true)) :
    w.examines (some r) = .passes := by
  rw [← Bool.and_eq_true_iff] at h
  exact if_neg h

theorem Sweep.examines_of_sought {r : FaultRecord} (hm : r.mark = true) (hf : w.matchesRecord r = true) :
    w.examines (some r) = match r.state with
      | .latched | .dormant => .frees
      | .pending | .active | .clearing => if w.mode = .stopAtLive then .live else .passes := by
  cases hs : r.state <;> cases hmode : w.mode <;> simp [Sweep.examines, hm, hf, hs, hmode]

theorem Sweep.examines_frees_iff : w.examines o = .frees ↔ ∃ r, o = some r ∧ r.mark = true
    ∧ w.matchesRecord r = true ∧ (r.state = .latched ∨ r.state = .dormant) := by
  cases o with
  | none => simp [Sweep.examines]
  | some r =>
    by_cases h : r.mark = true ∧ w.matchesRecord r = true
    · obtain ⟨hm, hf⟩ := h
      cases hs : r.state <;> simp [Sweep.examines_of_sought hm hf, hm, hf, hs, ite_eq_iff]
    · simp [Sweep.examines_of_skipped h, ← and_assoc, h]

theorem Sweep.examines_live_iff : w.examines o = .live ↔ ∃ r, o = some r ∧ r.mark = true
    ∧ w.matchesRecord r = true ∧ (r.state = .pending ∨ r.state = .active ∨ r.state = .clearing)
    ∧ w.mode = .stopAtLive := by
  cases o with
  | none => simp [Sweep.examines]
  | some r =>
    by_cases h : r.mark = true ∧ w.matchesRecord r = true
    · obtain ⟨hm, hf⟩ := h
      cases hs : r.state <;> simp [Sweep.examines_of_sought hm hf, hm, hf, hs]
    · simp [Sweep.examines_of_skipped h, ← and_assoc, h]

/-! ## Slots freed and marks cleared (05 R75, R86) -/

/-- A record without its sweep mark. -/
def FaultRecord.unmarked (r : FaultRecord) : FaultRecord := { r with mark := false }

theorem slotView_unmarked (o : Option FaultRecord) : slotView (o.map FaultRecord.unmarked) = slotView o := by
  cases o <;> rfl

theorem FaultTable.slot_endSweep (e : SweepOutcome) (i : Nat) :
    (t.endSweep e).slot i = (t.slot i).map FaultRecord.unmarked := by
  simp only [FaultTable.slot, FaultTable.endSweep, FaultTable.markAll, List.getElem?_map]
  rcases t.slots[i]? with _ | x <;> rfl

theorem FaultTable.slot_free (i j : Nat) : (t.free i).table.slot j = if j = i then none else t.slot j := by
  simp only [FaultTable.slot, FaultTable.free, List.getElem?_set]
  split
  · next h => split <;> simp [h]
  · next h => rw [if_neg (Ne.symm h)]

/-- An event is announced for what R78 looks at in the slots, slot by slot, and for TABLE_FULL. -/
theorem announces_congr {t'' : FaultTable} (hf : t''.tableFull = t'.tableFull) (hl : t''.slots.length = t'.slots.length)
    (hv : ∀ i, slotView (t''.slot i) = slotView (t'.slot i)) : announces t t'' = announces t t' := by
  have hslots : t''.slots.map slotView = t'.slots.map slotView := by
    refine List.ext_getElem (by simp [hl]) fun i h h' => ?_
    simp only [List.length_map] at h h'
    simpa [FaultTable.slot, h, h'] using hv i
  rw [announces, hf, hslots, announces]

theorem announces_self : announces t t = false := by simp [announces]

/-- What frees one slot at most loses a WORKSHOP record exactly if that slot held one. -/
theorem FaultTable.evictsWorkshop_iff {i : Nat} (hi : t'.slot i = none)
    (hrest : ∀ j, j ≠ i → t'.slot j = none → t.slot j = none) :
    t.evictsWorkshop i = true ↔ t.LosesWorkshop t' := by
  refine FaultTable.evictsWorkshop_eq_true.trans ⟨fun ⟨r, hr, hp⟩ => ⟨i, r, hr, hp, hi⟩, fun ⟨j, r, hj, hp, hn⟩ => ?_⟩
  by_cases hji : j = i
  · exact ⟨r, hji ▸ hj, hp⟩
  · simp [hrest j hji hn] at hj

/-! ## Where the sweep goes (05 R85, R86) -/

/-- The sweep's next state and outcome from an examination that freed or passed. -/
def Sweep.goesTo (w : Sweep) : SweepState × SweepOutcome :=
  if w.remaining ≤ 1 then (.idle, .countDone)
  else if 39 ≤ w.cursor then (.idle, .endOfTable)
  else (.running, w.outcome)

/-- The end tests move the counts, and clear every mark where the sweep ends. -/
theorem FaultTable.advance_eq (h : t.sweep.state = .running) : t.advance =
    { t with
      slots := if t.sweep.goesTo.1 = .idle then t.slots.map (Option.map FaultRecord.unmarked) else t.slots
      sweep := { t.sweep with
        state := t.sweep.goesTo.1, outcome := t.sweep.goesTo.2, remaining := t.sweep.remaining - 1
        cursor := t.sweep.cursor + 1 } } := by
  by_cases hr : t.sweep.remaining ≤ 1
  · have hz : t.sweep.remaining - 1 = 0 := by omega
    simp only [FaultTable.advance, Sweep.goesTo, hr, hz, if_true]
    rfl
  · have hz : t.sweep.remaining - 1 ≠ 0 := by omega
    by_cases hc : 39 ≤ t.sweep.cursor
    · have hc' : Config.slotCount ≤ t.sweep.cursor + 1 := Nat.succ_le_succ hc
      simp only [FaultTable.advance, Sweep.goesTo, hr, hz, hc, hc', if_true, if_false]
      rfl
    · have hc' : ¬ Config.slotCount ≤ t.sweep.cursor + 1 := mt Nat.le_of_succ_le_succ hc
      simp only [FaultTable.advance, Sweep.goesTo, hr, hz, hc, hc', if_false, h, reduceCtorEq]

theorem FaultTable.slot_advance (h : t.sweep.state = .running) (i : Nat) : t.advance.slot i =
    if t.sweep.goesTo.1 = .idle then (t.slot i).map FaultRecord.unmarked else t.slot i := by
  rw [FaultTable.advance_eq h]
  split
  · simp only [FaultTable.slot, List.getElem?_map]
    rcases t.slots[i]? with _ | x <;> rfl
  · rfl

/-- The sweep goes on, or ends at its count before it ends at the table. -/
theorem FaultTable.advance_goes (h : t.sweep.state = .running) : ∃ e st,
    t.advance.sweep = { t.sweep with
      state := st, outcome := e, remaining := t.sweep.remaining - 1, cursor := t.sweep.cursor + 1 }
    ∧ (t.sweep.remaining ≤ 1 → st = .idle ∧ e = .countDone)
    ∧ (2 ≤ t.sweep.remaining → 39 ≤ t.sweep.cursor → st = .idle ∧ e = .endOfTable)
    ∧ (2 ≤ t.sweep.remaining → t.sweep.cursor < 39 → st = .running ∧ e = t.sweep.outcome)
    ∧ ∀ i, t.advance.slot i = if st = .idle then (t.slot i).map FaultRecord.unmarked else t.slot i := by
  refine ⟨t.sweep.goesTo.2, t.sweep.goesTo.1, by rw [FaultTable.advance_eq h], fun hr => ?_, fun hr hc => ?_,
    fun hr hc => ?_, FaultTable.slot_advance h⟩
  · simp [Sweep.goesTo, hr]
  · simp [Sweep.goesTo, Nat.not_le.2 (show 1 < t.sweep.remaining from hr), hc]
  · simp [Sweep.goesTo, Nat.not_le.2 (show 1 < t.sweep.remaining from hr), Nat.not_le.2 hc]

theorem FaultTable.slotView_advance (h : t.sweep.state = .running) (i : Nat) :
    slotView (t.advance.slot i) = slotView (t.slot i) := by
  rw [FaultTable.slot_advance h]
  split
  · exact slotView_unmarked _
  · rfl

theorem FaultTable.advance_slot_eq_none (h : t.sweep.state = .running) (i : Nat) :
    t.advance.slot i = none ↔ t.slot i = none := by
  rw [FaultTable.slot_advance h]
  split <;> simp

theorem FaultTable.advance_length (h : t.sweep.state = .running) : t.advance.slots.length = t.slots.length := by
  rw [FaultTable.advance_eq h]
  dsimp only
  split <;> simp

theorem FaultTable.advance_tableFull (h : t.sweep.state = .running) : t.advance.tableFull = t.tableFull := by
  rw [FaultTable.advance_eq h]

/-! ## The three examinations (05 R85) -/

/-- The slot under the cursor freed and counted. -/
def FaultTable.sweptFree (t : FaultTable) : FaultTable :=
  { (t.free t.sweep.cursor).table with sweep := { t.sweep with cleared := t.sweep.cleared + 1 } }

theorem FaultTable.examine_live (h : t.sweep.examines (t.slot t.sweep.cursor) = .live) :
    t.examine = ⟨t.endSweep .hitLive, false, false⟩ := by
  simp only [FaultTable.examine, h]

theorem FaultTable.examine_passes (h : t.sweep.examines (t.slot t.sweep.cursor) = .passes) :
    t.examine = ⟨t.advance, false, false⟩ := by
  simp only [FaultTable.examine, h]

theorem FaultTable.examine_frees (h : t.sweep.examines (t.slot t.sweep.cursor) = .frees) :
    t.examine = ⟨t.sweptFree.advance, announces t t.sweptFree, t.evictsWorkshop t.sweep.cursor⟩ := by
  simp only [FaultTable.examine, h]
  rfl

theorem FaultTable.slot_sweptFree_cursor : t.sweptFree.slot t.sweep.cursor = none :=
  (FaultTable.slot_free _ _).trans (if_pos rfl)

theorem FaultTable.slot_sweptFree_ne {i : Nat} (h : i ≠ t.sweep.cursor) : t.sweptFree.slot i = t.slot i :=
  (FaultTable.slot_free _ _).trans (if_neg h)

theorem FaultTable.sweptFree_tableFull {r : FaultRecord} (h : t.slot t.sweep.cursor = some r) :
    t.sweptFree.tableFull = false := by
  simp [FaultTable.sweptFree, FaultTable.free, h]

theorem FaultTable.examine_lost (h : t.sweep.state = .running) : t.examine.table.lost = t.lost := by
  cases he : t.sweep.examines (t.slot t.sweep.cursor) with
  | live => rw [FaultTable.examine_live he]; rfl
  | passes => rw [FaultTable.examine_passes he, FaultTable.advance_eq h]
  | frees => rw [FaultTable.examine_frees he, FaultTable.advance_eq (t := t.sweptFree) h]; rfl

/-- What an examination leaves shows the containment controller the slots it found before the end tests. -/
theorem FaultTable.announces_advance (h : t'.sweep.state = .running) : announces t t'.advance = announces t t' :=
  announces_congr (FaultTable.advance_tableFull h) (FaultTable.advance_length h) (FaultTable.slotView_advance h)

/-- What the sweep passes over is no event for the containment controller or the store. -/
theorem FaultTable.passing_notifies (h : t.sweep.state = .running) :
    t.Notifies t.advance (t.LosesWorkshop t.advance) [] := by
  refine TableOut.owes_notifies (o := ⟨t.advance, false, false⟩) ?_ (iff_of_false Bool.false_ne_true ?_)
  · rw [← announces_iff (FaultTable.advance_length h), FaultTable.announces_advance h, announces_self]
  · rintro ⟨i, r, hi, -, hn⟩
    exact Option.some_ne_none r (hi.symm.trans ((FaultTable.advance_slot_eq_none h i).1 hn))

/-- A freeing by the sweep hands on what the freeing of the slot gives, whether or not the sweep ends with it. -/
theorem FaultTable.freeing_notifies (h : t.sweep.state = .running) :
    t.Notifies t.sweptFree.advance (t.LosesWorkshop t.sweptFree.advance)
      (TableOut.owes ⟨t.sweptFree.advance, announces t t.sweptFree, t.evictsWorkshop t.sweep.cursor⟩) := by
  have hs : t.sweptFree.sweep.state = .running := h
  have hlen : t.sweptFree.slots.length = t.slots.length := List.length_set
  have announced : announces t t.sweptFree = true ↔ t.ContainmentChange t.sweptFree.advance := by
    rw [← announces_iff ((FaultTable.advance_length hs).trans hlen), FaultTable.announces_advance hs]
  have requested : t.evictsWorkshop t.sweep.cursor = true ↔ t.LosesWorkshop t.sweptFree.advance := by
    refine FaultTable.evictsWorkshop_iff ?_ fun j hj hn => ?_
    · exact (FaultTable.advance_slot_eq_none hs _).2 FaultTable.slot_sweptFree_cursor
    · rwa [FaultTable.advance_slot_eq_none hs, FaultTable.slot_sweptFree_ne hj] at hn
  exact TableOut.owes_notifies
    (o := ⟨t.sweptFree.advance, announces t t.sweptFree, t.evictsWorkshop t.sweep.cursor⟩) announced requested

end

theorem exec_sweepExamination {s : State} (h : s.table.sweep.state = .running) :
    exec .sweepExamination s = .next (s.tableEvent s.table.examine) :=
  congrArg Host.Outcome.next (if_pos h)

/-- Settles O26, by what the examination makes of the slot under the cursor. -/
theorem sweepExaminationFreesPassesOrStops : Obligations.SweepExaminationFreesPassesOrStops := by
  rintro s w rfl hrun
  refine ⟨_, exec_sweepExamination hrun, FaultTable.examine_lost hrun, rfl, fun hlive => ?_,
    fun freed hfreed hpass => ?_⟩
  · have hex : s.table.examine = _ := FaultTable.examine_live (Sweep.examines_live_iff.2 hlive)
    simp only [State.tableEvent, hex]
    exact ⟨rfl, rfl, List.append_nil _, FaultTable.slot_endSweep _⟩
  · have hfrees := hfreed.trans Sweep.examines_frees_iff.symm
    cases freed with
    | true =>
      have he := hfrees.1 rfl
      obtain ⟨r, hr, -⟩ := hfreed.1 rfl
      simp only [State.tableEvent, FaultTable.examine_frees he]
      obtain ⟨e, st, hsweep, hdone, hend, hon, hslots⟩ := FaultTable.advance_goes (t := s.table.sweptFree) hrun
      refine ⟨?_, nofun, ⟨_, rfl, FaultTable.freeing_notifies hrun⟩, e, st, hsweep, hdone, hend, hon,
        fun i hi => ?_, fun _ => ?_⟩
      · rw [FaultTable.advance_tableFull (t := s.table.sweptFree) hrun, FaultTable.sweptFree_tableFull hr]
        simp
      · rw [hslots, FaultTable.slot_sweptFree_ne (hi.resolve_right nofun)]
        rfl
      · exact (FaultTable.advance_slot_eq_none (t := s.table.sweptFree) hrun _).2 FaultTable.slot_sweptFree_cursor
    | false =>
      have he : s.table.sweep.examines (s.table.slot s.table.sweep.cursor) = .passes := by
        cases hx : s.table.sweep.examines (s.table.slot s.table.sweep.cursor) with
        | passes => rfl
        | frees => exact absurd (hfrees.2 hx) Bool.false_ne_true
        | live =>
          obtain ⟨r, hr, hmark, hmatch, -, hmode⟩ := Sweep.examines_live_iff.1 hx
          simp [hpass rfl hmode r hr hmark] at hmatch
      simp only [State.tableEvent, FaultTable.examine_passes he]
      obtain ⟨e, st, hsweep, hdone, hend, hon, hslots⟩ := FaultTable.advance_goes hrun
      exact ⟨by simp [FaultTable.advance_tableFull hrun], fun _ => List.append_nil _,
        ⟨[], rfl, FaultTable.passing_notifies hrun⟩, e, st, hsweep, hdone, hend, hon, fun i _ => hslots i, nofun⟩

end Sys2Proof.Machine
end


section
/-! PROOFS. Invariant of the fault table (O55): every step keeps `FaultTable.Ok`. -/

namespace Sys2Proof.Machine

open Sys2Proof

section
variable {s t : State}

/-! ## Rules of the invariant: the table alone is asked about -/

/-- What the frame laws show to leave the fault table alone keeps it sound. -/
theorem FaultTable.Ok.of_eq (h : s.table.Ok) (e : t.table = s.table) : t.table.Ok := e ▸ h

theorem FaultTable.Ok.next (e : Host.Outcome.next (φ := Fault) (ρ := Refusal) s = .next t) (h : s.table.Ok) :
    t.table.Ok := by
  cases e; exact h

theorem FaultTable.Ok.ite {b : Prop} [Decidable b] (hs : b → s.table.Ok) (ht : t.table.Ok) :
    (if b then s else t).table.Ok := by
  split
  · exact hs ‹_›
  · exact ht

/-- Every expiry command takes its expiry, which leaves the table, and in force has one effect. -/
theorem FaultTable.Ok.expiry (h : s.table.Ok) (c : Chan) {b : Prop} [Decidable b] {f : State → State}
    (hf : ∀ u : State, u.table.Ok → (f u).table.Ok) :
    (if b then f (s.afterExpiry c) else s.afterExpiry c).table.Ok :=
  .ite (fun _ => hf _ h) h

/-! ## Deliveries: each is for an allowed pair (04 R45) -/

theorem FaultTable.Ok.deliver (h : s.table.Ok) {d : Delivery} (hd : d.allowed) : (s.deliver d).table.Ok :=
  FaultTable.deliver_ok h hd

theorem FaultTable.Ok.deliverAll (h : s.table.Ok) {ds : List Delivery} (hd : ∀ d ∈ ds, d.allowed) :
    (s.deliverAll ds).table.Ok := by
  induction ds generalizing s with
  | nil => exact h
  | cons d ds ih =>
    obtain ⟨hhead, htail⟩ := List.forall_mem_cons.1 hd
    exact ih (h.deliver hhead) htail

/-- Every unit with a port can have the kinds that a port or a report gives evidence of. -/
theorem allowedPair_port (p : Port) : allowedPair p.unit .linkLost = true ∧ allowedPair p.unit .linkNoise = true
    ∧ allowedPair p.unit .linkFrozen = true ∧ allowedPair p.unit .obsRange = true := by
  cases p <;> exact ⟨rfl, rfl, rfl, rfl⟩

theorem allowedPair_of_claimable {u : FaultUnit} {k : Kind} (h : k ∈ claimable u) : allowedPair u k = true := by
  have := (List.mem_filter.1 h).2
  exact (Bool.and_eq_true_iff.1 this).2

theorem obsRangeVerdict_allowed {u : FaultUnit} (hu : allowedPair u .obsRange = true) (f : Option Nat) :
    (obsRangeVerdict u f).allowed := by
  cases f with
  | none => trivial
  | some n => exact hu

theorem claimVerdict_allowed {u : FaultUnit} {k : Kind} (hk : allowedPair u k = true) (claims : List Kind) :
    (claimVerdict u claims k).allowed := by
  unfold claimVerdict
  split
  · exact hk
  · trivial

/-- A report's verdicts are for the OBS_RANGE pair of its unit and for the kinds the unit may claim (02 R23, R24). -/
theorem FaultTable.Ok.reportVerdicts (h : s.table.Ok) {u : FaultUnit} (hu : allowedPair u .obsRange = true)
    (f : Option Nat) (claims : List Kind) : (s.reportVerdicts u f claims).table.Ok := by
  have fold : ∀ (ks : List Kind), (∀ k ∈ ks, allowedPair u k = true) → ∀ {x : State}, x.table.Ok →
      (ks.foldl (State.deliverClaim u claims) x).table.Ok := by
    intro ks hks
    induction ks with
    | nil => exact id
    | cons k ks ih =>
      obtain ⟨hk, hrest⟩ := List.forall_mem_cons.1 hks
      exact fun hx => ih hrest (.ite (fun _ => hx.deliver (claimVerdict_allowed hk claims)) hx)
  exact fold _ (fun _ => allowedPair_of_claimable) (h.deliver (obsRangeVerdict_allowed hu f))

theorem State.SameTable.refl (s : State) : s.SameTable s := ⟨rfl, rfl, rfl, rfl⟩

theorem FaultTable.Ok.takeMotorReport (h : s.table.Ok) (m : Motor) (l : List Byte) :
    (s.takeMotorReport m l).table.Ok := by
  rw [(State.takeMotorReport_verdicts (.refl s) l m rfl).1]
  exact h.reportVerdicts (by cases m <;> rfl) _ _

theorem FaultTable.Ok.takePackReport (h : s.table.Ok) (l : List Byte) : (s.takePackReport l).table.Ok := by
  rw [(State.takePackReport_verdicts (.refl s) l rfl).1]
  exact h.reportVerdicts rfl _ _

theorem FaultTable.Ok.takeDemand (h : s.table.Ok) (l : List Byte) : (s.takeDemand l).table.Ok := by
  rw [(State.takeDemand_verdicts (.refl s) l rfl).1]
  exact h.reportVerdicts rfl _ _

/-- The units a current balance can be charged to are those that CUR_BALANCE allows (06 R93). -/
theorem allowedPair_balanceCharge (f r : Bool) : allowedPair (balanceCharge f r) .curBalance = true := by
  cases f <;> cases r <;> rfl

theorem checkVerdicts_allowed (s : State) : ∀ d ∈ s.checkVerdicts, d.allowed := by
  have balance : ∀ d ∈ balanceVerdict s.working.params s.obs s.table, d.allowed := by
    unfold balanceVerdict
    split
    · split
      · simpa [Delivery.allowed] using allowedPair_balanceCharge _ _
      · simp [Delivery.allowed]
    · simp
  have split : ∀ d ∈ splitVerdict s.working.params s.obs, d.allowed := by
    unfold splitVerdict
    dsimp only
    split
    · split <;> simp [Delivery.allowed, allowedPair]
    · simp
  have brake : ∀ b, ∀ d ∈ brakeVerdict s.obs b, d.allowed := by
    intro b
    unfold brakeVerdict
    split
    · split <;> simp [Delivery.allowed, allowedPair]
    · simp
  have stand : ∀ b, ∀ d ∈ standVerdict s.obs b, d.allowed := by
    intro b
    unfold standVerdict
    split
    · split <;> simp [Delivery.allowed, allowedPair]
    · simp
  have watch : ∀ u r a b, allowedPair u .isolationFail = true →
      ∀ d ∈ watchVerdict s.working.params u r a b, d.allowed := by
    intro u r a b hu
    unfold watchVerdict
    split
    · split <;> simp [Delivery.allowed, hu]
    · simp
  unfold State.checkVerdicts
  simp only [List.forall_mem_append]
  exact ⟨⟨⟨⟨⟨balance, split⟩, brake _⟩, stand _⟩, watch _ _ _ _ rfl⟩, watch _ _ _ _ rfl⟩

theorem gatherBatch_allowed (x : Ports) : ∀ d ∈ gatherBatch x, d.allowed := by
  simp only [gatherBatch, List.forall_mem_map]
  exact fun p _ => (allowedPair_port p).1

theorem loadVerdicts_allowed (i : ImageOutcome) (l : LatchOutcome) : ∀ d ∈ loadVerdicts i l, d.allowed := by
  have faults : ∀ cs : List StoreCause, ∀ d ∈ cs.map storeFault, d.allowed := fun cs =>
    List.forall_mem_map.2 fun _ _ => rfl
  unfold loadVerdicts
  split
  · exact faults [.noMemory]
  all_goals
    split
    · exact List.forall_mem_singleton.2 trivial
    · exact faults _

/-! ## What a port hears (01 R2 to R10) -/

theorem FaultTable.Ok.receiveError (h : s.table.Ok) (p : Port) (e : RxError) : (s.receiveError p e).table.Ok :=
  FaultTable.deliver_ok h (allowedPair_port p).2.1

theorem FaultTable.Ok.acceptFrame (h : s.table.Ok) (p : Port) (c : SeqClass) (seq : Byte) :
    (s.acceptFrame p c seq).table.Ok :=
  FaultTable.Ok.deliverAll (ds := linkCleans p.unit) h (by simp [linkCleans, Delivery.allowed])

theorem FaultTable.Ok.handOn (h : s.table.Ok) (p : Port) (k : FrameKind) (seq : Byte) (l : List Byte) :
    (s.handOn p k seq l).table.Ok := by
  cases k with
  | motorReport =>
    cases p with
    | front => exact h.takeMotorReport .front l
    | rear => exact h.takeMotorReport .rear l
    | pack | cockpit => exact h
  | packReport => exact h.takePackReport l
  | demand => exact h.takeDemand l
  | command => exact h.of_eq (by simp [State.handOn])

theorem FaultTable.Ok.sequenceFrame (h : s.table.Ok) (p : Port) (k : FrameKind) (seq : Byte) (l : List Byte) :
    (s.sequenceFrame p k seq l).table.Ok :=
  .ite (fun _ => FaultTable.deliver_ok h (allowedPair_port p).2.2.1) ((h.acceptFrame p _ seq).handOn p k seq l)

theorem FaultTable.Ok.checkFrame (h : s.table.Ok) (p : Port) (body : List Byte) : (s.checkFrame p body).table.Ok := by
  unfold State.checkFrame
  split
  · exact h
  · exact .ite (fun _ => h) (h.sequenceFrame p _ _ _)

theorem FaultTable.Ok.closeFrame (h : s.table.Ok) (p : Port) (body : List Byte) : (s.closeFrame p body).table.Ok := by
  unfold State.closeFrame
  split
  · exact h
  · split
    · exact h.receiveError p _
    · exact FaultTable.Ok.checkFrame (s := s.updPort p LinkPort.opened) h p _

theorem FaultTable.Ok.appendByte (h : s.table.Ok) (p : Port) (b : Byte) : (s.appendByte p b).table.Ok :=
  .ite (fun _ => h.receiveError p _) h

/-- The framer takes any item (R2). -/
theorem FaultTable.Ok.frameItem (h : s.table.Ok) (p : Port) (i : RxItem) : (s.frameItem p i).table.Ok := by
  unfold State.frameItem
  split
  · exact .ite (fun _ => h) h
  · cases i with
    | framingError => exact h.receiveError p _
    | byte b => exact .ite (fun _ => h.closeFrame p _) (.ite (fun _ => h) (h.appendByte p b))
  · cases i with
    | framingError => exact h.receiveError p _
    | byte b =>
      exact .ite (fun _ => h) (.ite (fun _ => h.appendByte p _) (.ite (fun _ => h.appendByte p _) (h.receiveError p _)))

theorem FaultTable.Ok.breakLink (h : s.table.Ok) (p : Port) : (s.breakLink p).table.Ok := by
  refine FaultTable.Ok.deliverAll (h.of_eq (by simp)) fun d hd => ?_
  rw [List.mem_ite_nil_right, List.mem_singleton] at hd
  exact hd.2 ▸ (allowedPair_port p).1

theorem FaultTable.Ok.silence (h : s.table.Ok) (p : Port) : (s.silence p).table.Ok :=
  .ite (fun _ => FaultTable.deliver_ok h (allowedPair_port p).1) h

/-! ## The containment controller (07) and the working copy (04 R54, R59) -/

theorem FaultTable.Ok.gatherExpires (h : s.table.Ok) : s.gatherExpires.table.Ok := by
  refine .ite (fun _ => ?_) h
  have batch := gatherBatch_allowed s.ports
  split
  · exact h.of_eq (by simp)
  · exact h.deliverAll batch

theorem FaultTable.Ok.keyCycle (h : s.table.Ok) : s.keyCycle.table.Ok :=
  FaultTable.Ok.of_eq (s := s.tableEvent (s.table.keyCycle s.working)) (FaultTable.keyCycle_ok h)
    (State.enterStandby_table _)

theorem FaultTable.Ok.changeCopy (h : s.table.Ok) (c : Copy) : (s.changeCopy c).table.Ok :=
  FaultTable.rowChange_ok h

theorem FaultTable.Ok.revertIfInvalid (h : s.table.Ok) (f : Option Failure) : (s.revertIfInvalid f).table.Ok := by
  cases f with
  | none => exact h
  | some _ => exact FaultTable.rowChange_ok h

theorem FaultTable.Ok.forcedLeave (h : s.table.Ok) (f : Option Failure) : (s.forcedLeave f).table.Ok :=
  FaultTable.Ok.revertIfInvalid (FaultTable.abandonSweep_ok h) f

theorem FaultTable.Ok.idleLeave (h : s.table.Ok) : s.idleLeave.table.Ok :=
  FaultTable.Ok.of_eq (FaultTable.Ok.revertIfInvalid (s := s.abandonSweep) (FaultTable.abandonSweep_ok h) _)
    (State.leaveToStandby_table _)

theorem FaultTable.Ok.wakeFell (h : s.table.Ok) : s.wakeFell.table.Ok := by
  unfold State.wakeFell
  split
  · exact h.of_eq (by simp)
  · exact h.of_eq (by simp)
  · exact (h.forcedLeave _).of_eq (State.shutDown_table _)
  all_goals exact h

/-! ## The configuration store (10) -/

theorem latchEntryAt_ok {l : List Byte} {i : Nat} {e : LatchEntry} (h : latchEntryAt l i = some e) : e.Ok := by
  unfold latchEntryAt at h
  split at h
  · dsimp only at h
    split at h
    · next hok => cases h; exact hok
    · cases h
  · cases h

theorem latchEntries_ok {l : List Byte} {n i : Nat} {es : List LatchEntry} (h : latchEntries l i n = some es) :
    ∀ e ∈ es, e.Ok := by
  induction n generalizing i es with
  | zero => cases h; simp
  | succ n ih =>
    unfold latchEntries at h
    split at h
    · next he hes => cases h; exact List.forall_mem_cons.2 ⟨latchEntryAt_ok he, ih hes⟩
    · cases h

/-- A list that passed the tests of R180 brings back sound entries alone. -/
theorem testLatches_entries_ok (l : List Byte) : ∀ e ∈ (testLatches l).entries, e.Ok := by
  unfold testLatches
  split
  · split
    · split
      · next hes => exact latchEntries_ok hes
      · simp [LatchOutcome.entries]
    · simp [LatchOutcome.entries]
  · simp [LatchOutcome.entries]

theorem readLatches_entries_ok (buffer : List Byte) (r : Option (List Byte)) :
    ∀ e ∈ (readLatches buffer r).1.entries, e.Ok := by
  cases r with
  | none => simp [readLatches, LatchOutcome.entries]
  | some l => exact testLatches_entries_ok l

/-- The results of a LOAD: a row change, the latch list brought back, and the verdicts (R181). -/
theorem FaultTable.Ok.loadResults (h : s.table.Ok) (i : ImageOutcome) {l : LatchOutcome}
    (hl : ∀ e ∈ l.entries, e.Ok) : (s.loadResults i l).table.Ok := by
  have restored : ∀ u : State, u.table.Ok → (u.tableEvent (u.table.restore u.now l.entries)).table.Ok :=
    fun _ hu => FaultTable.restore_ok hu hl
  have told := (restored (s.replaceCopies i.copy) (FaultTable.rowChange_ok h)).deliverAll (loadVerdicts_allowed i l)
  exact told.of_eq (by simp [State.loadResults])

theorem FaultTable.Ok.endReported (h : s.table.Ok) {d : Delivery} (hd : d.allowed) (e : StoreEnd) :
    (s.endReported d e).table.Ok :=
  (h.deliver hd).of_eq (by simp [State.endReported])

theorem FaultTable.Ok.saveFailed (h : s.table.Ok) : s.saveFailed.table.Ok :=
  h.endReported (d := storeFault .saveVerify) rfl _

@[simp] theorem State.completeWrite_table (s : State) : s.completeWrite.table = s.table := by
  unfold State.completeWrite
  split <;> simp

theorem FaultTable.Ok.storeWaited (h : s.table.Ok) : s.storeWaited.table.Ok := by
  unfold State.storeWaited
  split
  · exact h
  · exact (FaultTable.Ok.deliver (s := s.memoryReady) (d := storeClean) h trivial).of_eq (by simp)
  all_goals exact h

theorem FaultTable.Ok.saveMatched (h : s.table.Ok) : s.saveMatched.table.Ok :=
  FaultTable.Ok.endReported (s := { s with
      committed := bufferCopy s.store.imageBuffer s.committed, unsaved := s.store.replaced })
    (d := storeClean) h trivial _

theorem FaultTable.Ok.reloadEnd (h : s.table.Ok) (i : ImageOutcome) : (s.reloadEnd i).table.Ok := by
  cases i with
  | valid c =>
    exact FaultTable.Ok.endReported (s := s.replaceCopies c) (d := storeClean) (FaultTable.rowChange_ok h) trivial _
  | noMemory => exact h.endReported (d := storeFault .noMemory) rfl _
  | crc => exact h.endReported (d := storeFault .imageCrc) rfl _
  | invalid f => exact h.endReported (d := storeFault .imageInvalid) rfl _

theorem FaultTable.Ok.loadImageReadDone (h : s.table.Ok) (r : BusRead) (e : execLoadImageReadDone r s = .next t) :
    t.table.Ok := by
  have noList : ∀ e ∈ LatchOutcome.noMemory.entries, e.Ok := by simp [LatchOutcome.entries]
  exact .next e (.ite (fun _ => .ite (fun _ => FaultTable.Ok.loadResults (s := s.updStore _) h _ noList) h) h)

theorem FaultTable.Ok.loadLatchListReadDone (h : s.table.Ok) (r : BusRead)
    (e : execLoadLatchListReadDone r s = .next t) : t.table.Ok := by
  refine .next e ?_
  split
  · exact FaultTable.Ok.loadResults (s := s.updStore _) h _ (readLatches_entries_ok _ _)
  all_goals exact h

theorem FaultTable.Ok.savePageWriteDone (h : s.table.Ok) (a : Bool) (e : execSavePageWriteDone a s = .next t) :
    t.table.Ok := by
  refine .next e ?_
  split
  · exact .ite (fun _ => h.of_eq (by simp)) h.saveFailed
  all_goals exact h

theorem FaultTable.Ok.latchPageWriteDone (h : s.table.Ok) (a : Bool) (e : execLatchPageWriteDone a s = .next t) :
    t.table.Ok :=
  .next e (.ite (fun _ => .ite (fun _ => h.of_eq (by simp))
    ((h.deliver (d := storeFault .saveVerify) rfl).of_eq (by simp))) h)

theorem FaultTable.Ok.storeEndReport (h : s.table.Ok) (e : execStoreEndReport s = .next t) : t.table.Ok := by
  refine .next e ?_
  split
  · exact h.of_eq (by simp)
  · exact h

/-! ## Service commands (09) -/

@[simp] theorem Carried.placed_table (c : Carried) : c.placed.table = c.state.table := by
  unfold Carried.placed
  split <;> rfl

@[simp] theorem State.refused_state (s : State) (seq code : Byte) (r : Result) : (s.refused seq code r).state = s := rfl

@[simp] theorem Carried.finish_table (c : Carried) : c.finish.table = c.state.table := Carried.placed_table _

theorem FaultTable.Ok.inService (h : s.table.Ok) (i : Instr) (seq code : Byte) {f : State → Carried}
    (hf : ∀ u : State, u.table.Ok → (f u).state.table.Ok) : (s.inService i seq code f).table.Ok :=
  .ite (fun _ => (Carried.finish_table _).symm ▸ hf (s.takeCommand i) h) ((Carried.placed_table _).symm ▸ h)

theorem FaultTable.Ok.unlessBusy (h : s.table.Ok) (seq code : Byte) {f : State → Carried}
    (hf : (f s).state.table.Ok) : (s.unlessBusy seq code f).state.table.Ok := by
  unfold State.unlessBusy
  split
  · exact h
  · exact hf

theorem FaultTable.Ok.rowWrite (h : s.table.Ok) (seq kind : Byte) (b : RowBytes) :
    (s.rowWrite seq kind b).state.table.Ok := by
  unfold State.rowWrite
  split
  · exact h
  · split
    · exact h
    · split
      · exact h
      · exact FaultTable.rowChange_ok h

theorem FaultTable.Ok.paramWrite (h : s.table.Ok) (seq number : Byte) (v : Half) :
    (s.paramWrite seq number v).state.table.Ok := by
  unfold State.paramWrite
  split
  · exact h
  · split <;> exact h

@[simp] theorem State.freeSlot_table (s : State) (i : Nat) : (s.freeSlot i).table = (s.table.free i).table := by
  unfold State.freeSlot
  dsimp only
  split <;> simp

theorem FaultTable.Ok.recordClear (h : s.table.Ok) (seq slot : Byte) : (s.recordClear seq slot).state.table.Ok := by
  unfold State.recordClear
  split
  · split
    · exact h
    · split
      · exact h
      · exact h
      · exact h
      all_goals
        rw [State.done_state, State.freeSlot_table]
        exact FaultTable.free_ok h
  · exact h

/-- The sweep that a SWEEP_START asks for begins within the table (09 R167). -/
theorem sweepArgs_ok {x y : FaultTable} (h : x.Ok) {start unit kind mode count : Byte}
    (e : sweepArgs x start unit kind mode count = some y) : y.Ok := by
  unfold sweepArgs at e
  split at e
  · split at e
    · next hr =>
      obtain ⟨hstart, hone, hcount⟩ := hr
      cases e
      exact FaultTable.sweepStart_ok h hstart hone hcount
    · cases e
  · cases e

theorem FaultTable.Ok.startSweep (h : s.table.Ok) (seq start unit kind mode count : Byte) :
    (s.startSweep seq start unit kind mode count).state.table.Ok := by
  unfold State.startSweep
  split
  · exact h
  · next hargs =>
    split
    · exact sweepArgs_ok h hargs
    · exact h

/-- A suspended sweep is within the table, so that it can go on (R88). -/
theorem FaultTable.Ok.resumeSweep (h : s.table.Ok) (seq : Byte) : (s.resumeSweep seq).state.table.Ok := by
  unfold State.resumeSweep
  split
  · next hs =>
    have ongoing := h.sweep.ongoing (by simp [hs])
    exact FaultTable.withSweep_ok h { h.sweep with ongoing := fun _ => ongoing } (by simp)
  · exact h

theorem FaultTable.Ok.cancelSweep (h : s.table.Ok) (seq : Byte) : (s.cancelSweep seq).state.table.Ok := by
  unfold State.cancelSweep
  split
  · exact h
  · exact FaultTable.endSweep_ok h

theorem FaultTable.Ok.pushOverride (h : s.table.Ok) (seq a b c d : Byte) :
    (s.pushOverride seq a b c d).state.table.Ok := by
  unfold State.pushOverride
  split
  · exact h
  · split
    · exact h
    · exact h.of_eq (by simp)

theorem FaultTable.Ok.popOverride (h : s.table.Ok) (seq : Byte) : (s.popOverride seq).state.table.Ok := by
  unfold State.popOverride
  split
  · exact h
  · exact h.of_eq (by simp)

theorem FaultTable.Ok.serviceEnter (h : s.table.Ok) (seq : Byte) (e : execServiceEnter seq s = .next t) :
    t.table.Ok := by
  refine .next e ?_
  split
  · exact .ite (fun _ => h.of_eq (by simp)) (h.of_eq (by simp))
  · exact h.of_eq (by simp)

theorem FaultTable.Ok.serviceLeave (h : s.table.Ok) (seq : Byte) : (s.serviceLeave seq).table.Ok := by
  have abandoned : s.abandonSweep.table.Ok := FaultTable.abandonSweep_ok h
  unfold State.serviceLeave
  dsimp only
  split
  · exact abandoned.of_eq (by simp)
  · exact abandoned.of_eq (by simp)

/-! ## Every command keeps the fault table sound -/

theorem exec_keeps_tableOk (c : Instr) (s t : State) (h : s.table.Ok) (e : exec c s = .next t) : t.table.Ok := by
  cases c with
  -- what a port hears (01)
  | frameReceived p body => exact .next e (.ite (fun _ => h) (h.closeFrame p body))
  | receiveError p x => exact .next e (.ite (fun _ => h) (h.receiveError p x))
  | byteReceived p i => exact .next e (.ite (fun _ => h) (h.frameItem p i))
  | lineBreak p =>
    exact .next e (.ite (fun _ => h) (.ite (fun _ => (h.receiveError p _).breakLink p) (h.breakLink p)))
  | freshnessExpiry p => exact .next e (h.expiry p.channel (f := fun u => u.silence p) fun _ hu => hu.silence p)
  -- the monitor and the fault table (05, 06)
  | checkExpiry =>
    exact .next e (h.expiry _ fun u hu =>
      FaultTable.Ok.deliverAll (s := { u with monitor := u.monitor.afterCheck }) hu (checkVerdicts_allowed u))
  | recordTickExpiry => exact .next e (.ite (fun _ => FaultTable.tick_ok h) h)
  | sweepExamination => exact .next e (.ite (fun hr => FaultTable.examine_ok h hr) h)
  -- the containment controller (07)
  | wakeRising => exact .next e (.ite (fun _ => FaultTable.Ok.keyCycle (h.of_eq (by simp))) (h.of_eq (by simp)))
  | wakeFalling => exact .next e (FaultTable.Ok.wakeFell (h.of_eq (by simp)))
  | gatherExpiry => exact .next e (h.expiry _ fun _ hu => hu.gatherExpires)
  -- the configuration store (10)
  | loadImageReadDone r => exact h.loadImageReadDone r e
  | loadLatchListReadDone r => exact h.loadLatchListReadDone r e
  | savePageWriteDone a => exact h.savePageWriteDone a e
  | storeWaitExpiry => exact .next e (h.expiry _ fun _ hu => hu.storeWaited)
  | saveReadbackDone r =>
    exact .next e (.ite (fun _ => .ite (fun _ => h.saveMatched) h.saveFailed) h)
  | latchPageWriteDone a => exact h.latchPageWriteDone a e
  | reloadReadDone r => exact .next e (.ite (fun _ => FaultTable.Ok.reloadEnd (s := s.updStore _) h _) h)
  | storeEndReport => exact h.storeEndReport e
  -- service commands (09)
  | rowWrite seq kind row => exact .next e (h.inService _ _ _ fun _ hu => hu.unlessBusy _ _ (hu.rowWrite _ _ _))
  | paramWrite seq number v => exact .next e (h.inService _ _ _ fun _ hu => hu.unlessBusy _ _ (hu.paramWrite _ _ _))
  | storeSave seq | storeReload seq =>
    exact .next e (h.inService _ _ _ fun _ hu => hu.unlessBusy _ _ (hu.of_eq (by simp)))
  | recordClear seq slot => exact .next e (h.inService _ _ _ fun _ hu => hu.recordClear _ _)
  | sweepStart seq a u k m n => exact .next e (h.inService _ _ _ fun _ hu => hu.startSweep _ _ _ _ _ _)
  | sweepResume seq => exact .next e (h.inService _ _ _ fun _ hu => hu.resumeSweep _)
  | sweepCancel seq => exact .next e (h.inService _ _ _ fun _ hu => hu.cancelSweep _)
  | overridePush seq a b l i => exact .next e (h.inService _ _ _ fun _ hu => hu.pushOverride _ _ _ _ _)
  | overridePop seq => exact .next e (h.inService _ _ _ fun _ hu => hu.popOverride _)
  | serviceEnter seq => exact h.serviceEnter seq e
  | serviceLeave seq =>
    exact .next e (.ite (fun _ => .ite (fun _ => h.of_eq (by simp))
      (FaultTable.Ok.serviceLeave (s := s.takeCommand _) h seq)) (h.of_eq (by simp)))
  | serviceIdleExpiry => exact .next e (h.expiry _ fun _ hu => hu.idleLeave)
  -- power-on begins with an empty table (00)
  | powerOn cause torn => exact .next e FaultTable.initial_ok
  -- the commands that leave the table alone
  | breakEnd p => exact .next e (.ite (fun _ => h) h)
  | transmitterTakeFrame p =>
    refine .next e ?_
    split
    · exact h
    · cases p <;> exact h.of_eq (by simp)
  | timeBaseStep b st w => exact .next e h
  | switchChangeAccepted sw a => exact .next e (.ite (fun _ => h) (.ite (fun _ => h) h))
  | envelopeExpiry | haltRampExpiry => exact .next e (h.expiry _ fun _ hu => hu.of_eq (by simp))
  | gatherBatchTaken | endOfLoading => exact .next e (.ite (fun _ => h.of_eq (by simp)) h)
  | arrivalNotice | linkStateNotice | containmentAnnouncement | latchRewriteRequest | isolationNotice =>
    exact .next e (h.of_eq (by simp))
  | queryRecords | queryLink | queryRow | queryParam | queryEnvelope | unknownCommand => exact .next e h

end

/-- Settles O55: a change of the queue leaves the table alone, and every command keeps it sound. -/
theorem everyStepKeepsFaultTableOk : Obligations.EveryStepKeepsFaultTableOk :=
  step_keeps (fun _ _ h => h) exec_keeps_tableOk

end Sys2Proof.Machine
end


section
/-! PROOFS. The cross-check monitor: a CHECK expiry and its six verdicts (O27), and the watch set (O28). -/

namespace Sys2Proof.Machine

open Sys2Proof

/-! ## The suspect view (05 R79) -/

theorem RecordState.ne_dormant_iff {x : RecordState} :
    x ≠ .dormant ↔ x = .pending ∨ x = .active ∨ x = .clearing ∨ x = .latched := by
  cases x <;> simp

theorem FaultTable.mem_records_iff_slot {t : FaultTable} {r : FaultRecord} :
    r ∈ t.records ↔ ∃ i, t.slot i = some r :=
  ⟨FaultTable.exists_slot_of_mem, fun ⟨_, h⟩ => slot_mem h⟩

theorem FaultTable.suspect_iff {t : FaultTable} {u : FaultUnit} : t.suspect u = true ↔ ∃ i r, t.slot i = some r
    ∧ r.unit = u ∧ r.kind ≠ .curBalance
    ∧ (r.state = .pending ∨ r.state = .active ∨ r.state = .clearing ∨ r.state = .latched) := by
  have hany : t.suspect u = true ↔ ∃ r, (∃ i, t.slot i = some r) ∧ r.unit = u ∧ r.kind ≠ .curBalance
      ∧ r.state ≠ .dormant := by
    simp [FaultTable.suspect, FaultTable.mem_records_iff_slot, and_assoc]
  simp only [hany, RecordState.ne_dormant_iff]
  exact ⟨fun ⟨r, ⟨i, hi⟩, h⟩ => ⟨i, r, hi, h⟩, fun ⟨i, r, hi, h⟩ => ⟨r, ⟨i, hi⟩, h⟩⟩

/-! ## The verdicts, one lemma per outcome of a comparison -/

section
variable {c : Params} {o : Observations} {t : FaultTable}

/-! Current balance (R92 to R94). -/

theorem balanceVerdict_stale (h : (o.pack.fresh && o.front.fresh && o.rear.fresh) = false) :
    balanceVerdict c o t = [] := by
  simp [balanceVerdict, h]

theorem balanceVerdict_passing (h : (o.pack.fresh && o.front.fresh && o.rear.fresh) = true)
    (hr : balanceResidual o ≤ balanceTolerance c o) :
    balanceVerdict c o t = [.clean .front .curBalance, .clean .rear .curBalance, .clean .core .curBalance] := by
  simp only [balanceVerdict, h, if_true, if_neg (Nat.not_lt.2 hr)]

theorem balanceVerdict_failing (h : (o.pack.fresh && o.front.fresh && o.rear.fresh) = true)
    (hr : balanceTolerance c o < balanceResidual o) :
    balanceVerdict c o t = [.evidence (balanceCharge (t.suspect .front) (t.suspect .rear)) .curBalance
      (some (.number ((min (balanceResidual o) 400 : Nat) : Int)))] := by
  simp only [balanceVerdict, h, if_true, if_pos hr]

/-- Without a suspect, or with two, the balance is charged to CORE (R93). -/
theorem balanceCharge_self (b : Bool) : balanceCharge b b = .core := by
  cases b <;> rfl

/-! Speed split (R95). -/

theorem splitVerdict_unmade (h : (o.front.fresh && o.rear.fresh) = false ∨ max o.front.speed o.rear.speed < 50) :
    splitVerdict c o = [] := by
  refine if_neg fun hmade => ?_
  obtain ⟨hfresh, hspeed⟩ := Bool.and_eq_true_iff.1 hmade
  rcases h with h | h
  · exact Bool.false_ne_true (h.symm.trans hfresh)
  · exact Nat.not_lt.2 (of_decide_eq_true hspeed) h

theorem splitVerdict_made (h : (o.front.fresh && o.rear.fresh) = true) (hv : 50 ≤ max o.front.speed o.rear.speed)
    {d : Nat} (hd : d = max o.front.speed o.rear.speed - min o.front.speed o.rear.speed) : splitVerdict c o =
      if max c.splitAbs (max o.front.speed o.rear.speed * c.splitRel / 100) < d then
        [.evidence .core .speedSplit (some (.number (d : Int)))]
      else [.clean .core .speedSplit] := by
  subst hd
  exact if_pos (Bool.and_eq_true_iff.2 ⟨h, decide_eq_true hv⟩)

/-! Rider inputs (R96, R97). -/

variable {b : Bool}

theorem brakeVerdict_stale (h : o.cockpit.fresh = false) : brakeVerdict o b = [] := by
  simp [brakeVerdict, h]

theorem brakeVerdict_failing (h : o.cockpit.fresh = true) (hb : b = true) (hd : 100 < o.cockpit.demand) :
    brakeVerdict o b = [.evidence .cockpit .brakeThrottle (some (.number (o.cockpit.demand : Int)))] := by
  simp [brakeVerdict, h, hb, hd]

theorem brakeVerdict_passing (h : o.cockpit.fresh = true) (hp : b = false ∨ o.cockpit.demand ≤ 100) :
    brakeVerdict o b = [.clean .cockpit .brakeThrottle] := by
  have : ¬ (b = true ∧ 100 < o.cockpit.demand) := by
    rintro ⟨rfl, hd⟩
    exact hp.elim nofun (Nat.not_le.2 hd)
  simp [brakeVerdict, h, this]

/-- The stand check takes its speed over the fresh motor records alone (R97). -/
theorem freshMaxSpeed_eq {v : Nat} (hfresh : (o.front.fresh || o.rear.fresh) = true)
    (both : o.front.fresh = true → o.rear.fresh = true → v = max o.front.speed o.rear.speed)
    (front : o.front.fresh = true → o.rear.fresh = false → v = o.front.speed)
    (rear : o.front.fresh = false → o.rear.fresh = true → v = o.rear.speed) : freshMaxSpeed o = v := by
  cases hf : o.front.fresh <;> cases hr : o.rear.fresh
  · simp [hf, hr] at hfresh
  · simp [freshMaxSpeed, hf, hr, rear hf hr]
  · simp [freshMaxSpeed, hf, hr, front hf hr]
  · simp [freshMaxSpeed, hf, hr, both hf hr]

theorem standVerdict_stale (h : (o.front.fresh || o.rear.fresh) = false) : standVerdict o b = [] := by
  simp [standVerdict, h]

theorem standVerdict_failing (h : (o.front.fresh || o.rear.fresh) = true) (hb : b = true)
    (hv : 100 ≤ freshMaxSpeed o) :
    standVerdict o b = [.evidence .cockpit .standMoving (some (.number (freshMaxSpeed o : Int)))] := by
  simp only [standVerdict, h, hb, hv, decide_true, Bool.and_self, if_true]

theorem standVerdict_passing (h : (o.front.fresh || o.rear.fresh) = true) (hp : b = false ∨ freshMaxSpeed o < 100) :
    standVerdict o b = [.clean .cockpit .standMoving] := by
  have : ¬ (b = true ∧ 100 ≤ freshMaxSpeed o) := by
    rintro ⟨rfl, hv⟩
    exact hp.elim nofun (Nat.not_lt.2 hv)
  simp only [standVerdict, h, Bool.and_eq_true, decide_eq_true_eq, this, if_true, if_false]

/-! The isolation-failure watch (R98). -/

variable {u : FaultUnit} {r : MotorRecord} {watched grace : Bool}

theorem watchVerdict_unmade (h : watched = false ∨ grace = true ∨ r.fresh = false) :
    watchVerdict c u r watched grace = [] := by
  rcases h with h | h | h <;> simp [watchVerdict, h]

theorem watchVerdict_failing (hw : watched = true) (hg : grace = false) (hf : r.fresh = true)
    (h : c.isoCurrent < r.dcCurrent.natAbs ∨ r.gate = .switching) :
    watchVerdict c u r watched grace = [.evidence u .isolationFail (some (.number r.dcCurrent))] := by
  simp [watchVerdict, failsWatch, hw, hg, hf, h]

theorem watchVerdict_passing (hw : watched = true) (hg : grace = false) (hf : r.fresh = true)
    (hc : r.dcCurrent.natAbs ≤ c.isoCurrent) (hb : r.gate = .blocked) :
    watchVerdict c u r watched grace = [.clean u .isolationFail] := by
  simp [watchVerdict, failsWatch, hw, hg, hf, hb, hc]

end

/-! ## The expiry (R90, R98) -/

section
variable {s : State}

theorem exec_checkExpiry (h : s.expiryInForce .check = true) :
    exec .checkExpiry s = .next (s.afterExpiry .check).check :=
  congrArg Host.Outcome.next (if_pos h)

@[simp] theorem State.check_monitor (s : State) : s.check.monitor = s.monitor.afterCheck :=
  State.deliverAll_monitor _ _

/-- Taking the expiry leaves every input of the check, and neither it nor the graces touch the fault table (R90). -/
theorem State.afterExpiry_check_table (s : State) :
    (s.afterExpiry .check).check.table = (s.deliverAll s.checkVerdicts).table :=
  State.deliverAll_table_congr _ rfl rfl rfl

theorem State.afterExpiry_check_owed (s : State) : (s.afterExpiry .check).check.owed
    = (State.deliverAll { s with owed := s.owed.eraseP (Owed.isExpiry .check) } s.checkVerdicts).owed :=
  State.deliverAll_owed_congr _ rfl rfl rfl rfl

theorem State.afterExpiry_check_rest (s : State) : (s.afterExpiry .check).check = { s with
    timers := (s.afterExpiry .check).check.timers, monitor := (s.afterExpiry .check).check.monitor
    table := (s.afterExpiry .check).check.table, owed := (s.afterExpiry .check).check.owed } := by
  apply State.ext_fields <;> simp

end

/-- Settles O27: the check is `State.checkVerdicts`, whose six parts are each settled by its outcomes. -/
theorem checkExpiryDeliversVerdictsInOrder : Obligations.CheckExpiryDeliversVerdictsInOrder := by
  refine ⟨fun t m => FaultTable.suspect_iff, fun s hf => ⟨_, exec_checkExpiry hf, s.afterExpiry_check_rest,
    State.check_monitor _, balanceVerdict s.working.params s.obs s.table, splitVerdict s.working.params s.obs,
    brakeVerdict s.obs s.switches.brake.asserted, standVerdict s.obs s.switches.stand.asserted,
    watchVerdict s.working.params .front s.obs.front s.monitor.watchFront s.monitor.graceFront,
    watchVerdict s.working.params .rear s.obs.rear s.monitor.watchRear s.monitor.graceRear,
    s.afterExpiry_check_table, s.afterExpiry_check_owed, ?balance, ?split, brakeVerdict_stale, brakeVerdict_failing,
    brakeVerdict_passing, ?stand, ?watch⟩⟩
  case balance =>
    rintro _ _ rfl rfl
    refine ⟨balanceVerdict_stale, balanceVerdict_passing, fun h hr => ⟨_, balanceVerdict_failing h hr, ?_, ?_, ?_⟩⟩
    · intro hfront hrear; rw [hfront, hrear]; rfl
    · intro hfront hrear; rw [hfront, hrear]; rfl
    · intro hsame; rw [hsame]; exact balanceCharge_self _
  case split =>
    rintro _ d rfl hd
    refine ⟨splitVerdict_unmade, fun h hv => ?_⟩
    rw [splitVerdict_made h hv hd]
    exact ⟨fun hpass => if_neg (Nat.not_lt.2 hpass), fun hfail => if_pos hfail⟩
  case stand =>
    intro v both front rear
    refine ⟨standVerdict_stale, fun h => ?_, fun h => ?_⟩ <;> rw [← freshMaxSpeed_eq h both front rear]
    · exact standVerdict_failing h
    · exact standVerdict_passing h
  case watch =>
    rintro m _ _ _ (⟨rfl, rfl, rfl, rfl⟩ | ⟨rfl, rfl, rfl, rfl⟩)
    all_goals exact ⟨watchVerdict_unmade, fun hw hg hf =>
      ⟨watchVerdict_failing hw hg hf, watchVerdict_passing hw hg hf⟩⟩

/-! ## The watch set (R91) -/

/-- An isolation notice is taken off what is owed, and moves its motor in the watch set. -/
theorem exec_isolationNotice (m : Motor) (entered : Bool) (s : State) : exec (.isolationNotice m entered) s
    = .next { s with monitor := s.monitor.notice m entered, owed := s.owed.erase (.isolation m entered) } := by
  simp only [exec, execIsolationNotice, State.took_eq_erase]

/-- Settles O28. -/
theorem isolationNoticeMovesWatchSet : Obligations.IsolationNoticeMovesWatchSet := fun entered s =>
  ⟨⟨_, exec_isolationNotice .front entered s, rfl⟩, ⟨_, exec_isolationNotice .rear entered s, rfl⟩⟩

end Sys2Proof.Machine
end

section
/-! PROOFS. Invariant of target, applied state and lines (O56): every step keeps `Control.Ok`. -/

namespace Sys2Proof.Machine

open Sys2Proof

/-! ## The ramp and the lines (07 R117 to R126) -/

section
variable {s t : State} {c : Control}

/-- The ramp and the lines that follow a covering applied state are sound: a ramp in progress begins at HALT or stays
there (R120, R123). -/
theorem State.AppliedFollows.controlOk (h : s.AppliedFollows t) (hs : s.control.Ok)
    (hc : t.control.applied.Covers t.control.target) : t.control.Ok where
  covers := hc
  rampHalts hr := by
    by_contra hn
    by_cases hb : s.control.applied.level = .halt
    · exact Bool.false_ne_true ((h.rampStop hb hn).1.symm.trans hr)
    · obtain ⟨hstay, -⟩ := h.rampStays (iff_of_false hb hn)
      exact hb (hs.rampHalts (hstay.symm.trans hr))
  permitFront := h.permitFront
  permitRear := h.permitRear
  packLine := h.packLine
  warnLine hl := h.warnLine.2 (.inl hl)

theorem State.Recomputes.controlOk (h : s.Recomputes t) (hs : s.control.Ok) : t.control.Ok :=
  h.toAppliedFollows.controlOk hs h.covers

/-- A ramp ends at HALT, where both permits are low without it (R121, R122, R124). -/
theorem Control.Ok.endRamp (h : c.Ok) (hr : c.ramp = true) : c.endRamp.Ok :=
  have low : ¬ (c.applied.level ≠ .halt ∨ false = true) := by simp [h.rampHalts hr]
  { h with
    rampHalts := nofun
    permitFront := iff_of_false Bool.false_ne_true fun hp => low hp.2
    permitRear := iff_of_false Bool.false_ne_true fun hp => low hp.2 }

/-- What is released covers the target exactly: the parts that are not held back follow it anyway (R118). -/
theorem Drive.Covers.relax {d a : Drive} (h : a.Covers d) : (d.relax a).Covers d where
  level := Nat.le_refl _
  derate := Nat.le_refl _
  isoFront := id
  isoRear := id
  inhibit := h.inhibit
  packOpen := h.packOpen

/-! ## What the controller takes (07 R104 to R122) -/

theorem Control.Ok.of_eq (h : s.control.Ok) (e : t.control = s.control) : t.control.Ok := e ▸ h

/-- The invariant asks nothing of the chip state, the override stack and the two flags. -/
theorem Control.Ok.of_flags (h : c.Ok) (chip : Chip) (awake gatherDone : Bool) (os : List Override) :
    Control.Ok { c with chip := chip, awake := awake, gatherDone := gatherDone, overrides := os } :=
  { h with }

theorem Control.Ok.ite {b : Prop} [Decidable b] (hs : s.control.Ok) (ht : t.control.Ok) :
    (if b then s else t).control.Ok :=
  ite_within (P := fun u : State => u.control.Ok) (fun _ => hs) ht

theorem Control.Ok.recomputeCore (h : s.control.Ok) : s.recomputeCore.control.Ok :=
  s.recomputeCore_spec.controlOk h

theorem Control.Ok.testDrive (h : s.control.Ok) : s.testDrive.control.Ok :=
  .ite (Control.Ok.recomputeCore (s := (s.setChip .drive).stop .gather) (h.of_flags ..)) h

theorem Control.Ok.recompute (h : s.control.Ok) : s.recompute.control.Ok := h.recomputeCore.testDrive

theorem Control.Ok.enterStandby (h : s.control.Ok) : s.enterStandby.control.Ok :=
  Control.Ok.recompute (h.of_flags ..)

theorem Control.Ok.gatherFinished (h : s.control.Ok) : s.gatherFinished.control.Ok :=
  Control.Ok.testDrive (h.recomputeCore.of_flags ..)

theorem Control.Ok.gatherExpires (h : s.control.Ok) : s.gatherExpires.control.Ok := by
  refine .ite ?_ h
  split
  · exact h.gatherFinished
  · exact h.of_eq (by simp)

theorem Control.Ok.endLoading (h : s.control.Ok) : s.endLoading.control.Ok :=
  have loaded := Control.Ok.recomputeCore (s := s.setChip s.control.afterLoading) (h.of_flags ..)
  .ite (Control.Ok.enterStandby loaded) loaded

theorem Control.Ok.motorNotice (h : s.control.Ok) : s.motorNotice.control.Ok := by
  unfold State.motorNotice
  split
  · next hr =>
    obtain ⟨hramp, -⟩ := Bool.and_eq_true_iff.1 hr
    exact h.endRamp hramp
  · exact h

theorem Control.Ok.cockpitNotice (h : s.control.Ok) : s.cockpitNotice.control.Ok := by
  refine .ite ((s.apply_follows _).controlOk h ?_) h
  rw [State.apply_applied, State.apply_target]
  exact h.covers.relax

theorem Control.Ok.noticeOf (h : s.control.Ok) (u : Reporter) : (s.noticeOf u).control.Ok := by
  cases u with
  | front | rear => exact h.motorNotice
  | cockpit => exact h.cockpitNotice

theorem Control.Ok.haltRampEnds (h : s.control.Ok) : s.haltRampEnds.control.Ok := by
  unfold State.haltRampEnds
  split
  · next hr => exact h.endRamp hr
  · exact h

/-- A wake change taken sets the wake flag (R103). -/
theorem State.acceptWake_control (s : State) (on : Bool) :
    (s.acceptWake on).control = { s.control with awake := on } := by
  unfold State.acceptWake
  dsimp only
  split <;> rfl

theorem Control.Ok.acceptWake (h : s.control.Ok) (on : Bool) : (s.acceptWake on).control.Ok := by
  rw [State.acceptWake_control]
  exact h.of_flags ..

theorem Control.Ok.shutDown (h : s.control.Ok) : s.shutDown.control.Ok := Control.Ok.recompute (h.of_flags ..)

theorem Control.Ok.changeCopy (h : s.control.Ok) (x : Copy) : (s.changeCopy x).control.Ok :=
  Control.Ok.recompute (s := { s with working := x }) h

theorem Control.Ok.revertIfInvalid (h : s.control.Ok) (f : Option Failure) : (s.revertIfInvalid f).control.Ok := by
  cases f with
  | none => exact h
  | some _ =>
    exact Control.Ok.changeCopy (s := { s with unsaved := false, store := { s.store with replaced := true } }) h _

theorem Control.Ok.forcedLeave (h : s.control.Ok) (f : Option Failure) : (s.forcedLeave f).control.Ok :=
  Control.Ok.revertIfInvalid (s := (s.emptyOverrides.stop .serviceIdle).abandonSweep) (h.of_flags ..) f

theorem Control.Ok.wakeFell (h : s.control.Ok) : s.wakeFell.control.Ok := by
  unfold State.wakeFell
  split
  · exact Control.Ok.shutDown (s := s.stop .gather) h
  · exact h.shutDown
  · exact (h.forcedLeave _).shutDown
  · exact h
  · exact h

/-! ## The store and the service commands (04 R53, R59, 09, 10) -/

theorem Control.Ok.replaceCopies (h : s.control.Ok) (x : Copy) : (s.replaceCopies x).control.Ok :=
  Control.Ok.changeCopy (s := { s with committed := x, unsaved := false }) h x

theorem Control.Ok.loadResults (h : s.control.Ok) (i : ImageOutcome) (l : LatchOutcome) :
    (s.loadResults i l).control.Ok :=
  (h.replaceCopies i.copy).of_eq (by simp [State.loadResults])

theorem Control.Ok.reloadEnd (h : s.control.Ok) (i : ImageOutcome) : (s.reloadEnd i).control.Ok := by
  cases i with
  | valid x => exact (h.replaceCopies x).of_eq (by simp [State.reloadEnd])
  | noMemory | crc | invalid => exact h.of_eq (by simp [State.reloadEnd])

@[simp] theorem State.completeWrite_control (s : State) : s.completeWrite.control = s.control := by
  unfold State.completeWrite
  split <;> simp

@[simp] theorem Carried.placed_control (x : Carried) : x.placed.control = x.state.control := by
  unfold Carried.placed
  split <;> simp

@[simp] theorem Carried.finish_control (x : Carried) : x.finish.control = x.state.control :=
  Carried.placed_control _

theorem Control.Ok.inService (h : s.control.Ok) (i : Instr) (seq code : Byte) {f : State → Carried}
    (hf : ∀ u : State, u.control.Ok → (f u).state.control.Ok) : (s.inService i seq code f).control.Ok :=
  .ite ((Carried.finish_control _).symm ▸ hf (s.takeCommand i) h) ((Carried.placed_control _).symm ▸ h)

theorem Control.Ok.unlessBusy (h : s.control.Ok) (seq code : Byte) {f : State → Carried}
    (hf : (f s).state.control.Ok) : (s.unlessBusy seq code f).state.control.Ok :=
  ite_within (P := fun x : Carried => x.state.control.Ok) (fun _ => h) hf

theorem Control.Ok.rowWrite (h : s.control.Ok) (seq kind : Byte) (b : RowBytes) :
    (s.rowWrite seq kind b).state.control.Ok := by
  unfold State.rowWrite
  split
  · exact h
  · split
    · exact h
    · split
      · exact h
      · exact Control.Ok.changeCopy (s := { s with unsaved := true }) h _

theorem State.paramWrite_control (s : State) (seq number : Byte) (v : Half) :
    (s.paramWrite seq number v).state.control = s.control := by
  unfold State.paramWrite
  split
  · rfl
  · split <;> rfl

theorem Control.Ok.freeSlot (h : s.control.Ok) (i : Nat) : (s.freeSlot i).control.Ok :=
  .ite (Control.Ok.recompute h) h

theorem Control.Ok.recordClear (h : s.control.Ok) (seq slot : Byte) : (s.recordClear seq slot).state.control.Ok := by
  unfold State.recordClear
  split
  · split
    · exact h
    · split
      · exact h
      · exact h
      · exact h
      · exact h.freeSlot _
      · exact h.freeSlot _
  · exact h

/-! The sweep commands move the fault table alone. -/

theorem State.startSweep_control (s : State) (seq start unit kind mode count : Byte) :
    (s.startSweep seq start unit kind mode count).state.control = s.control := by
  unfold State.startSweep
  split
  · rfl
  · split <;> rfl

theorem State.resumeSweep_control (s : State) (seq : Byte) : (s.resumeSweep seq).state.control = s.control := by
  unfold State.resumeSweep
  split <;> rfl

theorem State.cancelSweep_control (s : State) (seq : Byte) : (s.cancelSweep seq).state.control = s.control := by
  unfold State.cancelSweep
  split <;> rfl

theorem Control.Ok.setOverrides (h : s.control.Ok) (os : List Override) : (s.setOverrides os).control.Ok :=
  Control.Ok.recompute (h.of_flags ..)

theorem Control.Ok.pushOverride (h : s.control.Ok) (seq a b l i : Byte) :
    (s.pushOverride seq a b l i).state.control.Ok := by
  unfold State.pushOverride
  split
  · exact h
  · split
    · exact h
    · exact h.setOverrides _

theorem Control.Ok.popOverride (h : s.control.Ok) (seq : Byte) : (s.popOverride seq).state.control.Ok := by
  unfold State.popOverride
  split
  · exact h
  · exact h.setOverrides _

theorem Control.Ok.leaveToStandby (h : s.control.Ok) : s.leaveToStandby.control.Ok :=
  Control.Ok.enterStandby (h.of_flags ..)

theorem Control.Ok.idleLeave (h : s.control.Ok) : s.idleLeave.control.Ok :=
  (Control.Ok.revertIfInvalid (s := s.abandonSweep) h _).leaveToStandby

theorem Control.Ok.enterService (h : s.control.Ok) : s.enterService.control.Ok :=
  Control.Ok.recompute (s := s.stopGatherIfStandby.setChip .service)
    ((h.of_eq s.stopGatherIfStandby_control).of_flags ..)

theorem Control.Ok.serviceLeave (h : s.control.Ok) (seq : Byte) : (s.serviceLeave seq).control.Ok := by
  unfold State.serviceLeave
  dsimp only
  split
  · exact h.of_eq (by simp)
  · exact (Control.Ok.leaveToStandby (s := s.abandonSweep) h).of_eq (by simp)

/-! ## Every command keeps target, applied state and lines sound -/

theorem Control.Ok.next (e : Host.Outcome.next (φ := Fault) (ρ := Refusal) s = .next t) (h : s.control.Ok) :
    t.control.Ok := by
  cases e; exact h

/-- Every expiry command takes its expiry and, in force, has one effect. -/
theorem Control.Ok.expiry (h : s.control.Ok) (x : Chan) {b : Prop} [Decidable b] {f : State → State}
    (hf : ∀ u : State, u.control.Ok → (f u).control.Ok) :
    (if b then f (s.afterExpiry x) else s.afterExpiry x).control.Ok :=
  .ite (hf _ h) h

theorem exec_keeps_controlOk (i : Instr) (s t : State) (h : s.control.Ok) (e : exec i s = .next t) :
    t.control.Ok := by
  cases i with
  -- the containment controller (07)
  | arrivalNotice u => exact .next e (Control.Ok.noticeOf (s := s.took _) h u)
  | linkStateNotice p => exact .next e (Control.Ok.testDrive (s := s.took _) h)
  | containmentAnnouncement => exact .next e (Control.Ok.recompute (s := s.took _) h)
  | haltRampExpiry => exact .next e (h.expiry _ fun _ hu => hu.haltRampEnds)
  | gatherExpiry => exact .next e (h.expiry _ fun _ hu => hu.gatherExpires)
  | gatherBatchTaken => exact .next e (.ite (Control.Ok.gatherFinished (s := s.took _) h) h)
  | endOfLoading => exact .next e (.ite (Control.Ok.endLoading (s := s.took _) h) h)
  | wakeRising =>
    have hw := h.acceptWake true
    exact .next e (.ite (Control.Ok.enterStandby (s := (s.acceptWake true).tableEvent _) hw) hw)
  | wakeFalling => exact .next e (h.acceptWake false).wakeFell
  | powerOn cause torn => exact .next e Control.initial_ok
  -- the configuration store (10)
  | loadImageReadDone r => exact .next e (.ite (.ite (Control.Ok.loadResults (s := s.updStore _) h _ _) h) h)
  | loadLatchListReadDone r =>
    refine .next e ?_
    split
    · exact Control.Ok.loadResults (s := s.updStore _) h _ _
    all_goals exact h
  | reloadReadDone r => exact .next e (.ite (Control.Ok.reloadEnd (s := s.updStore _) h _) h)
  | savePageWriteDone a =>
    refine .next e ?_
    split
    · exact .ite (h.of_eq (by simp)) (h.of_eq (by simp))
    all_goals exact h
  | latchPageWriteDone a => exact .next e (.ite (.ite (h.of_eq (by simp)) (h.of_eq (by simp))) h)
  | saveReadbackDone r => exact .next e (.ite (.ite (h.of_eq (by simp)) (h.of_eq (by simp))) h)
  | storeEndReport =>
    refine .next e ?_
    split
    · exact h.of_eq (by simp)
    · exact h
  -- service commands and leaves (09)
  | rowWrite => exact .next e (h.inService _ _ _ fun _ hu => hu.unlessBusy _ _ (hu.rowWrite _ _ _))
  | paramWrite =>
    exact .next e (h.inService _ _ _ fun _ hu => hu.unlessBusy _ _ (hu.of_eq (State.paramWrite_control ..)))
  | storeSave | storeReload =>
    exact .next e (h.inService _ _ _ fun _ hu => hu.unlessBusy _ _ (hu.of_eq (by simp)))
  | recordClear => exact .next e (h.inService _ _ _ fun _ hu => hu.recordClear _ _)
  | sweepStart => exact .next e (h.inService _ _ _ fun _ hu => hu.of_eq (State.startSweep_control ..))
  | sweepResume => exact .next e (h.inService _ _ _ fun _ hu => hu.of_eq (State.resumeSweep_control ..))
  | sweepCancel => exact .next e (h.inService _ _ _ fun _ hu => hu.of_eq (State.cancelSweep_control ..))
  | overridePush => exact .next e (h.inService _ _ _ fun _ hu => hu.pushOverride _ _ _ _ _)
  | overridePop => exact .next e (h.inService _ _ _ fun _ hu => hu.popOverride _)
  | serviceEnter seq =>
    refine .next e ?_
    split
    · exact .ite (h.of_eq (by simp)) (h.of_eq (by simp))
    · exact (Control.Ok.enterService (s := s.takeCommand (.serviceEnter seq)) h).of_eq (by simp)
  | serviceLeave seq =>
    exact .next e (.ite (.ite (h.of_eq (by simp)) (Control.Ok.serviceLeave (s := s.takeCommand _) h seq))
      (h.of_eq (by simp)))
  | serviceIdleExpiry => exact .next e (h.expiry _ fun _ hu => hu.idleLeave)
  -- the commands that leave the controller alone
  | frameReceived | receiveError | byteReceived | breakEnd => exact .next e (.ite h (h.of_eq (by simp)))
  | lineBreak => exact .next e (.ite h (.ite (h.of_eq (by simp)) (h.of_eq (by simp))))
  | freshnessExpiry p =>
    exact .next e (h.expiry p.channel (f := fun u => u.silence p) fun _ hu => hu.of_eq (by simp))
  | transmitterTakeFrame p =>
    refine .next e ?_
    split
    · exact h
    · cases p <;> exact h.of_eq (by simp)
  | recordTickExpiry => exact .next e (.ite h h)
  | envelopeExpiry | checkExpiry | storeWaitExpiry => exact .next e (h.expiry _ fun _ hu => hu.of_eq (by simp))
  | sweepExamination => exact .next e (.ite h h)
  | switchChangeAccepted => exact .next e (.ite h (.ite h h))
  | timeBaseStep | isolationNotice => exact .next e h
  | latchRewriteRequest => exact .next e (h.of_eq (by simp))
  | queryRecords | queryLink | queryRow | queryParam | queryEnvelope | unknownCommand => exact .next e h

end

/-- Settles O56: a change of the queue leaves the controller alone, and every command keeps it sound. -/
theorem everyStepKeepsLinesAndAppliedState : Obligations.EveryStepKeepsLinesAndAppliedState :=
  step_keeps (fun _ _ h => h) exec_keeps_controlOk

end Sys2Proof.Machine
end

section
/-! PROOFS. The target state (O29): the least that the contained records, TABLE_FULL, the chip state and the top
override entry leave (07 R113 to R116). -/

namespace Sys2Proof.Machine

open Sys2Proof

/-! ## The more restrictive of two levels (00_scope.md) -/

section
variable {a b : Level}

theorem Level.le_max_left (a b : Level) : a.rank ≤ (a.max b).rank := by
  unfold Level.max
  split
  · next h => exact Nat.le_of_lt h
  · exact Nat.le_refl _

theorem Level.le_max_right (a b : Level) : b.rank ≤ (a.max b).rank := by
  unfold Level.max
  split
  · exact Nat.le_refl _
  · next h => exact Nat.le_of_not_lt h

theorem Level.max_within {P : Level → Prop} (ha : P a) (hb : P b) : P (a.max b) := ite_within (fun _ => hb) ha

theorem Level.eq_halt_of_le (h : Level.halt.rank ≤ a.rank) : a = .halt :=
  Level.rank_inj (Nat.le_antisymm a.rank_le h)

end

/-! ## The contained records: floors and derate percents (R113, R114) -/

section
variable {c : Copy} {rs : List FaultRecord}

theorem foldl_floor_ge (rs : List FaultRecord) (l : Level) :
    l.rank ≤ (rs.foldl (fun l r => l.max (c.rows.get r.kind).floor) l).rank
      ∧ ∀ r ∈ rs, (c.rows.get r.kind).floor.rank
        ≤ (rs.foldl (fun l r => l.max (c.rows.get r.kind).floor) l).rank := by
  induction rs generalizing l with
  | nil => simp
  | cons x rs ih =>
    obtain ⟨hx, hrs⟩ := ih (l.max (c.rows.get x.kind).floor)
    exact ⟨(Level.le_max_left _ _).trans hx, List.forall_mem_cons.2 ⟨(Level.le_max_right _ _).trans hx, hrs⟩⟩

theorem floor_le_floorLevel {r : FaultRecord} (h : r ∈ rs) :
    (c.rows.get r.kind).floor.rank ≤ (floorLevel c rs).rank :=
  (foldl_floor_ge rs .full).2 r h

/-- The least level above the floors is one of them, if there is any. -/
theorem floorLevel_within {P : Level → Prop} (hfull : P .full) (hfloor : ∀ r ∈ rs, P (c.rows.get r.kind).floor) :
    P (floorLevel c rs) := by
  unfold floorLevel
  generalize Level.full = l at hfull
  induction rs generalizing l with
  | nil => exact hfull
  | cons x rs ih =>
    obtain ⟨hx, hrs⟩ := List.forall_mem_cons.1 hfloor
    exact ih hrs _ (Level.max_within hfull hx)

/-- One record's part in the derate percent: only a row whose floor is DERATE lowers it (R114). -/
theorem derateOf_cons_le (n : Nat) (r : FaultRecord) :
    (if (c.rows.get r.kind).floor = .derate then min n (c.rows.get r.kind).derate else n) ≤ n :=
  ite_within (P := (· ≤ n)) (fun _ => Nat.min_le_left n _) (Nat.le_refl n)

theorem derateOf_le_row {r : FaultRecord} (h : r ∈ rs) (hf : (c.rows.get r.kind).floor = .derate) :
    derateOf c rs ≤ (c.rows.get r.kind).derate := by
  unfold derateOf
  generalize 100 = n
  induction rs generalizing n with
  | nil => cases h
  | cons x rs ih =>
    rcases List.mem_cons.1 h with rfl | h
    · rw [List.foldl_cons, if_pos hf]
      exact (foldl_le derateOf_cons_le rs _).trans (Nat.min_le_right _ _)
    · exact ih h _

theorem derateOf_within {P : Nat → Prop} (h100 : P 100)
    (hrow : ∀ r ∈ rs, (c.rows.get r.kind).floor = .derate → P (c.rows.get r.kind).derate) : P (derateOf c rs) := by
  unfold derateOf
  generalize 100 = n at h100
  induction rs generalizing n with
  | nil => exact h100
  | cons x rs ih =>
    obtain ⟨hx, hrs⟩ := List.forall_mem_cons.1 hrow
    refine ih hrs _ (ite_within (fun hf => ?_) h100)
    exact ite_within (fun _ => h100) (hx hf)

end

/-! ## The level in DRIVE (R113) -/

section
variable {c : Copy} {t : FaultTable} {isoFront isoRear : Bool} {l : Level}

theorem floorLevel_le_tableLevel : (floorLevel c t.contained).rank ≤ (tableLevel c t).rank := by
  unfold tableLevel
  dsimp only
  split
  · exact Level.le_max_left _ _
  · exact Nat.le_refl _

theorem walk_le_tableLevel (h : t.tableFull = true) : Level.walk.rank ≤ (tableLevel c t).rank := by
  simp only [tableLevel, h, if_true]
  exact Level.le_max_right _ _

theorem le_motorRule : l.rank ≤ (motorRule isoFront isoRear l).rank := by
  unfold motorRule
  split
  · exact l.rank_le
  · split
    · exact Level.le_max_left _ _
    · exact Nat.le_refl _

theorem limp_le_motorRule (h : isoFront = true ∨ isoRear = true) :
    Level.limp.rank ≤ (motorRule isoFront isoRear l).rank := by
  unfold motorRule
  split
  · decide
  · rw [if_pos (Bool.or_eq_true_iff.2 h)]
    exact Level.le_max_right _ _

theorem motorRule_both : motorRule true true l = .halt := rfl

end

/-! ## The parts in every chip state (R113 to R116) -/

/-- The override entry that has effect: the top one, in SERVICE (R115, R116). -/
def topOverride (chip : Chip) (os : List Override) : Option Override := if chip = .service then os.head? else none

section
variable (chip : Chip) (c : Copy) (t : FaultTable) (os : List Override)

theorem targetFor_isoFront : (targetFor chip c t os).isoFront
    = (t.contained.any (isolates c .front) || (topOverride chip os).any Override.isoFront) := by
  cases chip with
  | loading | standby | shutdown | drive => exact (Bool.or_false _).symm
  | service =>
    cases os with
    | nil => exact (Bool.or_false _).symm
    | cons o os => rfl

theorem targetFor_isoRear : (targetFor chip c t os).isoRear
    = (t.contained.any (isolates c .rear) || (topOverride chip os).any Override.isoRear) := by
  cases chip with
  | loading | standby | shutdown | drive => exact (Bool.or_false _).symm
  | service =>
    cases os with
    | nil => exact (Bool.or_false _).symm
    | cons o os => rfl

theorem targetFor_regenInhibit : (targetFor chip c t os).regenInhibit
    = ((t.contained.any fun x => (c.rows.get x.kind).regenInhibit)
      || (topOverride chip os).any Override.regenInhibit) := by
  cases chip with
  | loading | standby | shutdown | drive => exact (Bool.or_false _).symm
  | service =>
    cases os with
    | nil => exact (Bool.or_false _).symm
    | cons o os => rfl

theorem targetFor_packOpen :
    (targetFor chip c t os).packOpen = t.contained.any fun x => (c.rows.get x.kind).packOpen := by
  cases chip with
  | loading | standby | shutdown | drive => rfl
  | service => cases os <;> rfl

/-- Outside DRIVE and SERVICE the target level is HALT (R113, R115). -/
theorem targetFor_level_halt {chip : Chip} (hd : chip ≠ .drive) (hs : chip ≠ .service) :
    (targetFor chip c t os).level = .halt := by
  cases chip with
  | loading | standby | shutdown => rfl
  | drive => exact absurd rfl hd
  | service => exact absurd rfl hs

/-- The level that SERVICE makes of the level in DRIVE: WALK or more, and the floor of the top entry (R115). -/
def serviceFloor (l : Level) (top : Option Override) : Level :=
  match top with
  | none => l.max .walk
  | some o => (l.max .walk).max o.floor

variable {l : Level} {top : Option Override}

theorem targetFor_level_service : (targetFor .service c t os).level =
    if (targetFor .service c t os).isoFront && (targetFor .service c t os).isoRear then .halt
    else serviceFloor (driveTarget c t).level (topOverride .service os) := by
  cases os <;> rfl

theorem le_serviceFloor : l.rank ≤ (serviceFloor l top).rank := by
  cases top with
  | none => exact Level.le_max_left _ _
  | some o => exact (Level.le_max_left _ _).trans (Level.le_max_left _ _)

theorem walk_le_serviceFloor : Level.walk.rank ≤ (serviceFloor l top).rank := by
  cases top with
  | none => exact Level.le_max_right _ _
  | some o => exact (Level.le_max_right _ _).trans (Level.le_max_left _ _)

theorem serviceFloor_le_targetFor :
    (serviceFloor (driveTarget c t).level (topOverride .service os)).rank ≤ (targetFor .service c t os).level.rank := by
  rw [targetFor_level_service]
  split
  · exact Level.rank_le _
  · exact Nat.le_refl _

/-- In SERVICE the target level is WALK or more (R115). -/
theorem walk_le_targetFor_service : Level.walk.rank ≤ (targetFor .service c t os).level.rank :=
  walk_le_serviceFloor.trans (serviceFloor_le_targetFor c t os)

end

/-! ## What leaves the level where it is -/

/-- The reasons a target level can have, given the isolated set (R113 to R115). -/
inductive LevelReason (c : Copy) (t : FaultTable) (d : Drive) (service : Prop) (top : Option Override) :
    Level → Prop where
  | none : LevelReason c t d service top .full
  | record (r : FaultRecord) (h : r ∈ t.contained) : LevelReason c t d service top (c.rows.get r.kind).floor
  | tableFull (h : t.tableFull = true) : LevelReason c t d service top .walk
  | oneMotor (h : d.isoFront = true ∨ d.isoRear = true) : LevelReason c t d service top .limp
  | bothMotors (hf : d.isoFront = true) (hr : d.isoRear = true) (l : Level) : LevelReason c t d service top l
  | service (h : service) : LevelReason c t d service top .walk
  | override (o : Override) (h : top = some o) : LevelReason c t d service top o.floor

section
variable {c : Copy} {t : FaultTable} {d : Drive} {p : Prop} {top : Option Override}

/-- The level in DRIVE has a reason wherever the motors that the records isolate are isolated. -/
theorem LevelReason.driveTarget (hf : (driveTarget c t).isoFront = true → d.isoFront = true)
    (hr : (driveTarget c t).isoRear = true → d.isoRear = true) : LevelReason c t d p top (driveTarget c t).level := by
  have table : LevelReason c t d p top (tableLevel c t) := by
    have floors : LevelReason c t d p top (floorLevel c t.contained) := floorLevel_within .none .record
    exact ite_within (fun h => Level.max_within floors (.tableFull h)) floors
  refine ite_within (fun h => ?_) (ite_within (fun h => Level.max_within table (.oneMotor ?_)) table)
  · obtain ⟨h1, h2⟩ := Bool.and_eq_true_iff.1 h
    exact .bothMotors (hf h1) (hr h2) _
  · exact (Bool.or_eq_true_iff.1 h).imp hf hr

theorem LevelReason.serviceFloor {l : Level} (h : LevelReason c t d p top l) (hp : p) :
    LevelReason c t d p top (serviceFloor l top) := by
  have walk := Level.max_within h (.service hp)
  cases top with
  | none => exact walk
  | some o => exact Level.max_within walk (.override o rfl)

end

section
variable {chip : Chip} {c : Copy} {t : FaultTable} {os : List Override}

theorem driveTarget_isoFront_le (h : (driveTarget c t).isoFront = true) : (targetFor chip c t os).isoFront = true := by
  rw [targetFor_isoFront]
  exact Bool.or_eq_true_iff.2 (.inl h)

theorem driveTarget_isoRear_le (h : (driveTarget c t).isoRear = true) : (targetFor chip c t os).isoRear = true := by
  rw [targetFor_isoRear]
  exact Bool.or_eq_true_iff.2 (.inl h)

/-- In DRIVE and SERVICE the target level is no less than the contained records and TABLE_FULL ask (R113, R115). -/
theorem driveTarget_level_le (h : chip = .drive ∨ chip = .service) :
    (driveTarget c t).level.rank ≤ (targetFor chip c t os).level.rank := by
  rcases h with rfl | rfl
  · exact Nat.le_refl _
  · exact le_serviceFloor.trans (serviceFloor_le_targetFor c t os)

/-- A target that isolates both motors halts (R113, R115). -/
theorem targetFor_both (h : chip = .drive ∨ chip = .service) (hf : (targetFor chip c t os).isoFront = true)
    (hr : (targetFor chip c t os).isoRear = true) : (targetFor chip c t os).level = .halt := by
  rcases h with rfl | rfl
  · have hd : (driveTarget c t).level
        = motorRule (driveTarget c t).isoFront (driveTarget c t).isoRear (tableLevel c t) := rfl
    exact hd.trans (by rw [show (driveTarget c t).isoFront = true from hf,
      show (driveTarget c t).isoRear = true from hr, motorRule_both])
  · rw [targetFor_level_service, hf, hr]
    rfl

theorem targetFor_levelReason (h : chip = .drive ∨ chip = .service) :
    LevelReason c t (targetFor chip c t os) (chip = .service) (topOverride chip os)
      (targetFor chip c t os).level := by
  have base : LevelReason c t (targetFor chip c t os) (chip = .service) (topOverride chip os) (driveTarget c t).level :=
    .driveTarget driveTarget_isoFront_le driveTarget_isoRear_le
  rcases h with rfl | rfl
  · exact base
  · rw [targetFor_level_service]
    refine ite_within (fun hb => ?_) (base.serviceFloor rfl)
    obtain ⟨hf, hr⟩ := Bool.and_eq_true_iff.1 hb
    exact .bothMotors hf hr _

end

/-- Settles O29: the parts are read off the records and the top entry, the level's lower bounds come stage by stage,
and its reason is one of `LevelReason`. -/
theorem targetFollowsContainedRecords : Obligations.TargetFollowsContainedRecords := by
  rintro chip c t os d rfl
  refine ⟨?parts, ?halt, ?_, fun r hr hf => ?_, ?_, ?_⟩
  case parts =>
    intro top htop
    replace htop : topOverride chip os = top := htop.symm
    refine ⟨?_, ?_, ?_, fun hchip => ⟨fun r hr => ?_, fun h => ?_, fun h => ?_, targetFor_both hchip, ?_, ?_, ?_⟩⟩
    · simp [targetFor_isoFront, htop, isolates, Option.any_eq_true]
    · simp [targetFor_isoRear, htop, isolates, Option.any_eq_true]
    · simp [targetFor_regenInhibit, htop, Option.any_eq_true]
    · exact (floor_le_floorLevel hr).trans
        (floorLevel_le_tableLevel.trans (le_motorRule.trans (driveTarget_level_le hchip)))
    · exact (walk_le_tableLevel h).trans (le_motorRule.trans (driveTarget_level_le hchip))
    · rcases hchip with rfl | rfl
      · exact limp_le_motorRule h
      · exact Nat.le_trans (by decide) (walk_le_targetFor_service c t os)
    · rintro rfl
      exact walk_le_targetFor_service c t os
    · rintro o rfl
      obtain rfl : chip = .service := by
        by_contra hn
        simp [topOverride, hn] at htop
      refine Nat.le_trans ?_ (serviceFloor_le_targetFor c t os)
      rw [htop]
      exact Level.le_max_right _ _
    · rw [← htop]
      generalize hl : (targetFor chip c t os).level = l
      have reason := hl ▸ targetFor_levelReason (c := c) (t := t) (os := os) hchip
      cases reason with
      | none =>
        rcases hchip with rfl | rfl
        · exact .inl ⟨rfl, rfl⟩
        · exact absurd (hl ▸ walk_le_targetFor_service c t os) (by decide)
      | record r hr => exact .inr (.inl ⟨r, hr, rfl⟩)
      | tableFull h => exact .inr (.inr (.inl ⟨h, rfl⟩))
      | oneMotor h => exact .inr (.inr (.inr (.inl ⟨h, rfl⟩)))
      | bothMotors hf hr => exact .inr (.inr (.inr (.inr (.inl ⟨hf, hr⟩))))
      | service h => exact .inr (.inr (.inr (.inr (.inr (.inl ⟨h, rfl⟩)))))
      | override o h => exact .inr (.inr (.inr (.inr (.inr (.inr ⟨o, h, rfl⟩)))))
  case halt =>
    rintro (rfl | rfl | rfl)
    all_goals rfl
  · exact (targetFor_derate ..).symm ▸ derateOf_le _ _
  · exact (targetFor_derate ..).symm ▸ derateOf_le_row hr hf
  · rw [targetFor_derate]
    exact derateOf_within (P := fun n => n = 100 ∨ ∃ r ∈ t.contained,
        (c.rows.get r.kind).floor = .derate ∧ n = (c.rows.get r.kind).derate) (.inl rfl)
      fun r hr hf => .inr ⟨r, hr, hf, rfl⟩
  · simp [targetFor_packOpen]

end Sys2Proof.Machine
end

section
/-! PROOFS. Invariant of the chip state (O57): every step keeps `State.ChipOk`. -/

namespace Sys2Proof.Machine

open Sys2Proof

/-! ## The two halves of the invariant: where channels run, overrides and sweeps, and the levels -/

/-- The chip states in which a channel may run (03 R44, 07 R107). -/
def Chan.mayRun : Chan → Chip → Prop
  | .gather, x => x = .standby
  | .serviceIdle, x => x = .service
  | .envelope, x | .check, x | .recordTick, x => x ≠ .loading
  | .freshFront, _ | .freshRear, _ | .freshPack, _ | .freshCkpt, _ | .haltRamp, _ | .storeWait, _ => True

theorem Port.channel_mayRun (p : Port) (x : Chip) : p.channel.mayRun x := by
  cases p <;> trivial

/-- What each chip state promises besides its levels. -/
structure State.ChipBounds (s : State) : Prop where
  stack   : s.control.overrides.length ≤ Config.overridePlaces
  emptied : s.control.chip ≠ .service → s.control.overrides = [] ∧ s.table.sweep.state = .idle
  runs    : ∀ c, s.runs c → c.mayRun s.control.chip

/-- What each chip state promises of the levels of target and applied state (R113, R115). -/
structure Control.LevelsOk (c : Control) : Prop where
  halted  : c.chip ≠ .drive → c.chip ≠ .service → c.target.level = .halt ∧ c.applied.level = .halt
  walking : c.chip = .service →
    Level.walk.rank ≤ c.target.level.rank ∧ Level.walk.rank ≤ c.applied.level.rank

section
variable {s t : State}

theorem State.ChipBounds.chipOk (h : s.ChipBounds) (hl : s.control.LevelsOk) : s.ChipOk where
  halted := hl.halted
  walking := hl.walking
  stack := h.stack
  emptied := h.emptied
  gather := h.runs .gather
  idle := h.runs .serviceIdle
  loading hc := ⟨fun hr => h.runs .envelope hr hc, fun hr => h.runs .check hr hc,
    fun hr => h.runs .recordTick hr hc⟩

theorem State.ChipOk.bounds (h : s.ChipOk) : s.ChipBounds where
  stack := h.stack
  emptied := h.emptied
  runs c hr := by
    cases c with
    | gather => exact h.gather hr
    | serviceIdle => exact h.idle hr
    | envelope => exact fun hc => (h.loading hc).1 hr
    | check => exact fun hc => (h.loading hc).2.1 hr
    | recordTick => exact fun hc => (h.loading hc).2.2 hr
    | freshFront | freshRear | freshPack | freshCkpt | haltRamp | storeWait => trivial

theorem State.ChipOk.levels (h : s.ChipOk) : s.control.LevelsOk := ⟨h.halted, h.walking⟩

/-! ## Frames: what leaves the controller alone, idles no sweep and starts no channel of the chip states -/

/-- A sweep begins nowhere but in SERVICE, and a channel runs on where it may. -/
theorem State.ChipBounds.of_frame (h : s.ChipBounds) (hc : t.control = s.control := by simp)
    (hs : s.table.sweep.state = .idle → t.table.sweep.state = .idle := by simp)
    (hr : ∀ c, t.runs c → s.runs c ∨ c.mayRun s.control.chip := by simp [State.runs]) : t.ChipBounds where
  stack := hc ▸ h.stack
  emptied hn := by
    obtain ⟨ho, hi⟩ := h.emptied (hc ▸ hn)
    exact ⟨hc ▸ ho, hs hi⟩
  runs c hrun := hc ▸ (hr c hrun).elim (h.runs c) id

theorem State.ChipOk.of_frame (h : s.ChipOk) (hc : t.control = s.control := by simp)
    (hs : s.table.sweep.state = .idle → t.table.sweep.state = .idle := by simp)
    (hr : ∀ c, t.runs c → s.runs c ∨ c.mayRun s.control.chip := by simp [State.runs]) : t.ChipOk :=
  (h.bounds.of_frame hc hs hr).chipOk (hc ▸ h.levels)

/-- What the frame laws show to leave the controller, the table and the channels alone. -/
theorem State.ChipOk.of_eq (h : s.ChipOk) (hc : t.control = s.control := by simp)
    (ht : t.table = s.table := by simp) (hm : t.timers = s.timers := by simp) : t.ChipOk :=
  h.of_frame hc (fun hi => ht ▸ hi) fun c hr => .inl (by rwa [State.runs, hm] at hr)

theorem State.ChipOk.ite {b : Prop} [Decidable b] {u v : State} (hu : b → u.ChipOk) (hv : v.ChipOk) :
    (if b then u else v).ChipOk := ite_within hu hv

/-- The invariant asks nothing of the wake flag and of gather done. -/
theorem State.ChipOk.withFlags (h : s.ChipOk) (awake gatherDone : Bool) :
    State.ChipOk { s with control := { s.control with awake := awake, gatherDone := gatherDone } } :=
  { h with }

/-! ## Timer channels (03 R34 to R40) -/

/-- An operation may leave a channel running where it may run; it touches no other channel. -/
theorem State.operate_runs {c d : Chan} {f : Channel → Channel} (hr : (s.operate c f).runs d) :
    s.runs d ∨ d = c ∧ (f (s.timers.get c)).state = .running := by
  by_cases hd : d = c
  · subst hd
    rw [State.runs, State.operate_timers_get] at hr
    exact .inr ⟨rfl, hr⟩
  · rw [State.runs, State.operate_timers_get_ne _ _ _ hd] at hr
    exact .inl hr

theorem State.ChipOk.start (h : s.ChipOk) {c : Chan} (hc : c.mayRun s.control.chip) : (s.start c).ChipOk := by
  refine h.of_frame rfl id fun d hr => ?_
  rcases State.operate_runs hr with hr | ⟨rfl, -⟩
  · exact .inl hr
  · exact .inr hc

theorem State.stop_runs {c d : Chan} (hr : (s.stop c).runs d) : s.runs d ∧ d ≠ c := by
  have hne : d ≠ c := by
    rintro rfl
    rw [State.runs, State.stop, State.operate_timers_get] at hr
    cases hr
  rcases State.operate_runs hr with hs | ⟨hd, -⟩
  · exact ⟨hs, hne⟩
  · exact absurd hd hne

theorem State.ChipOk.stop (h : s.ChipOk) (c : Chan) : (s.stop c).ChipOk :=
  h.of_frame rfl id fun _ hr => .inl (State.stop_runs hr).1

theorem State.ChipOk.arm (h : s.ChipOk) (c : Chan) : (s.arm c).ChipOk := by
  refine h.of_frame rfl id fun d hr => ?_
  rcases State.operate_runs hr with hr | ⟨-, hr⟩
  · exact .inl hr
  · cases hr

/-- A channel that runs after an expiry ran before it (R36). -/
theorem State.afterExpiry_runs {c d : Chan} (hr : (s.afterExpiry c).runs d) : s.runs d := by
  simp only [State.runs, State.afterExpiry] at hr
  split at hr
  · exact hr
  · split at hr
    · next hrun =>
      by_cases hd : d = c
      · exact hd ▸ hrun
      · rwa [Timers.get_set_ne _ _ _ _ hd] at hr
    · exact hr

theorem State.ChipOk.afterExpiry (h : s.ChipOk) (c : Chan) : (s.afterExpiry c).ChipOk :=
  h.of_frame rfl id fun _ hr => .inl (State.afterExpiry_runs hr)

/-- Every expiry command takes its expiry and, in force, has one effect. -/
theorem State.ChipOk.expiry (h : s.ChipOk) (c : Chan) {b : Prop} [Decidable b] {f : State → State}
    (hf : ∀ u : State, u.ChipOk → (f u).ChipOk) :
    (if b then f (s.afterExpiry c) else s.afterExpiry c).ChipOk :=
  .ite (fun _ => hf _ (h.afterExpiry c)) (h.afterExpiry c)

/-- A channel that runs after a step of the time base ran before it (R35). -/
theorem Channel.running_of_step {w : Params} {c : Chan} {x : Channel} (h : (x.step w c).state = .running) :
    x.state = .running := by
  by_contra hn
  exact hn (by rwa [Channel.step_of_not_running hn] at h)

/-! ## The fault table: no event but a SWEEP_START begins a sweep (05 R84, R87) -/

theorem Sweep.onConfirmation_idle {w : Sweep} (h : w.state = .idle) : w.onConfirmation.state = .idle := by
  simp [Sweep.onConfirmation, h]

section
variable {x : FaultTable} (h : x.sweep.state = .idle)
include h

theorem FaultTable.evidence_idle (c : Copy) (now : Time) (u : FaultUnit) (k : Kind) (v : Option EvidenceValue) :
    (x.evidence c now u k v).table.sweep.state = .idle := by
  unfold FaultTable.evidence
  split
  · split
    · rw [FaultTable.evidenceFor_sweep]
      exact ite_within (P := fun w : Sweep => w.state = .idle) (fun _ => Sweep.onConfirmation_idle h) h
    · unfold FaultTable.evidenceNew
      dsimp only
      split
      · dsimp only
        split
        · exact Sweep.onConfirmation_idle h
        · exact h
      · exact h
  · exact h

theorem FaultTable.deliver_idle (c : Copy) (now : Time) (d : Delivery) :
    (x.deliver c now d).table.sweep.state = .idle := by
  cases d with
  | evidence u k v => exact FaultTable.evidence_idle h c now u k v
  | clean u k =>
    rw [FaultTable.deliver, FaultTable.clean_sweep]
    exact h

end

theorem FaultTable.restoreEntry_sweep (now : Time) (x : FaultTable) (e : LatchEntry) :
    (x.restoreEntry now e).sweep = x.sweep := by
  unfold FaultTable.restoreEntry
  split
  · rfl
  · split <;> rfl

theorem FaultTable.restore_sweep (x : FaultTable) (now : Time) (es : List LatchEntry) :
    (x.restore now es).table.sweep = x.sweep := by
  simp only [FaultTable.restore]
  induction es generalizing x with
  | nil => rfl
  | cons e es ih => rw [List.foldl_cons, ih, FaultTable.restoreEntry_sweep]

theorem FaultTable.abandonSweep_idle (x : FaultTable) : x.abandonSweep.sweep.state = .idle := by
  unfold FaultTable.abandonSweep
  split
  · next h => exact h
  · rfl

theorem State.ChipOk.tableEvent (h : s.ChipOk) {o : TableOut}
    (ho : s.table.sweep.state = .idle → o.table.sweep.state = .idle) : (s.tableEvent o).ChipOk :=
  h.of_frame rfl ho fun _ hr => .inl hr

theorem State.ChipOk.deliver (h : s.ChipOk) (d : Delivery) : (s.deliver d).ChipOk :=
  h.tableEvent fun hi => FaultTable.deliver_idle hi _ _ _

theorem State.ChipOk.deliverAll (h : s.ChipOk) (ds : List Delivery) : (s.deliverAll ds).ChipOk := by
  induction ds generalizing s with
  | nil => exact h
  | cons d ds ih => exact ih (h.deliver d)

/-! ## What a port hears (01 R2 to R10) -/

theorem State.ChipOk.receiveError (h : s.ChipOk) (p : Port) (e : RxError) : (s.receiveError p e).ChipOk :=
  State.ChipOk.deliver (h.of_eq (t := s.updPort p (LinkPort.afterError e))) _

theorem State.ChipOk.acceptFrame (h : s.ChipOk) (p : Port) (c : SeqClass) (seq : Byte) :
    (s.acceptFrame p c seq).ChipOk := by
  have hp : (s.updPort p (LinkPort.accepted c seq)).ChipOk := h.of_eq
  exact State.ChipOk.deliverAll (State.ChipOk.of_eq (hp.start (Port.channel_mayRun p _))) _

theorem State.ChipOk.reportVerdicts (h : s.ChipOk) (u : FaultUnit) (n : Option Nat) (claims : List Kind) :
    (s.reportVerdicts u n claims).ChipOk := by
  have hd := h.deliver (obsRangeVerdict u n)
  unfold State.reportVerdicts
  generalize s.deliver (obsRangeVerdict u n) = v at hd
  induction claimable u generalizing v with
  | nil => exact hd
  | cons k ks ih => exact ih _ (.ite (fun _ => hd.deliver _) hd)

theorem State.ChipOk.handOn (h : s.ChipOk) (p : Port) (k : FrameKind) (seq : Byte) (l : List Byte) :
    (s.handOn p k seq l).ChipOk := by
  have report (o : Observations) (u : FaultUnit) (n : Option Nat) (claims : List Kind) (es : List Owed) :
      ((State.reportVerdicts { s with obs := o } u n claims).owe es).ChipOk :=
    State.ChipOk.of_eq (State.ChipOk.reportVerdicts (s := { s with obs := o }) h.of_eq u n claims)
  cases k with
  | motorReport =>
    cases p with
    | front | rear => exact report _ _ _ _ _
    | pack | cockpit => exact h
  | packReport => exact State.ChipOk.reportVerdicts (s := { s with obs := _ }) h.of_eq _ _ _
  | demand => exact report _ _ _ _ _
  | command => exact .ite (fun _ => h.of_eq) h.of_eq

theorem State.ChipOk.checkFrame (h : s.ChipOk) (p : Port) (body : List Byte) : (s.checkFrame p body).ChipOk := by
  unfold State.checkFrame
  split
  · exact h.of_eq
  · refine .ite (fun _ => h.of_eq) (.ite (fun _ => ?_) ((h.acceptFrame p _ _).handOn p _ _ _))
    exact State.ChipOk.deliver (h.of_eq (t := s.updPort p LinkPort.repeated)) _

theorem State.ChipOk.closeFrame (h : s.ChipOk) (p : Port) (body : List Byte) : (s.closeFrame p body).ChipOk := by
  unfold State.closeFrame
  split
  · exact h.of_eq
  · split
    · exact h.receiveError p _
    · exact State.ChipOk.checkFrame (s := s.updPort p LinkPort.opened) h.of_eq p _

theorem State.ChipOk.appendByte (h : s.ChipOk) (p : Port) (b : Byte) : (s.appendByte p b).ChipOk :=
  .ite (fun _ => h.receiveError p _) h.of_eq

/-- The framer takes any item (R2). -/
theorem State.ChipOk.frameItem (h : s.ChipOk) (p : Port) (i : RxItem) : (s.frameItem p i).ChipOk := by
  unfold State.frameItem
  split
  · exact .ite (fun _ => h.of_eq) h
  · cases i with
    | framingError => exact h.receiveError p _
    | byte b => exact .ite (fun _ => h.closeFrame p _) (.ite (fun _ => h.of_eq) (h.appendByte p b))
  · cases i with
    | framingError => exact h.receiveError p _
    | byte b =>
      exact .ite (fun _ => h.of_eq)
        (.ite (fun _ => h.appendByte p _) (.ite (fun _ => h.appendByte p _) (h.receiveError p _)))

theorem State.ChipOk.breakLink (h : s.ChipOk) (p : Port) : (s.breakLink p).ChipOk := by
  have hp : (s.updPort p LinkPort.broken).ChipOk := h.of_eq
  exact State.ChipOk.deliverAll (State.ChipOk.of_eq (hp.arm p.channel)) _

theorem State.ChipOk.silence (h : s.ChipOk) (p : Port) : (s.silence p).ChipOk :=
  .ite (fun _ => State.ChipOk.deliver h.of_eq _) h

/-! ## A recomputation gives the levels of the chip state anew (07 R112 to R117) -/

theorem State.Recomputes.chip (h : s.Recomputes t) : t.control.chip = s.control.chip :=
  (congrArg (fun u : State => u.control.chip) h.rest).trans rfl

/-- The applied level is at least the target's, so it halts with it and is WALK or more with it. -/
theorem State.Recomputes.levelsOk (h : s.Recomputes t) : t.control.LevelsOk := by
  refine ⟨fun hd hs => ?_, fun hs => ?_⟩
  · rw [h.chip] at hd hs
    have ht : t.control.target.level = .halt := h.target ▸ targetFor_level_halt _ _ _ hd hs
    exact ⟨ht, Level.eq_halt_of_le (ht ▸ h.covers.level)⟩
  · have ht : Level.walk.rank ≤ t.control.target.level.rank := by
      rw [h.target, ← h.chip, hs]
      exact walk_le_targetFor_service _ _ _
    exact ⟨ht, ht.trans h.covers.level⟩

theorem State.ChipBounds.recomputeCore (h : s.ChipBounds) : s.recomputeCore.ChipOk := by
  refine State.ChipBounds.chipOk ⟨by simpa using h.stack, by simpa using h.emptied, fun c hr => ?_⟩
    s.recomputeCore_spec.levelsOk
  by_cases hc : c = .haltRamp
  · subst hc
    trivial
  · rw [State.runs, s.recomputeCore_spec.timers_get c hc] at hr
    exact (State.recomputeCore_chip s).symm ▸ h.runs c hr

/-- Outside SERVICE no SERVICE_IDLE runs, and GATHER runs in STANDBY alone. -/
theorem State.ChipOk.not_runs_gather (h : s.ChipOk) (hc : s.control.chip ≠ .standby) : ¬ s.runs .gather :=
  mt h.gather hc

theorem State.ChipOk.not_runs_serviceIdle (h : s.ChipOk) (hc : s.control.chip ≠ .service) : ¬ s.runs .serviceIdle :=
  mt h.idle hc

/-- A chip state outside SERVICE and LOADING asks for no overrides and sweep, and for its own channels. -/
theorem State.ChipBounds.of_emptied (ho : s.control.overrides = []) (hs : s.table.sweep.state = .idle)
    (hg : s.runs .gather → s.control.chip = .standby) (hi : ¬ s.runs .serviceIdle) (hl : s.control.chip ≠ .loading) :
    s.ChipBounds where
  stack := by simp [ho]
  emptied _ := ⟨ho, hs⟩
  runs c hr := by
    cases c with
    | gather => exact hg hr
    | serviceIdle => exact absurd hr hi
    | envelope | check | recordTick => exact hl
    | freshFront | freshRear | freshPack | freshCkpt | haltRamp | storeWait => trivial

/-- The move to DRIVE stops the gather that ran in STANDBY (R106, R107). -/
theorem State.ChipOk.testDrive (h : s.ChipOk) : s.testDrive.ChipOk := by
  refine .ite (fun hd => State.ChipBounds.recomputeCore ?_) h
  obtain ⟨hchip, -⟩ := hd
  have hn : s.control.chip ≠ .service := by simp [hchip]
  obtain ⟨ho, hs⟩ := h.emptied hn
  exact .of_emptied ho hs (fun hr => absurd rfl (State.stop_runs hr).2)
    (fun hr => h.not_runs_serviceIdle hn (State.stop_runs hr).1) nofun

theorem State.ChipBounds.recompute (h : s.ChipBounds) : s.recompute.ChipOk := h.recomputeCore.testDrive

/-- STANDBY can be entered with the override stack empty, no sweep, and SERVICE_IDLE stopped (R105). -/
theorem State.enterStandby_chipOk (ho : s.control.overrides = []) (hs : s.table.sweep.state = .idle)
    (hi : ¬ s.runs .serviceIdle) : s.enterStandby.ChipOk := by
  refine State.ChipBounds.recompute (.of_emptied ho hs (fun _ => rfl) (fun hr => hi ?_) nofun)
  exact (State.operate_runs hr).elim id fun hx => absurd hx.1 (by decide)

theorem State.ChipOk.enterStandby (h : s.ChipOk) (hn : s.control.chip ≠ .service) : s.enterStandby.ChipOk :=
  have ⟨ho, hs⟩ := h.emptied hn
  State.enterStandby_chipOk ho hs (h.not_runs_serviceIdle hn)

/-- SHUTDOWN can be entered with the override stack empty, no sweep, and both channels of a chip state stopped. -/
theorem State.shutDown_chipOk (ho : s.control.overrides = []) (hs : s.table.sweep.state = .idle)
    (hg : ¬ s.runs .gather) (hi : ¬ s.runs .serviceIdle) : s.shutDown.ChipOk :=
  State.ChipBounds.recompute (.of_emptied ho hs (fun hr => absurd hr hg) hi nofun)

theorem State.ChipOk.keyCycle (h : s.ChipOk) (hn : s.control.chip ≠ .service) : s.keyCycle.ChipOk :=
  State.ChipOk.enterStandby (h.tableEvent (o := s.table.keyCycle s.working) id) hn

theorem State.ChipOk.gatherFinished (h : s.ChipOk) : s.gatherFinished.ChipOk :=
  State.ChipOk.testDrive (h.bounds.recomputeCore.withFlags _ true)

theorem State.ChipOk.gatherExpires (h : s.ChipOk) : s.gatherExpires.ChipOk := by
  refine .ite (fun _ => ?_) h
  split
  · exact h.gatherFinished
  · have batch := h.deliverAll (gatherBatch s.ports)
    exact batch.of_eq

theorem Control.afterLoading_cases (c : Control) : c.afterLoading = .standby ∨ c.afterLoading = .shutdown := by
  unfold Control.afterLoading
  cases c.awake <;> simp

/-- The periods begin once the chip has left LOADING (R104, 03 R44). -/
theorem State.ChipOk.endLoading (h : s.ChipOk) (hl : s.control.chip = .loading) : s.endLoading.ChipOk := by
  obtain ⟨ho, hs⟩ := h.emptied (by simp [hl])
  have hleft : s.control.afterLoading ≠ .loading ∧ s.control.afterLoading ≠ .service := by
    rcases s.control.afterLoading_cases with e | e <;> simp [e]
  have hcore : (s.setChip s.control.afterLoading).recomputeCore.ChipOk :=
    State.ChipBounds.recomputeCore (.of_emptied ho hs (fun hr => absurd hr (h.not_runs_gather (by simp [hl])))
      (h.not_runs_serviceIdle (by simp [hl])) hleft.1)
  have hchip : (s.setChip s.control.afterLoading).recomputeCore.control.chip = s.control.afterLoading := by
    simp [State.setChip]
  have hstarted := ((hcore.start (c := .envelope) (hchip.trans_ne hleft.1)).start (c := .check)
    (hchip.trans_ne hleft.1)).start (c := .recordTick) (hchip.trans_ne hleft.1)
  exact .ite (fun _ => hstarted.enterStandby (hchip.trans_ne hleft.2)) hstarted

/-! ## Notices and the HALT ramp: the levels of the target, and HALT_RAMP alone (07 R118 to R123) -/

theorem State.apply_control (s : State) (a : Drive) : (s.apply a).control = { s.control with
    applied := a, ramp := (s.apply a).control.ramp, permitFront := (s.apply a).control.permitFront
    permitRear := (s.apply a).control.permitRear, packOpen := (s.apply a).control.packOpen
    warn := (s.apply a).control.warn } := by
  obtain ⟨-, -, -, -, hk⟩ := State.rampFor_spec { s with control := { s.control with applied := a } }
    s.control.applied.level a.level
  simp only [State.apply, State.owe, State.setLines, Control.setLines]
  rw [hk]

/-- A change of the applied state moves no channel but HALT_RAMP. -/
theorem State.AppliedFollows.timers_get (h : s.AppliedFollows t) {c : Chan} (hc : c ≠ .haltRamp) :
    t.timers.get c = s.timers.get c := by
  by_cases hb : s.control.applied.level = .halt <;> by_cases ha : t.control.applied.level = .halt
  · rw [(h.rampStays (iff_of_true hb ha)).2]
  · obtain ⟨-, hstop, hrest⟩ := h.rampStop hb ha
    cases hr : s.control.ramp with
    | true => rw [hstop hr, Timers.get_set_ne _ _ _ _ hc]
    | false => rw [hrest hr]
  · rw [(h.rampStart hb ha).2, Timers.get_set_ne _ _ _ _ hc]
  · rw [(h.rampStays (iff_of_false hb ha)).2]

theorem State.apply_runs {a : Drive} {c : Chan} (hr : (s.apply a).runs c) : s.runs c ∨ ∀ x, c.mayRun x := by
  by_cases hc : c = .haltRamp
  · subst hc
    exact .inr fun _ => trivial
  · exact .inl (by rwa [State.runs, (s.apply_follows a).timers_get hc] at hr)

theorem State.ChipOk.cockpitNotice (h : s.ChipOk) : s.cockpitNotice.ChipOk := by
  refine .ite (fun _ => ?_) h
  have hk := s.apply_control (s.control.target.relax s.control.applied)
  refine State.ChipBounds.chipOk ⟨?_, ?_, fun c hr => ?_⟩ ⟨?_, ?_⟩
  · rw [hk]; exact h.stack
  · rw [hk, State.apply_table]; exact h.emptied
  · rw [hk]; exact (State.apply_runs hr).elim (h.bounds.runs c) fun hx => hx _
  · rw [hk]
    intro hd hs
    obtain ⟨ht, -⟩ := h.halted hd hs
    exact ⟨ht, ht⟩
  · rw [hk]
    intro hs
    obtain ⟨ht, -⟩ := h.walking hs
    exact ⟨ht, ht⟩

theorem State.ChipOk.endRamp (h : s.ChipOk) : State.ChipOk { s with control := s.control.endRamp } := { h with }

theorem State.ChipOk.noticeOf (h : s.ChipOk) (u : Reporter) : (s.noticeOf u).ChipOk := by
  have motor : s.motorNotice.ChipOk := .ite (fun _ => h.endRamp.stop .haltRamp) h
  cases u with
  | front | rear => exact motor
  | cockpit => exact h.cockpitNotice

/-! ## The working copy, the store and the leaves of SERVICE (04 R53, R59, 09 R171 to R173, 10) -/

theorem State.ChipOk.changeCopy (h : s.ChipOk) (x : Copy) : (s.changeCopy x).ChipOk := by
  have hw : State.ChipOk { s with working := x } := h.of_eq
  exact hw.bounds.recompute.tableEvent fun hi => show s.table.sweep.state = .idle by simpa using hi

theorem State.ChipOk.replaceCopies (h : s.ChipOk) (x : Copy) : (s.replaceCopies x).ChipOk :=
  State.ChipOk.changeCopy (s := { s with committed := x, unsaved := false }) h.of_eq x

theorem State.ChipOk.loadResults (h : s.ChipOk) (i : ImageOutcome) (l : LatchOutcome) : (s.loadResults i l).ChipOk := by
  have hr := (h.replaceCopies i.copy).tableEvent
    (o := (s.replaceCopies i.copy).table.restore (s.replaceCopies i.copy).now l.entries)
    fun hi => by rwa [FaultTable.restore_sweep]
  exact (hr.deliverAll (loadVerdicts i l)).of_eq (by simp [State.loadResults]) (by simp [State.loadResults])
    (by simp [State.loadResults])

theorem State.ChipOk.endReported (h : s.ChipOk) (d : Delivery) (e : StoreEnd) : (s.endReported d e).ChipOk :=
  (h.deliver d).of_eq (ht := by simp [State.endReported])

theorem State.ChipOk.saveMatched (h : s.ChipOk) : s.saveMatched.ChipOk :=
  State.ChipOk.endReported (s := { s with
    committed := bufferCopy s.store.imageBuffer s.committed, unsaved := s.store.replaced }) h.of_eq _ _

theorem State.ChipOk.reloadEnd (h : s.ChipOk) (i : ImageOutcome) : (s.reloadEnd i).ChipOk := by
  cases i with
  | valid x => exact (h.replaceCopies x).endReported _ _
  | noMemory | crc | invalid => exact h.endReported _ _

theorem State.ChipOk.storeWaited (h : s.ChipOk) : s.storeWaited.ChipOk := by
  unfold State.storeWaited
  split
  · exact h.of_eq
  · exact (State.ChipOk.deliver (s := s.memoryReady) h.of_eq storeClean).of_eq
  all_goals exact h

theorem State.ChipOk.completeWrite (h : s.ChipOk) : s.completeWrite.ChipOk := by
  unfold State.completeWrite
  split
  · exact State.ChipOk.start (c := .storeWait) (State.ChipOk.of_eq h) trivial
  · exact h
  · exact h

/-- A sound state in SERVICE, where the service commands are carried out (09 R154). -/
structure State.Serving (s : State) : Prop extends s.ChipOk where
  service : s.control.chip = .service

theorem State.Serving.of_eq (h : s.Serving) (hc : t.control = s.control := by simp)
    (ht : t.table = s.table := by simp) (hm : t.timers = s.timers := by simp) : t.Serving :=
  ⟨h.toChipOk.of_eq hc ht hm, hc ▸ h.service⟩

/-- In SERVICE a sweep may begin. -/
theorem State.Serving.withTable (h : s.Serving) (x : FaultTable) : State.Serving { s with table := x } :=
  ⟨{ h.toChipOk with emptied := fun hn => absurd h.service hn }, h.service⟩

/-- A recomputation in SERVICE stays there, without the DRIVE test (R106). -/
theorem State.ChipBounds.recompute_serving (h : s.ChipBounds) (hc : s.control.chip = .service) :
    s.recompute.Serving := by
  refine ⟨h.recompute, ?_⟩
  rw [State.recompute, State.testDrive_stays (.inl (by simp [hc])), State.recomputeCore_chip, hc]

theorem State.Serving.recompute (h : s.Serving) : s.recompute.Serving := h.bounds.recompute_serving h.service

theorem State.Serving.changeCopy (h : s.Serving) (x : Copy) : (s.changeCopy x).Serving :=
  ⟨h.toChipOk.changeCopy x, (State.Serving.recompute (s := { s with working := x }) h.of_eq).service⟩

theorem State.Serving.setOverrides (h : s.Serving) {os : List Override} (ho : os.length ≤ Config.overridePlaces) :
    (s.setOverrides os).Serving :=
  State.ChipBounds.recompute_serving ⟨ho, fun hn => absurd h.service hn, h.bounds.runs⟩ h.service

theorem State.revertIfInvalid_idle (f : Option Failure) (h : s.table.sweep.state = .idle) :
    (s.revertIfInvalid f).table.sweep.state = .idle := by
  cases f with
  | none => exact h
  | some _ => exact h

/-- SERVICE is left for STANDBY with its stack emptied and its channel stopped; its sweep is idle already (R111). -/
theorem State.leaveToStandby_chipOk (h : s.table.sweep.state = .idle) : s.leaveToStandby.ChipOk :=
  State.enterStandby_chipOk (s := s.emptyOverrides.stop .serviceIdle) rfl h fun hr => (State.stop_runs hr).2 rfl

theorem State.idleLeave_chipOk (s : State) : s.idleLeave.ChipOk :=
  State.leaveToStandby_chipOk (State.revertIfInvalid_idle _ s.table.abandonSweep_idle)

/-- Whichever chip state the entry to SERVICE finds, GATHER does not run after its first step (R107, R111). -/
theorem State.ChipOk.stopGatherIfStandby_not_runs (h : s.ChipOk) : ¬ s.stopGatherIfStandby.runs .gather := by
  unfold State.stopGatherIfStandby
  split
  · exact fun hr => (State.stop_runs hr).2 rfl
  · next hn => exact h.not_runs_gather hn

theorem State.ChipOk.stopGatherIfStandby (h : s.ChipOk) : s.stopGatherIfStandby.ChipOk :=
  .ite (fun _ => h.stop .gather) h

theorem State.ChipOk.enterService (h : s.ChipOk) : s.enterService.Serving := by
  have hb : (s.stopGatherIfStandby.setChip .service).ChipBounds := by
    refine ⟨h.stopGatherIfStandby.stack, fun hn => absurd rfl hn, fun c hr => ?_⟩
    cases c with
    | gather => exact absurd hr h.stopGatherIfStandby_not_runs
    | serviceIdle => rfl
    | envelope | check | recordTick => exact nofun
    | freshFront | freshRear | freshPack | freshCkpt | haltRamp | storeWait => trivial
  have hs := hb.recompute_serving rfl
  exact ⟨hs.start (c := .serviceIdle) hs.service, hs.service⟩

/-! ## Service commands: in SERVICE they stay there until a leave (09 R154 to R171) -/

theorem State.ChipOk.placeReply (h : s.ChipOk) (r : Reply) : (s.placeReply r).ChipOk := h.of_eq

theorem State.ChipOk.placed {x : Carried} (h : x.state.ChipOk) : x.placed.ChipOk := by
  unfold Carried.placed
  split
  · exact h.placeReply _
  · exact h

/-- A service command ends with the restart of SERVICE_IDLE, which runs in SERVICE (R157). -/
theorem State.Serving.finish {x : Carried} (h : x.state.Serving) : x.finish.ChipOk :=
  State.ChipOk.placed (x := { x with state := x.state.start .serviceIdle })
    (h.toChipOk.start (c := .serviceIdle) h.service)

theorem State.ChipOk.takeCommand (h : s.ChipOk) (i : Instr) : (s.takeCommand i).ChipOk := h.of_eq

/-- A query's answer takes the command and places a reply. -/
theorem State.ChipOk.answer (h : s.ChipOk) (i : Instr) (r : Reply) : (s.answer i r).ChipOk :=
  (h.takeCommand i).placeReply r

theorem State.ChipOk.inService (h : s.ChipOk) (i : Instr) (seq code : Byte) {f : State → Carried}
    (hf : ∀ u : State, u.Serving → (f u).state.Serving) : (s.inService i seq code f).ChipOk :=
  .ite (fun hc => State.Serving.finish (hf _ ⟨h.takeCommand i, hc⟩)) (State.ChipOk.placed (h.takeCommand i))

theorem State.Serving.unlessBusy (h : s.Serving) (seq code : Byte) {f : State → Carried}
    (hf : (f s).state.Serving) : (s.unlessBusy seq code f).state.Serving :=
  ite_within (P := fun x : Carried => x.state.Serving) (fun _ => h) hf

theorem State.Serving.rowWrite (h : s.Serving) (seq kind : Byte) (b : RowBytes) :
    (s.rowWrite seq kind b).state.Serving := by
  unfold State.rowWrite
  split
  · exact h
  · split
    · exact h
    · split
      · exact h
      · exact State.Serving.changeCopy (s := { s with unsaved := true }) h.of_eq _

theorem State.Serving.paramWrite (h : s.Serving) (seq number : Byte) (v : Half) :
    (s.paramWrite seq number v).state.Serving := by
  unfold State.paramWrite
  split
  · exact h
  · split
    · exact h.of_eq rfl rfl rfl
    · exact h

theorem State.Serving.freeSlot (h : s.Serving) (i : Nat) : (s.freeSlot i).Serving := by
  have hs : State.Serving { s with
      table := (s.table.free i).table
      owed := s.owed ++ (if (s.table.free i).request then [.latchRequest] else []) } :=
    (h.withTable (s.table.free i).table).of_eq
  exact ite_within (P := State.Serving) (fun _ => hs.recompute) hs

theorem State.Serving.recordClear (h : s.Serving) (seq slot : Byte) : (s.recordClear seq slot).state.Serving := by
  unfold State.recordClear
  split
  · split
    · exact h
    · split
      · exact h
      · exact h
      · exact h
      · exact h.freeSlot _
      · exact h.freeSlot _
  · exact h

theorem State.Serving.startSweep (h : s.Serving) (seq start unit kind mode count : Byte) :
    (s.startSweep seq start unit kind mode count).state.Serving := by
  unfold State.startSweep
  split
  · exact h
  · split
    · exact h.withTable _
    · exact h

theorem State.Serving.resumeSweep (h : s.Serving) (seq : Byte) : (s.resumeSweep seq).state.Serving :=
  ite_within (P := fun x : Carried => x.state.Serving) (fun _ => h.withTable _) h

theorem State.Serving.cancelSweep (h : s.Serving) (seq : Byte) : (s.cancelSweep seq).state.Serving :=
  ite_within (P := fun x : Carried => x.state.Serving) (fun _ => h) (h.withTable _)

/-- The stack takes an entry only while it has a place (R169). -/
theorem State.Serving.pushOverride (h : s.Serving) (seq a b l i : Byte) :
    (s.pushOverride seq a b l i).state.Serving := by
  unfold State.pushOverride
  split
  · exact h
  · split
    · exact h
    · next hn => exact h.setOverrides (Nat.lt_of_not_le hn)

theorem State.Serving.popOverride (h : s.Serving) (seq : Byte) : (s.popOverride seq).state.Serving := by
  have hstack := h.stack
  unfold State.popOverride
  split
  · exact h
  · next o os he =>
    rw [he] at hstack
    exact h.setOverrides (Nat.le_of_succ_le hstack)

theorem State.ChipOk.serviceEnter (h : s.ChipOk) (seq : Byte) (e : execServiceEnter seq s = .next t) : t.ChipOk := by
  have hc := h.takeCommand (.serviceEnter seq)
  cases e
  split
  · exact .ite (fun hs => State.Serving.finish ⟨hc, hs⟩) (State.ChipOk.placed hc)
  · exact State.ChipOk.placed hc.enterService.toChipOk

theorem State.Serving.serviceLeave (h : s.Serving) (seq : Byte) : (s.serviceLeave seq).ChipOk := by
  unfold State.serviceLeave
  dsimp only
  split
  · exact State.Serving.finish (h.withTable _)
  · exact State.ChipOk.placed (State.leaveToStandby_chipOk s.table.abandonSweep_idle)

/-! ## WAKE (R103, R109) -/

theorem State.ChipOk.acceptWake (h : s.ChipOk) (on : Bool) : (s.acceptWake on).ChipOk := by
  have h1 : State.ChipOk { s.took (· == .wakeChange on) with control := { s.control with awake := on } } := { h with }
  have h2 : State.ChipOk { s with
      switches := { s.switches with wake := ⟨on, 0⟩ }, control := { s.control with awake := on } } := { h with }
  unfold State.acceptWake
  dsimp only
  split
  · exact h1
  · exact h2

/-- Outside STANDBY a row change recomputes once, without the DRIVE test (04 R53, R106). -/
theorem State.changeCopy_eq (hc : s.control.chip ≠ .standby) (x : Copy) : s.changeCopy x
    = (State.recomputeCore { s with working := x }).tableEvent (s.table.rowChange s.working.rows x.rows) := by
  unfold State.changeCopy State.recompute
  dsimp only
  rw [State.testDrive_stays (.inl (by rwa [State.recomputeCore_chip]))]

/-- Outside STANDBY a row change leaves the stack, the sweep and every channel but HALT_RAMP alone. -/
theorem State.changeCopy_frame (hc : s.control.chip ≠ .standby) (x : Copy) :
    (s.changeCopy x).control.overrides = s.control.overrides ∧ (s.changeCopy x).table.sweep = s.table.sweep
      ∧ ∀ c, c ≠ .haltRamp → (s.changeCopy x).timers.get c = s.timers.get c := by
  rw [State.changeCopy_eq hc]
  exact ⟨State.recomputeCore_overrides _, rfl, (State.recomputeCore_spec _).timers_get⟩

theorem State.revertIfInvalid_frame (hc : s.control.chip ≠ .standby) (f : Option Failure) :
    (s.revertIfInvalid f).control.overrides = s.control.overrides
      ∧ (s.revertIfInvalid f).table.sweep = s.table.sweep
      ∧ ∀ c, c ≠ .haltRamp → (s.revertIfInvalid f).timers.get c = s.timers.get c := by
  cases f with
  | none => exact ⟨rfl, rfl, fun _ _ => rfl⟩
  | some x =>
    exact State.changeCopy_frame
      (s := { s with unsaved := false, store := { s.store with replaced := true } }) hc s.committed

/-- From SERVICE the move to SHUTDOWN follows the forced leave, which has emptied the stack, abandoned the sweep and
stopped the channel of SERVICE (R109, R173). -/
theorem State.Serving.shutDown (h : s.Serving) (f : Option Failure) : (s.forcedLeave f).shutDown.ChipOk := by
  have hstandby : s.control.chip ≠ .standby := by simp [h.service]
  obtain ⟨ho, hs, ht⟩ := State.revertIfInvalid_frame
    (s := (s.emptyOverrides.stop .serviceIdle).abandonSweep) hstandby f
  refine State.shutDown_chipOk ho (hs ▸ s.table.abandonSweep_idle) (fun hr => ?_) (fun hr => ?_)
  · rw [State.runs, State.forcedLeave, ht _ (by decide)] at hr
    exact h.not_runs_gather hstandby (State.stop_runs (s := s.emptyOverrides) (c := .serviceIdle) hr).1
  · rw [State.runs, State.forcedLeave, ht _ (by decide)] at hr
    exact (State.stop_runs (s := s.emptyOverrides) (c := .serviceIdle) hr).2 rfl

theorem State.ChipOk.wakeFell (h : s.ChipOk) : s.wakeFell.ChipOk := by
  unfold State.wakeFell
  split
  · next hc =>
    have hn : s.control.chip ≠ .service := by simp [hc]
    obtain ⟨ho, hs⟩ := h.emptied hn
    exact State.shutDown_chipOk (s := s.stop .gather) ho hs (fun hr => (State.stop_runs hr).2 rfl)
      fun hr => h.not_runs_serviceIdle hn (State.stop_runs hr).1
  · next hc =>
    have hn : s.control.chip ≠ .service := by simp [hc]
    obtain ⟨ho, hs⟩ := h.emptied hn
    exact State.shutDown_chipOk ho hs (h.not_runs_gather (by simp [hc])) (h.not_runs_serviceIdle hn)
  · next hc => exact State.Serving.shutDown ⟨h, hc⟩ _
  · exact h
  · exact h

/-! ## Every command keeps what the chip states promise -/

theorem State.ChipOk.next (e : Host.Outcome.next (φ := Fault) (ρ := Refusal) s = .next t) (h : s.ChipOk) :
    t.ChipOk := by
  cases e; exact h

theorem exec_keeps_chipOk (i : Instr) (s t : State) (h : s.ChipOk) (e : exec i s = .next t) : t.ChipOk := by
  cases i with
  -- what a port hears (01)
  | frameReceived p body => exact .next e (.ite (fun _ => h) (h.closeFrame p body))
  | receiveError p x => exact .next e (.ite (fun _ => h) (h.receiveError p x))
  | byteReceived p x => exact .next e (.ite (fun _ => h) (h.frameItem p x))
  | lineBreak p =>
    exact .next e (.ite (fun _ => h) (.ite (fun _ => (h.receiveError p _).breakLink p) (h.breakLink p)))
  | freshnessExpiry p => exact .next e (h.expiry p.channel (f := fun u => u.silence p) fun _ hu => hu.silence p)
  -- the monitor and the fault table (05, 06)
  | checkExpiry =>
    exact .next e (h.expiry _ fun u hu =>
      State.ChipOk.deliverAll (s := { u with monitor := u.monitor.afterCheck }) hu.of_eq _)
  | recordTickExpiry =>
    exact .next e (h.expiry .recordTick (f := fun u => u.tableEvent (u.table.tick u.working)) fun _ hu =>
      hu.tableEvent id)
  | sweepExamination =>
    exact .next e (.ite (fun hr => h.tableEvent fun hi => absurd (hr.symm.trans hi) (by decide)) h)
  -- the containment controller (07)
  | arrivalNotice u => exact .next e (State.ChipOk.noticeOf (s := s.took _) h.of_eq u)
  | linkStateNotice p => exact .next e (State.ChipOk.testDrive (s := s.took _) h.of_eq)
  | containmentAnnouncement => exact .next e (State.ChipBounds.recompute (s := s.took _) (h.of_eq.bounds))
  | haltRampExpiry => exact .next e (h.expiry _ fun _ hu => .ite (fun _ => hu.endRamp) hu)
  | gatherExpiry => exact .next e (h.expiry _ fun _ hu => hu.gatherExpires)
  | gatherBatchTaken =>
    exact .next e (.ite (fun _ => State.ChipOk.gatherFinished (s := s.took _) h.of_eq) h.of_eq)
  | endOfLoading =>
    exact .next e (.ite (fun hl => State.ChipOk.endLoading (s := s.took _) h.of_eq hl.2) h.of_eq)
  | wakeRising =>
    have hw := h.acceptWake true
    exact .next e (.ite (fun hc => hw.keyCycle (by simp [hc])) hw)
  | wakeFalling => exact .next e (h.acceptWake false).wakeFell
  | powerOn cause torn => exact .next e (State.reset_chipOk.of_eq rfl rfl rfl)
  -- the configuration store (10)
  | loadImageReadDone r =>
    exact .next e (.ite (fun _ => .ite (fun _ => State.ChipOk.loadResults (s := s.updStore _) h.of_eq _ _) h.of_eq) h)
  | loadLatchListReadDone r =>
    refine .next e ?_
    split
    · exact State.ChipOk.loadResults (s := s.updStore _) h.of_eq _ _
    all_goals exact h
  | latchRewriteRequest => exact .next e h.of_eq
  | savePageWriteDone a =>
    refine .next e ?_
    split
    · exact .ite (fun _ => h.completeWrite.of_eq) (h.endReported _ _)
    all_goals exact h
  | storeWaitExpiry => exact .next e (h.expiry _ fun _ hu => hu.storeWaited)
  | saveReadbackDone r => exact .next e (.ite (fun _ => .ite (fun _ => h.saveMatched) (h.endReported _ _)) h)
  | latchPageWriteDone a =>
    have failed := h.deliver (storeFault .saveVerify)
    exact .next e (.ite (fun _ => .ite (fun _ => h.completeWrite.of_eq) failed.of_eq) h)
  | reloadReadDone r => exact .next e (.ite (fun _ => State.ChipOk.reloadEnd (s := s.updStore _) h.of_eq _) h)
  | storeEndReport =>
    refine .next e ?_
    split
    · exact h.of_eq
    · exact h
  -- service commands and leaves (09)
  | rowWrite => exact .next e (h.inService _ _ _ fun _ hu => hu.unlessBusy _ _ (hu.rowWrite _ _ _))
  | paramWrite => exact .next e (h.inService _ _ _ fun _ hu => hu.unlessBusy _ _ (hu.paramWrite _ _ _))
  | storeSave | storeReload => exact .next e (h.inService _ _ _ fun _ hu => hu.unlessBusy _ _ hu.of_eq)
  | recordClear => exact .next e (h.inService _ _ _ fun _ hu => hu.recordClear _ _)
  | sweepStart => exact .next e (h.inService _ _ _ fun _ hu => hu.startSweep _ _ _ _ _ _)
  | sweepResume => exact .next e (h.inService _ _ _ fun _ hu => hu.resumeSweep _)
  | sweepCancel => exact .next e (h.inService _ _ _ fun _ hu => hu.cancelSweep _)
  | overridePush => exact .next e (h.inService _ _ _ fun _ hu => hu.pushOverride _ _ _ _ _)
  | overridePop => exact .next e (h.inService _ _ _ fun _ hu => hu.popOverride _)
  | serviceEnter seq => exact h.serviceEnter seq e
  | serviceLeave seq =>
    have hc := h.takeCommand (.serviceLeave seq)
    exact .next e (.ite (fun hs => .ite (fun _ => State.Serving.finish ⟨hc, hs⟩)
      (State.Serving.serviceLeave ⟨hc, hs⟩ seq)) (State.ChipOk.placed hc))
  | serviceIdleExpiry => exact .next e (h.expiry _ fun u _ => u.idleLeave_chipOk)
  -- the time base: a channel that runs after a step ran before it (03 R35)
  | timeBaseStep b st w =>
    refine .next e (h.of_frame rfl id fun c hr => .inl ?_)
    rw [State.runs, Timers.step_get] at hr
    exact Channel.running_of_step hr
  -- the commands that leave the controller, the sweep and the channels alone
  | breakEnd p => exact .next e (.ite (fun _ => h.of_eq) h)
  | transmitterTakeFrame p =>
    refine .next e ?_
    split
    · exact h.of_eq
    · cases p with
      | cockpit => exact h.of_eq
      | front | rear | pack => exact h
  | envelopeExpiry => exact .next e (h.expiry _ fun _ hu => hu.of_eq)
  | switchChangeAccepted => exact .next e (.ite (fun _ => h.of_eq) (.ite (fun _ => h) h.of_eq))
  | isolationNotice => exact .next e h.of_eq
  | queryRecords | queryLink | queryRow | queryParam | queryEnvelope | unknownCommand =>
    exact .next e (h.answer _ _)

end

/-- Settles O57: a change of the queue leaves the chip state alone, and every command keeps what it promises. -/
theorem everyStepKeepsChipStateOk : Obligations.EveryStepKeepsChipStateOk :=
  step_keeps (fun _ _ h => h.of_eq) exec_keeps_chipOk

end Sys2Proof.Machine
end

section
/-! PROOFS. What ends a HALT ramp and releases a held relaxation: HALT_RAMP expiries (O36) and arrival notices (O35). -/

namespace Sys2Proof.Machine

open Sys2Proof

/-! ## A HALT_RAMP expiry (07 R121) -/

section
variable {s : State}

theorem exec_haltRampExpiry (s : State) : exec .haltRampExpiry s = .next { s.afterExpiry .haltRamp with
    control := if s.expiryInForce .haltRamp = true ∧ s.control.ramp = true then s.control.endRamp else s.control } := by
  simp only [exec, execHaltRampExpiry, State.haltRampEnds, State.afterExpiry_control]
  by_cases hf : s.expiryInForce .haltRamp = true
  · by_cases hr : s.control.ramp = true
    · simp only [hf, hr, and_self, if_true]
    · simp only [hf, hr, and_false, if_true, if_false, Bool.false_eq_true]
      rfl
  · simp only [hf, false_and, if_false, Bool.false_eq_true]
    rfl

/-- With no expiry owed, a RUNNING channel runs out as the command takes it (03 R36; log 4). -/
theorem State.afterExpiry_timers_running {c : Chan} (ho : s.owes (Owed.isExpiry c) = false)
    (hr : (s.timers.get c).state = .running) :
    (s.afterExpiry c).timers = s.timers.set c (Channel.expired s.working.params c) := by
  simp [State.afterExpiry, ho, hr]

/-- With an expiry owed, or none and the channel not RUNNING, no channel moves (log 4). -/
theorem State.afterExpiry_timers_same {c : Chan}
    (h : s.owes (Owed.isExpiry c) = true ∨ (s.timers.get c).state ≠ .running) :
    (s.afterExpiry c).timers = s.timers := by
  rcases h with h | h
  · exact State.afterExpiry_timers_owed h
  · simp [State.afterExpiry, h]

end

/-- Settles O36: the expiry is taken, and only one in force finds a ramp to end. -/
theorem haltRampExpiryDropsPermits : Obligations.HaltRampExpiryDropsPermits := by
  intro s
  refine ⟨_, exec_haltRampExpiry s, fun hf hr => if_pos ⟨hf, hr⟩, fun h => if_neg ?_, fun ho hr => ?_, fun h => ?_, rfl⟩
  · rintro ⟨hf, hr⟩
    rcases h with h | h
    · exact Bool.false_ne_true (h.symm.trans hf)
    · exact Bool.false_ne_true (h.symm.trans hr)
  · exact (State.afterExpiry_timers_running ho hr).trans (by rw [Channel.expired_oneShot rfl])
  · exact State.afterExpiry_timers_same h

/-! ## Arrival notices (07 R118, R122) -/

section
variable {s t : State}

theorem Observations.bothSlow_iff (o : Observations) : o.bothSlow = true ↔
    o.front.fresh = true ∧ o.rear.fresh = true ∧ o.front.speed < 10 ∧ o.rear.speed < 10 := by
  simp [Observations.bothSlow, and_assoc]

theorem Drive.holdsRelaxation_iff {d a : Drive} : d.holdsRelaxation a = true ↔
    d.level.rank < a.level.rank ∨ a.derate < d.derate ∨ (a.isoFront = true ∧ d.isoFront = false)
      ∨ (a.isoRear = true ∧ d.isoRear = false) := by
  simp [Drive.holdsRelaxation, or_assoc]

/-- Nothing is held where the applied state is in no part more restrictive than the target. -/
theorem Drive.holdsRelaxation_eq_false {d a : Drive} (hl : a.level.rank ≤ d.level.rank) (hd : d.derate ≤ a.derate)
    (hf : a.isoFront = true → d.isoFront = true) (hr : a.isoRear = true → d.isoRear = true) :
    d.holdsRelaxation a = false := by
  rw [← Bool.not_eq_true, Drive.holdsRelaxation_iff]
  rintro (h | h | ⟨h, h'⟩ | ⟨h, h'⟩)
  · exact Nat.not_lt.2 hl h
  · exact Nat.not_lt.2 hd h
  · simp [hf h] at h'
  · simp [hr h] at h'

theorem State.motorNotice_ends (hr : s.control.ramp = true) (hb : s.obs.bothSlow = true) :
    s.motorNotice = State.stop { s with control := s.control.endRamp } .haltRamp := by
  simp [State.motorNotice, hr, hb]

theorem State.motorNotice_stays (h : s.control.ramp = false ∨ s.obs.bothSlow = false) : s.motorNotice = s := by
  rcases h with h | h <;> simp [State.motorNotice, h]

theorem State.noticeOf_motor {u : Reporter} (h : u ≠ .cockpit) (s : State) : s.noticeOf u = s.motorNotice := by
  cases u with
  | front | rear => rfl
  | cockpit => exact absurd rfl h

theorem State.cockpitNotice_releases (hh : s.control.target.holdsRelaxation s.control.applied = true)
    (hg : s.obs.gateOpen = true) : s.cockpitNotice = s.apply (s.control.target.relax s.control.applied) := by
  simp [State.cockpitNotice, hh, hg]

theorem State.cockpitNotice_stays
    (h : s.obs.gateOpen = false ∨ s.control.target.holdsRelaxation s.control.applied = false) :
    s.cockpitNotice = s := by
  rcases h with h | h <;> simp [State.cockpitNotice, h]

/-- An arrival notice taken off what is owed touches no isolation notice (R119). -/
theorem State.AppliedFollows.of_took {u : Reporter} (h : (s.took (Owed.isArrival u)).AppliedFollows t) :
    s.AppliedFollows t :=
  { h with
    notices := fun m entered => by
      rw [h.notices m entered]
      exact or_congr_left (List.mem_eraseP_of_neg (by simp [Owed.isArrival])) }

theorem State.apply_rest (s : State) (a : Drive) : s.apply a = { s with
    control := { s.control with
      applied := a, ramp := (s.apply a).control.ramp, permitFront := (s.apply a).control.permitFront
      permitRear := (s.apply a).control.permitRear, packOpen := (s.apply a).control.packOpen
      warn := (s.apply a).control.warn }
    timers := (s.apply a).timers, owed := (s.apply a).owed } := by
  apply State.ext_fields
  case h12 => exact s.apply_control a
  all_goals simp

/-- A release from HALT ends the ramp, and each permit follows its motor alone (R123, R124). -/
theorem State.AppliedFollows.leavesHalt (h : s.AppliedFollows t) (hs : s.control.applied.level = .halt)
    (ht : t.control.applied.level ≠ .halt) : t.control.ramp = false
      ∧ (s.control.ramp = true → (t.timers.get .haltRamp).state = .stopped)
      ∧ (t.control.permitFront = true ↔ t.control.applied.isoFront = false)
      ∧ (t.control.permitRear = true ↔ t.control.applied.isoRear = false) := by
  obtain ⟨hramp, hstop, -⟩ := h.rampStop hs ht
  refine ⟨hramp, fun hr => ?_, h.permitFront.trans (and_iff_left (.inl ht)),
    h.permitRear.trans (and_iff_left (.inl ht))⟩
  rw [hstop hr, Timers.get_set]

end

/-- Settles O35: a motor notice is `State.motorNotice`, a cockpit notice `State.cockpitNotice`, each acting or not. -/
theorem arrivalNoticesReleaseGateAndRamp : Obligations.ArrivalNoticesReleaseGateAndRamp := by
  refine ⟨fun u s hu => ⟨_, rfl, fun hr hf hr' hsf hsr => ?_, fun h => ?_⟩, fun s => ⟨_, rfl, fun h => ?_,
    fun hf hd h => ?_⟩⟩
  · rw [State.noticeOf_motor hu, State.motorNotice_ends (s := s.took _) hr
      ((Observations.bothSlow_iff _).2 ⟨hf, hr', hsf, hsr⟩)]
    exact ⟨rfl, rfl, rfl, rfl⟩
  · rw [State.noticeOf_motor hu]
    refine State.motorNotice_stays (s := s.took _) (h.imp_right fun h => ?_)
    rw [← Bool.not_eq_true, Observations.bothSlow_iff]
    rintro ⟨hf, hr, hsf, hsr⟩
    rcases h with h | h | h | h
    · exact Bool.false_ne_true (h.symm.trans hf)
    · exact Bool.false_ne_true (h.symm.trans hr)
    · exact Nat.not_lt.2 h hsf
    · exact Nat.not_lt.2 h hsr
  · refine State.cockpitNotice_stays (s := s.took _) (h.imp (fun hg => ?_) fun ⟨hl, hd, hf, hr⟩ => ?_)
    · rwa [← Bool.not_eq_true, Observations.gateOpen_iff]
    · exact Drive.holdsRelaxation_eq_false hl hd hf hr
  · rw [State.noticeOf, State.cockpitNotice_releases (s := s.took _) (Drive.holdsRelaxation_iff.2 h)
      ((Observations.gateOpen_iff _).2 ⟨hf, hd⟩)]
    have follows := (State.apply_follows (s.took (Owed.isArrival .cockpit))
      (s.control.target.relax s.control.applied)).of_took
    have applied := State.apply_applied (s.took (Owed.isArrival .cockpit))
      (s.control.target.relax s.control.applied)
    refine ⟨applied, follows, fun hs ht => ?_, ?_⟩
    · have released := follows.leavesHalt hs (by rw [applied]; exact ht)
      rwa [applied] at released
    · refine (State.apply_rest _ _).trans ?_
      rw [State.apply_applied]
      rfl

end Sys2Proof.Machine
end

section
/-! PROOFS. The DRIVE test after an announcement and at a link state notice (O30), the gather (O31) and the end of
LOADING (O32). -/

namespace Sys2Proof.Machine

open Sys2Proof

/-! ## The DRIVE test (07 R106) -/

section
variable {s t : State}

theorem State.EntersDrive.chip (h : s.EntersDrive t) : t.control.chip = .drive :=
  State.Recomputes.chip h

/-- A recomputation leaves what the DRIVE test asks of. -/
theorem State.recomputeCore_driveTest (s : State) :
    s.recomputeCore.DriveTestHolds s.recomputeCore.control.gatherDone ↔ s.DriveTestHolds s.control.gatherDone := by
  simp [State.DriveTestHolds]

end

/-- Settles O30: the announcement's test is made on the recomputed state, whose links and gather are those found. -/
theorem announcementAndLinkNoticeMakeDriveTest : Obligations.AnnouncementAndLinkNoticeMakeDriveTest := by
  refine ⟨fun s => ?_, fun p s => ?_⟩
  · have hx : exec .containmentAnnouncement s =
        .next (State.recompute { s with owed := s.owed.erase .announcement }) := by
      simp only [exec, execContainmentAnnouncement, State.took_eq_erase]
    refine ⟨_, _, hx, State.recomputeCore_spec _, fun hc hd => ?_, fun h => ?_⟩
    · exact State.testDrive_enters (by simpa using hc) ((State.recomputeCore_driveTest _).2 hd)
    · refine State.testDrive_stays (h.imp (fun hc => by simpa using hc) fun hd => ?_)
      rwa [State.recomputeCore_driveTest]
  · have hx : exec (.linkStateNotice p) s = .next (State.testDrive { s with owed := s.owed.erase (.linkState p) }) := by
      simp only [exec, execLinkStateNotice, State.took_eq_erase]
    refine ⟨_, hx, fun hc hd => ?_, fun h => State.testDrive_stays h⟩
    have enters := State.testDrive_enters (s := { s with owed := s.owed.erase (.linkState p) }) hc hd
    exact ⟨enters, enters.chip⟩

/-! ## The gather (07 R107, R108) -/

section
variable {s : State}

theorem gatherBatch_eq (s : State) : gatherBatch s.ports =
    ([Port.front, .rear, .pack, .cockpit].filter fun p =>
      decide ((s.port p).link = .down ∨ (s.port p).link = .joining)).map
        fun p => .evidence p.unit .linkLost none := by
  unfold gatherBatch Port.all
  congr 2
  funext p
  rw [Bool.decide_or]
  rfl

theorem gatherBatch_eq_nil_iff :
    gatherBatch s.ports = [] ↔ ∀ p, (s.port p).link ≠ .down ∧ (s.port p).link ≠ .joining := by
  have hall : ∀ p : Port, p ∈ Port.all := fun p => by cases p <;> decide
  simp [gatherBatch, List.filter_eq_nil_iff, hall, State.port_eq]

theorem exec_gatherExpiry (hf : s.expiryInForce .gather = true) :
    exec .gatherExpiry s = .next (s.afterExpiry .gather).gatherExpires :=
  congrArg Host.Outcome.next (if_pos hf)

theorem State.gatherExpires_batch (hc : s.control.chip = .standby) (hb : gatherBatch s.ports ≠ []) :
    s.gatherExpires = (s.deliverAll (gatherBatch s.ports)).owe [.gatherBatch true] := by
  unfold State.gatherExpires
  rw [if_pos hc]
  split
  · next h => exact absurd h hb
  · rfl

theorem State.gatherExpires_done (hc : s.control.chip = .standby) (hb : gatherBatch s.ports = []) :
    s.gatherExpires = s.gatherFinished := by
  unfold State.gatherExpires
  rw [if_pos hc, hb]

theorem State.gatherExpires_elsewhere (hc : s.control.chip ≠ .standby) : s.gatherExpires = s := if_neg hc

end

/-- Settles O31: an expiry delivers `gatherBatch`, or finishes the gather where that is empty. -/
theorem gatherEndsWithItsBatch : Obligations.GatherEndsWithItsBatch := by
  intro s
  refine ⟨fun hc hf => ⟨_, exec_gatherExpiry hf, fun ⟨p, hp⟩ => ?_, fun hall => ?_⟩, fun hc hb => ?_,
    fun hc => ⟨?_, ?_⟩⟩
  · have hne : gatherBatch s.ports ≠ [] := fun h =>
      hp.elim (gatherBatch_eq_nil_iff.1 h p).1 (gatherBatch_eq_nil_iff.1 h p).2
    rw [State.gatherExpires_batch (s := s.afterExpiry .gather) hc hne]
    refine ⟨⟨_, rfl, ?_, ?_⟩, ?_⟩
    · rw [← gatherBatch_eq]
      exact State.deliverAll_table_congr _ rfl rfl rfl
    · rw [← gatherBatch_eq]
      exact congrArg (· ++ _) (State.deliverAll_owed_congr _ rfl rfl rfl rfl)
    · apply State.ext_fields <;> simp
  · rw [State.gatherExpires_done (s := s.afterExpiry .gather) hc (gatherBatch_eq_nil_iff.2 hall)]
    exact State.gatherFinished_spec _
  · exact ⟨_, congrArg Host.Outcome.next (if_pos ⟨hb, hc⟩), State.gatherFinished_spec _⟩
  · refine congrArg Host.Outcome.next ?_
    rw [State.gatherExpires_elsewhere (s := s.afterExpiry .gather) hc, ite_self]
  · exact congrArg Host.Outcome.next (if_neg fun h => hc h.2)

/-! ## The end of LOADING (07 R104) -/

/-- The three periods that begin with the end of LOADING (R104, 03 R44). -/
def State.startPeriods (s : State) : State := ((s.start .envelope).start .check).start .recordTick

section
variable {s : State}

theorem State.startPeriods_timers (s : State) :
    s.startPeriods.timers.get .envelope = ⟨.running, s.working.params.envPeriod, 0⟩
      ∧ s.startPeriods.timers.get .check = ⟨.running, s.working.params.checkPeriod, 0⟩
      ∧ s.startPeriods.timers.get .recordTick = ⟨.running, 1, 0⟩
      ∧ s.startPeriods.timers.get .gather = s.timers.get .gather :=
  ⟨rfl, rfl, rfl, rfl⟩

/-- The state in which the end of LOADING starts the periods (R104, steps 1 and 2). -/
def State.loaded (s : State) : State := (s.setChip s.control.afterLoading).recomputeCore

theorem State.loaded_spec (s : State) : State.Recomputes (s.setChip s.control.afterLoading) s.loaded :=
  State.recomputeCore_spec _

theorem State.endLoading_asleep (h : s.control.awake = false) : s.endLoading = s.loaded.startPeriods := by
  have hc : s.loaded.control.chip = .shutdown := by
    rw [s.loaded_spec.chip]
    simp [State.setChip, Control.afterLoading, h]
  exact if_neg (by rw [State.start_control]; exact hc ▸ nofun)

theorem State.endLoading_awake (h : s.control.awake = true) :
    s.endLoading = s.loaded.startPeriods.enterStandby := by
  have hc : s.loaded.control.chip = .standby := by
    rw [s.loaded_spec.chip]
    simp [State.setChip, Control.afterLoading, h]
  exact if_pos hc

theorem exec_endOfLoading (hc : s.control.chip = .loading) (ho : .endOfLoading ∈ s.owed) :
    exec .endOfLoading s = .next (s.took (· == .endOfLoading)).endLoading :=
  congrArg Host.Outcome.next (if_pos ⟨by simpa [State.owes] using ho, hc⟩)

end

section
variable (s : State)

/-- Both steps leave the links, the record of the gate and what the target is computed from. -/
theorem State.startPeriods_frame : s.loaded.startPeriods.ports = s.ports ∧ s.loaded.startPeriods.obs = s.obs
    ∧ s.loaded.startPeriods.working = s.working ∧ s.loaded.startPeriods.table = s.table
    ∧ s.loaded.startPeriods.control.overrides = s.control.overrides
    ∧ s.loaded.startPeriods.control.awake = s.control.awake
    ∧ s.loaded.startPeriods.control.gatherDone = s.control.gatherDone := by
  refine ⟨?_, ?_, ?_, ?_, ?_, ?_, ?_⟩ <;> simp [State.startPeriods, State.loaded, State.setChip]

theorem State.loaded_timers {c : Chan} (hc : c ≠ .haltRamp) : s.loaded.timers.get c = s.timers.get c :=
  s.loaded_spec.timers_get c hc

theorem State.endLoading_rest : s.endLoading = { s with
    control := s.endLoading.control, timers := s.endLoading.timers, owed := s.endLoading.owed } := by
  apply State.ext_fields <;> simp

/-- What the end of LOADING leaves whatever the wake flag: the periods running, and the target of the chip state. -/
structure State.EndsLoading (s t : State) : Prop where
  envelope   : t.timers.get .envelope = ⟨.running, s.working.params.envPeriod, 0⟩
  check      : t.timers.get .check = ⟨.running, s.working.params.checkPeriod, 0⟩
  recordTick : t.timers.get .recordTick = ⟨.running, 1, 0⟩
  target     : t.control.target = targetFor t.control.chip s.working s.table s.control.overrides
  covers     : t.control.applied.Covers t.control.target
  released   : s.obs.gateOpen = true → t.control.applied = t.control.target
  awake      : t.control.awake = s.control.awake
  overrides  : t.control.overrides = s.control.overrides

variable {s}

theorem State.endsLoading_asleep (h : s.control.awake = false) : s.EndsLoading s.endLoading := by
  obtain ⟨-, -, hworking, -, hover, hawake, -⟩ := s.startPeriods_frame
  obtain ⟨henv, hcheck, htick, -⟩ := s.loaded.startPeriods_timers
  have hparams : s.loaded.working = s.working := hworking
  rw [hparams] at henv hcheck
  rw [State.endLoading_asleep h]
  refine ⟨henv, hcheck, htick, ?_, s.loaded_spec.covers, fun hg => ?_, hawake, hover⟩
  · exact s.loaded_spec.target.trans (by rw [← s.loaded_spec.chip]; rfl)
  · obtain ⟨hf, hd⟩ := (Observations.gateOpen_iff _).1 hg
    exact s.loaded_spec.released hf hd

theorem State.endsLoading_awake (h : s.control.awake = true) : s.EndsLoading s.endLoading := by
  obtain ⟨-, hobs, hworking, htable, hover, hawake, -⟩ := s.startPeriods_frame
  obtain ⟨henv, hcheck, htick, -⟩ := s.loaded.startPeriods_timers
  have hparams : s.loaded.working = s.working := hworking
  rw [hparams] at henv hcheck
  obtain ⟨-, -, -, hover', hawake', htarget, hcovers, hreleased, htimers⟩ :=
    s.loaded.startPeriods.enterStandby_spec _ rfl
  rw [hworking, htable, hover] at htarget
  rw [State.endLoading_awake h]
  exact ⟨(htimers _ (by decide) (by decide)).trans henv, (htimers _ (by decide) (by decide)).trans hcheck,
    (htimers _ (by decide) (by decide)).trans htick, htarget, hcovers, fun hg => hreleased (hobs ▸ hg),
    hawake'.trans hawake, hover'.trans hover⟩

theorem State.endsLoading (s : State) : s.EndsLoading s.endLoading := by
  cases h : s.control.awake with
  | true => exact State.endsLoading_awake h
  | false => exact State.endsLoading_asleep h

/-- Awake, the chip goes on to the entry to STANDBY, and on to DRIVE where all four links are UP (R105, R106). -/
theorem State.endLoading_gathers (h : s.control.awake = true) :
    (s.DriveTestHolds false → s.endLoading.control.chip = .drive
      ∧ (s.endLoading.timers.get .gather).state = .stopped)
    ∧ (¬ s.DriveTestHolds false → s.endLoading.control.chip = .standby
      ∧ s.endLoading.timers.get .gather = ⟨.running, s.working.params.gatherTime, 0⟩)
    ∧ s.endLoading.control.gatherDone = false := by
  obtain ⟨hports, -, hworking, -⟩ := s.startPeriods_frame
  obtain ⟨hdrive, hstandby, hdone, -⟩ := s.loaded.startPeriods.enterStandby_spec _ rfl
  have htest : s.loaded.startPeriods.DriveTestHolds false ↔ s.DriveTestHolds false := by
    simp only [State.DriveTestHolds, hports]
  rw [htest] at hdrive hstandby
  rw [hworking] at hstandby
  rw [State.endLoading_awake h]
  exact ⟨hdrive, hstandby, hdone⟩

end

/-- Settles O32: asleep the chip recomputes in SHUTDOWN, awake it goes on to enter STANDBY as everywhere. -/
theorem endOfLoadingStartsTheMachine : Obligations.EndOfLoadingStartsTheMachine := by
  intro s hc ho
  let u := s.took (· == .endOfLoading)
  have ends := u.endsLoading
  refine ⟨_, exec_endOfLoading hc ho, fun ha => ⟨?_, ?_, ?_⟩, fun ha hd => ?_, fun ha hd => ?_, ends.envelope,
    ends.check, ends.recordTick, ends.target, ends.covers, ends.released, ends.awake, ends.overrides, u.endLoading_rest⟩
  · rw [State.endLoading_asleep (s := u) ha]
    exact u.loaded_spec.chip.trans (by simp [State.setChip, Control.afterLoading, u, ha])
  · rw [State.endLoading_asleep (s := u) ha]
    exact u.loaded_timers (c := .gather) (by decide)
  · rw [State.endLoading_asleep (s := u) ha]
    obtain ⟨-, -, -, -, -, -, hdone⟩ := u.startPeriods_frame
    exact hdone
  · obtain ⟨hdrive, -, hdone⟩ := State.endLoading_gathers (s := u) ha
    obtain ⟨hchip, hgather⟩ := hdrive hd
    exact ⟨hchip, hgather, hdone⟩
  · obtain ⟨-, hstandby, hdone⟩ := State.endLoading_gathers (s := u) ha
    obtain ⟨hchip, hgather⟩ := hstandby hd
    exact ⟨hchip, hgather, hdone⟩

end Sys2Proof.Machine
end

section
/-! PROOFS. What the containment controller leaves owed to the store and to itself: it adds no announcement and no
rewrite request of its own, so an event hands on what its fault table event gives (05 R78, R80), for O33 and O34. -/

namespace Sys2Proof.Machine

open Sys2Proof

/-- The same announcements and rewrite requests are owed in two states. -/
def State.SameNews (s t : State) : Prop :=
  ∀ e, e = .announcement ∨ e = .latchRequest → t.owed.count e = s.owed.count e

/-- A change of events that makes and unmakes none of one event keeps their number. -/
theorem count_map_of_fixed {f : Owed → Owed} {e : Owed} (h : ∀ x, f x = e ↔ x = e) (l : List Owed) :
    (l.map f).count e = l.count e := by
  change (l.map f).countP (· == e) = l.countP (· == e)
  rw [List.countP_map]
  congr 1
  funext x
  rw [Bool.eq_iff_iff]
  simpa using h x

section
variable {s t u : State}

theorem State.SameNews.refl (s : State) : s.SameNews s := fun _ _ => rfl

theorem State.SameNews.trans (h : s.SameNews t) (h' : t.SameNews u) : s.SameNews u :=
  fun e he => (h' e he).trans (h e he)

theorem State.SameNews.of_owed (h : t.owed = s.owed) : s.SameNews t := fun _ _ => by rw [h]

theorem State.SameNews.ite {b : Prop} [Decidable b] (ht : s.SameNews t) (hu : s.SameNews u) :
    s.SameNews (if b then t else u) := ite_within (fun _ => ht) hu

/-- Operations on channels put expiries out of force, and nothing else (03 R41). -/
theorem State.SameNews.operate (s : State) (c : Chan) (f : Channel → Channel) : s.SameNews (s.operate c f) := by
  rintro e (rfl | rfl)
  all_goals exact count_map_of_fixed (fun x => by cases x <;> simp [Owed.voided]) s.owed

theorem State.SameNews.start (s : State) (c : Chan) : s.SameNews (s.start c) := State.SameNews.operate s c _

theorem State.SameNews.stop (s : State) (c : Chan) : s.SameNews (s.stop c) := State.SameNews.operate s c _

/-- A new applied state owes isolation notices (R119). -/
theorem State.SameNews.apply (s : State) (a : Drive) : s.SameNews (s.apply a) := by
  have ramp (x : State) (before after : Level) : x.SameNews (x.rampFor before after) :=
    .ite (.start { x with control := { x.control with ramp := true } } .haltRamp)
      (.ite (.stop { x with control := { x.control with ramp := false } } .haltRamp) (.refl x))
  have notices : ∀ e, e = .announcement ∨ e = .latchRequest →
      (isolationNotices s.control.applied a).count e = 0 := by
    intro e he
    refine List.count_eq_zero.2 fun hm => ?_
    simp only [isolationNotices, isolationNoticeOf, List.mem_append, List.mem_ite_nil_left, List.mem_singleton] at hm
    rcases he with rfl | rfl <;> simp at hm
  intro e he
  refine (List.count_append ..).trans ?_
  rw [notices e he, Nat.add_zero]
  exact ramp { s with control := { s.control with applied := a } } _ _ e he

theorem State.SameNews.recomputeCore (s : State) : s.SameNews s.recomputeCore :=
  .apply { s with control := { s.control with
    target := targetFor s.control.chip s.working s.table s.control.overrides } } _

theorem State.SameNews.testDrive (s : State) : s.SameNews s.testDrive :=
  .ite ((State.SameNews.stop (s.setChip .drive) .gather).trans (.recomputeCore _)) (.refl s)

theorem State.SameNews.recompute (s : State) : s.SameNews s.recompute :=
  (State.SameNews.recomputeCore s).trans (.testDrive _)

/-- An entry to STANDBY only makes the batches owed those of an earlier gather (R108). -/
theorem State.SameNews.enterStandby (s : State) : s.SameNews s.enterStandby := by
  refine State.SameNews.trans ?_ (.recompute _)
  refine State.SameNews.trans (t := { s with
    control := { s.control with chip := .standby, gatherDone := false }
    owed := s.owed.map Owed.gatherOver }) ?_ (.start _ _)
  rintro e (rfl | rfl)
  all_goals exact count_map_of_fixed (fun x => by cases x <;> simp [Owed.gatherOver]) s.owed

theorem State.SameNews.shutDown (s : State) : s.SameNews s.shutDown :=
  (State.SameNews.of_owed (t := s.setChip .shutdown) rfl).trans (.recompute _)

/-- A command hands on what its fault table event gives, whatever else of the controller runs around it. -/
theorem State.HandsOn.of_event {x : State} {o : TableOut} {q : Prop} (hn : s.table.Notifies u.table q o.owes)
    (h : s.SameNews x) (h' : (x.tableEvent o).SameNews u) : s.HandsOn u q := by
  refine ⟨o.owes, hn, fun e he => (h' e he).trans ?_⟩
  rw [← h e he]
  exact List.count_append ..

theorem State.HandsOn.announces {q : Prop} (h : s.HandsOn t q) (hc : s.table.ContainmentChange t.table) :
    t.owed.count .announcement = s.owed.count .announcement + 1 := by
  obtain ⟨news, hn, hcount⟩ := h
  rw [hcount _ (.inl rfl), hn.announced hc]

theorem State.HandsOn.requests_none {q : Prop} (h : s.HandsOn t q) (hq : ¬ q) :
    t.owed.count .latchRequest = s.owed.count .latchRequest := by
  obtain ⟨news, hn, hcount⟩ := h
  rw [hcount _ (.inr rfl), hn.unrequested hq, Nat.add_zero]

/-! ## An accepted change of WAKE (R103) -/

/-- The change is taken off what is owed where the filter owes it (02 R32; log 4). -/
theorem State.acceptWake_owed (s : State) (on : Bool) : (s.acceptWake on).owed = s.owed.erase (.wakeChange on) := by
  unfold State.acceptWake
  dsimp only
  split
  · rw [State.took_eq_erase]
  · next h =>
    refine (List.erase_of_not_mem ?_).symm
    simpa [State.owes] using h

theorem State.acceptWake_switches (s : State) (on : Bool) : (s.acceptWake on).switches.brake = s.switches.brake
    ∧ (s.acceptWake on).switches.stand = s.switches.stand := by
  unfold State.acceptWake
  dsimp only
  split <;> exact ⟨rfl, rfl⟩

theorem State.acceptWake_rest (s : State) (on : Bool) : s.acceptWake on = { s with
    switches := (s.acceptWake on).switches, owed := s.owed.erase (.wakeChange on)
    control := { s.control with awake := on } } := by
  apply State.ext_fields
  case h12 => exact s.acceptWake_control on
  case h18 => exact s.acceptWake_owed on
  all_goals simp

theorem State.SameNews.acceptWake (s : State) (on : Bool) : s.SameNews (s.acceptWake on) := by
  rintro e (rfl | rfl)
  all_goals
    rw [State.acceptWake_owed]
    exact List.count_erase_of_ne (by simp)

end

end Sys2Proof.Machine
end

section
/-! PROOFS. A WAKE rising (O33): the key cycle, and the entry to STANDBY that follows it. -/

namespace Sys2Proof.Machine

open Sys2Proof

/-! ## The records under a key cycle (05 R73) -/

section
variable {t : FaultTable} {c : Copy} {r : FaultRecord}

theorem FaultRecord.onKeyCycle_moves (hs : r.state = .latched) (hp : r.policy = .key) : r.onKeyCycle c =
    if (c.rows.get r.kind).enabled then some { r with state := .dormant, run := 0, age := 0 } else none :=
  if_pos ⟨hs, hp⟩

theorem FaultRecord.onKeyCycle_stays (h : r.state ≠ .latched ∨ r.policy ≠ .key) : r.onKeyCycle c = some r :=
  if_neg fun ⟨hs, hp⟩ => h.elim (absurd hs) (absurd hp)

/-- A key cycle frees records under KEY alone. -/
theorem FaultRecord.policy_of_onKeyCycle (h : r.onKeyCycle c = none) : r.policy = .key := by
  by_contra hp
  rw [FaultRecord.onKeyCycle_stays (.inr hp)] at h
  cases h

theorem FaultTable.keyCycle_slot (t : FaultTable) (c : Copy) (i : Nat) :
    (t.keyCycle c).table.slot i = (t.slot i).bind (FaultRecord.onKeyCycle c) := FaultTable.slot_update _ i

theorem FaultTable.keyCycle_slot_some {i : Nat} (h : t.slot i = some r) :
    (t.keyCycle c).table.slot i = r.onKeyCycle c := by
  rw [FaultTable.keyCycle_slot, h, Option.bind_some]

theorem FaultTable.keyCycle_keepsWorkshop : ¬ t.LosesWorkshop (t.keyCycle c).table := by
  rintro ⟨i, r, hi, hp, hn⟩
  rw [FaultTable.keyCycle_slot_some hi] at hn
  rw [FaultRecord.policy_of_onKeyCycle hn] at hp
  cases hp

/-- A record latched under KEY leaves LATCHED, which is a containment change (R78). -/
theorem FaultTable.keyCycle_containmentChange {i : Nat} (hi : t.slot i = some r) (hs : r.state = .latched)
    (hp : r.policy = .key) : t.ContainmentChange (t.keyCycle c).table := by
  refine .inr (.inr ⟨i, fun h => ?_⟩)
  obtain ⟨q, hq, hlatched⟩ := h.1 ⟨r, hi, hs⟩
  rw [FaultTable.keyCycle_slot_some hi, FaultRecord.onKeyCycle_moves hs hp] at hq
  split at hq
  · cases hq
    cases hlatched
  · cases hq

end

/-! ## The command (R103, R110) -/

section
variable {s : State}

theorem exec_wakeRising_elsewhere (h : s.control.chip ≠ .shutdown) :
    exec .wakeRising s = .next (s.acceptWake true) :=
  congrArg Host.Outcome.next (if_neg (by rwa [State.acceptWake_control]))

theorem exec_wakeRising_shutdown (h : s.control.chip = .shutdown) :
    exec .wakeRising s = .next (s.acceptWake true).keyCycle :=
  congrArg Host.Outcome.next (if_pos (by rwa [State.acceptWake_control]))

theorem State.keyCycle_table (s : State) : s.keyCycle.table = (s.table.keyCycle s.working).table :=
  State.enterStandby_table _

theorem State.keyCycle_rest (s : State) : s.keyCycle = { s with
    table := s.keyCycle.table, control := s.keyCycle.control, timers := s.keyCycle.timers
    owed := s.keyCycle.owed } := by
  apply State.ext_fields <;> simp

/-- A key cycle hands on what its fault table event gives, also after an accepted change of WAKE (R78, R80). -/
theorem State.keyCycle_handsOn {x : State} (h : s.SameNews x) (ht : x.table = s.table) :
    s.HandsOn x.keyCycle (s.table.LosesWorkshop x.keyCycle.table) := by
  refine State.HandsOn.of_event ?_ h (.enterStandby _)
  rw [← ht, State.keyCycle_table]
  exact FaultTable.updateEvent_notifies _ _

theorem State.acceptWake_driveTest (s : State) (on gatherDone : Bool) :
    (s.acceptWake on).DriveTestHolds gatherDone ↔ s.DriveTestHolds gatherDone := by
  simp [State.DriveTestHolds]

end

/-- Settles O33: outside SHUTDOWN the wake flag alone moves; in SHUTDOWN the records move by
`FaultRecord.onKeyCycle` before STANDBY is entered. -/
theorem wakeRisingIsKeyCycleInShutdown : Obligations.WakeRisingIsKeyCycleInShutdown := by
  intro s
  obtain ⟨hbrake, hstand⟩ := s.acceptWake_switches true
  have hflag : (s.acceptWake true).control.awake = true := by rw [State.acceptWake_control]
  by_cases hc : s.control.chip = .shutdown
  case neg =>
    exact ⟨_, exec_wakeRising_elsewhere hc, hflag, fun _ => s.acceptWake_rest true, fun h => absurd h hc, hbrake,
      hstand⟩
  have htable : (s.acceptWake true).keyCycle.table = (s.table.keyCycle s.working).table := by
    rw [State.keyCycle_table, State.acceptWake_table, State.acceptWake_working]
  have hands := State.keyCycle_handsOn (State.SameNews.acceptWake s true) (s.acceptWake_table true)
  obtain ⟨hdrive, hstandby, hdone, hover, hawake, htarget, hcovers, -, -⟩ :=
    State.enterStandby_spec _ (s.acceptWake true).keyCycle rfl
  refine ⟨_, exec_wakeRising_shutdown hc, hawake.trans hflag, fun h => absurd hc h, fun _ => ⟨fun i hi => ?_,
    fun i r hi => ⟨fun hs hp => ?_, fun h => ?_⟩, ?_, ?_, hands, fun ⟨i, r, hi, hs, hp⟩ => ?_, ?_, fun hd => ?_,
    fun hd => ?_, hdone, ?_, hcovers, ?_, ?_⟩, ?_, ?_⟩
  · rw [htable, FaultTable.keyCycle_slot, hi]
    rfl
  · rw [htable, FaultTable.keyCycle_slot_some hi, FaultRecord.onKeyCycle_moves hs hp]
  · rw [htable, FaultTable.keyCycle_slot_some hi, FaultRecord.onKeyCycle_stays h]
  · rw [htable]
    exact FaultTable.update_tableFull_iff
  · rw [htable]
    rfl
  · exact hands.announces (htable ▸ FaultTable.keyCycle_containmentChange hi hs hp)
  · exact hands.requests_none (htable ▸ FaultTable.keyCycle_keepsWorkshop)
  · exact hdrive ((s.acceptWake_driveTest true false).2 hd)
  · have entered := hstandby (mt (s.acceptWake_driveTest true false).1 hd)
    simpa using entered
  · refine htarget.trans ?_
    rw [htable]
    simp [State.tableEvent, State.acceptWake_control]
  · exact hover.trans (by simp [State.acceptWake_control])
  · refine (State.keyCycle_rest _).trans ?_
    apply State.ext_fields <;> simp
  · rw [State.keyCycle_switches, hbrake]
  · rw [State.keyCycle_switches, hstand]

end Sys2Proof.Machine
end

section
/-! PROOFS. A WAKE falling (O34): the forced leave from SERVICE, and the move to SHUTDOWN that follows it. -/

namespace Sys2Proof.Machine

open Sys2Proof

/-! ## The fault table at a forced leave (04 R59, 05 R86) -/

section
variable {t t' u : FaultTable}

theorem FaultTable.abandonSweep_of_idle (h : t.sweep.state = .idle) : t.abandonSweep = t := if_pos h

theorem FaultTable.abandonSweep_of_busy (h : t.sweep.state ≠ .idle) : t.abandonSweep = t.endSweep .abandoned :=
  if_neg h

theorem FaultTable.slotView_abandonSweep (i : Nat) : slotView (t.abandonSweep.slot i) = slotView (t.slot i) := by
  by_cases h : t.sweep.state = .idle
  · rw [FaultTable.abandonSweep_of_idle h]
  · rw [FaultTable.abandonSweep_of_busy h, FaultTable.slot_endSweep, slotView_unmarked]

theorem FaultTable.abandonSweep_tableFull : t.abandonSweep.tableFull = t.tableFull := by
  by_cases h : t.sweep.state = .idle
  · rw [FaultTable.abandonSweep_of_idle h]
  · rw [FaultTable.abandonSweep_of_busy h]
    rfl

/-- A containment change is seen in what R78 looks at in each slot, and in TABLE_FULL. -/
theorem FaultTable.containmentChange_iff : t.ContainmentChange t' ↔
    t.tableFull ≠ t'.tableFull ∨ ∃ i, slotView (t.slot i) ≠ slotView (t'.slot i) := by
  simp only [FaultTable.ContainmentChange, ne_eq, slotView_eq_iff, not_and_or, exists_or]

/-- The abandonment of the sweep, which clears marks alone, hides no containment change. -/
theorem FaultTable.containmentChange_abandonSweep : t.abandonSweep.ContainmentChange t' ↔ t.ContainmentChange t' := by
  simp only [FaultTable.containmentChange_iff, FaultTable.abandonSweep_tableFull, FaultTable.slotView_abandonSweep]

theorem FaultTable.losesWorkshop_abandonSweep : t.abandonSweep.LosesWorkshop t' ↔ t.LosesWorkshop t' := by
  by_cases h : t.sweep.state = .idle
  · rw [FaultTable.abandonSweep_of_idle h]
  rw [FaultTable.abandonSweep_of_busy h]
  constructor
  · rintro ⟨i, q, hi, hp, hn⟩
    rw [FaultTable.slot_endSweep] at hi
    obtain ⟨r, hr, rfl⟩ := Option.map_eq_some_iff.1 hi
    exact ⟨i, r, hr, hp, hn⟩
  · rintro ⟨i, r, hi, hp, hn⟩
    exact ⟨i, r.unmarked, by rw [FaultTable.slot_endSweep, hi, Option.map_some], hp, hn⟩

/-- What an event hands on after the abandonment of the sweep it hands on from the table before it. -/
theorem FaultTable.notifies_of_abandonSweep {news : List Owed}
    (h : t.abandonSweep.Notifies t' (t.abandonSweep.LosesWorkshop t') news) :
    t.Notifies t' (t.LosesWorkshop t') news :=
  ⟨h.only, fun hc => h.announced (FaultTable.containmentChange_abandonSweep.2 hc),
    fun hc => h.unannounced (mt FaultTable.containmentChange_abandonSweep.1 hc),
    fun hw => h.requested (FaultTable.losesWorkshop_abandonSweep.2 hw),
    fun hw => h.unrequested (mt FaultTable.losesWorkshop_abandonSweep.1 hw)⟩

/-- A table left as it is hands on nothing. -/
theorem FaultTable.notifies_self : t.Notifies t (t.LosesWorkshop t) [] := by
  have unchanged : ¬ t.ContainmentChange t := by simp [FaultTable.containmentChange_iff]
  have kept : ¬ t.LosesWorkshop t := by
    rintro ⟨i, r, hi, -, hn⟩
    exact Option.some_ne_none r (hi.symm.trans hn)
  exact ⟨nofun, fun h => absurd h unchanged, fun _ => rfl, fun h => absurd h kept, fun _ => rfl⟩

theorem FaultTable.rowChange_freesDisabled (t : FaultTable) (old new : Rows) :
    t.FreesDisabled (t.rowChange old new).table old new where
  places i hi := (FaultTable.slot_update _ i).trans (by rw [hi]; rfl)
  records i r hi := (FaultTable.slot_update _ i).trans (by rw [hi]; rfl)
  full := FaultTable.update_tableFull_iff
  rest := rfl

end

/-! ## The HALT ramp and the move to SHUTDOWN (R109, R120) -/

section
variable {s t v : State}

/-- A HALT ramp is in progress, and its channel runs. -/
def State.Ramping (s : State) : Prop := s.control.ramp = true ∧ (s.timers.get .haltRamp).state = .running

/-- A machine at HALT only since its ramp began. -/
def State.HaltRamps (s : State) : Prop := s.control.applied.level = .halt → s.Ramping

theorem State.HaltRamps.of_moving (h : s.control.applied.level ≠ .halt) : s.HaltRamps := fun hh => absurd hh h

/-- A new applied state at HALT begins the ramp, or leaves the one in progress as it is. -/
theorem State.AppliedFollows.haltRamps (h : s.AppliedFollows t) (hs : s.HaltRamps) : t.HaltRamps := by
  intro ht
  by_cases hb : s.control.applied.level = .halt
  · obtain ⟨hramp, htimers⟩ := h.rampStays (iff_of_true hb ht)
    rw [State.Ramping, hramp, htimers]
    exact hs hb
  · obtain ⟨hramp, htimers⟩ := h.rampStart hb ht
    refine ⟨hramp, ?_⟩
    rw [htimers, Timers.get_set]

/-- What a move to SHUTDOWN leaves of the controller and its channels. -/
structure State.ShutDownFrom (v t : State) : Prop where
  chip      : t.control.chip = .shutdown
  target    : t.control.target.level = .halt
  applied   : t.control.applied.level = .halt
  awake     : t.control.awake = v.control.awake
  overrides : t.control.overrides = v.control.overrides
  ramps     : v.HaltRamps → t.Ramping
  timers    : ∀ c, c ≠ .haltRamp → t.timers.get c = v.timers.get c

/-- The move to SHUTDOWN is one recomputation there (R112). -/
theorem State.shutDown_recomputes (v : State) : (v.setChip .shutdown).Recomputes v.shutDown := by
  have stays : v.shutDown = (v.setChip .shutdown).recomputeCore :=
    State.testDrive_stays (.inl (by rw [State.recomputeCore_chip]; exact nofun))
  exact stays ▸ State.recomputeCore_spec _

theorem State.Recomputes.awake (h : s.Recomputes t) : t.control.awake = s.control.awake :=
  (congrArg (fun u : State => u.control.awake) h.rest).trans rfl

theorem State.Recomputes.overrides (h : s.Recomputes t) : t.control.overrides = s.control.overrides :=
  (congrArg (fun u : State => u.control.overrides) h.rest).trans rfl

theorem State.shutDown_from (v : State) : v.ShutDownFrom v.shutDown := by
  have h := v.shutDown_recomputes
  have hc : v.shutDown.control.chip = .shutdown := h.chip
  obtain ⟨htarget, happlied⟩ := h.levelsOk.halted (by simp [hc]) (by simp [hc])
  exact ⟨hc, htarget, happlied, h.awake, h.overrides,
    fun hv => h.haltRamps (s := v.setChip .shutdown) hv happlied, h.timers_get⟩

/-! ## The forced leave (R109, 09 R173) -/

/-- The forced leave before the working copy is validated. -/
def State.endService (s : State) : State := (s.emptyOverrides.stop .serviceIdle).abandonSweep

theorem State.SameNews.endService (s : State) : s.SameNews s.endService :=
  State.SameNews.trans (t := s.emptyOverrides.stop .serviceIdle) (.stop s.emptyOverrides _) (.of_owed rfl)

theorem State.endService_stopped (s : State) : (s.endService.timers.get .serviceIdle).state = .stopped :=
  (congrArg Channel.state (State.operate_timers_get s.emptyOverrides .serviceIdle Channel.stop)).trans rfl

/-- The committed copy in the place of a working copy that failed, before its row change (04 R58). -/
def State.reverting (s : State) : State :=
  { s.endService with unsaved := false, store := { s.store with replaced := true }, working := s.committed }

theorem State.forcedLeave_valid (h : s.working.relationFailure = none) :
    s.forcedLeave s.working.relationFailure = s.endService := by rw [h]; rfl

theorem State.forcedLeave_invalid (hc : s.control.chip ≠ .standby) (h : s.working.relationFailure ≠ none) :
    s.forcedLeave s.working.relationFailure = s.reverting.recomputeCore.tableEvent
      (s.table.abandonSweep.rowChange s.working.rows s.committed.rows) := by
  obtain ⟨f, hf⟩ := Option.ne_none_iff_exists'.1 h
  rw [hf]
  exact State.changeCopy_eq (s := { s.endService with unsaved := false, store := { s.store with replaced := true } })
    hc s.committed

/-- What the forced leave leaves, whether or not it replaces the working copy. -/
structure State.LeavesByForce (s t : State) : Prop where
  awake     : t.control.awake = s.control.awake
  overrides : t.control.overrides = []
  idle      : t.table.sweep.state = .idle
  abandoned : s.table.sweep.state ≠ .idle → t.table.sweep.outcome = .abandoned
  stopped   : (t.timers.get .serviceIdle).state = .stopped
  ramps     : s.control.applied.level ≠ .halt → t.HaltRamps
  valid     : s.working.relationFailure = none → t.working = s.working ∧ t.unsaved = s.unsaved
    ∧ t.table = s.table.abandonSweep
  invalid   : s.working.relationFailure ≠ none → t.working = s.committed ∧ t.unsaved = false
    ∧ s.table.abandonSweep.FreesDisabled t.table s.working.rows s.committed.rows
  handsOn   : ∀ v : State, t.SameNews v → v.table = t.table → s.HandsOn v (s.table.LosesWorkshop v.table)
  store     : t.store = { s.store with replaced := t.store.replaced }

theorem FaultTable.abandonSweep_outcome {t : FaultTable} (h : t.sweep.state ≠ .idle) :
    t.abandonSweep.sweep.outcome = .abandoned := by
  rw [FaultTable.abandonSweep_of_busy h]
  rfl

/-- A valid working copy stays, and the table hands on nothing. -/
theorem State.leavesByForce_valid (h : s.working.relationFailure = none) : s.LeavesByForce s.endService where
  awake := rfl
  overrides := rfl
  idle := s.table.abandonSweep_idle
  abandoned := FaultTable.abandonSweep_outcome
  stopped := s.endService_stopped
  ramps := .of_moving
  valid _ := ⟨rfl, rfl, rfl⟩
  invalid hn := absurd h hn
  handsOn v hv ht := by
    refine ⟨[], ?_, (State.SameNews.endService s).trans hv⟩
    rw [ht]
    exact FaultTable.notifies_of_abandonSweep FaultTable.notifies_self
  store := rfl

/-- A working copy that fails gives way to the committed copy, as one recomputation and one row change. -/
theorem State.leavesByForce_invalid (h : s.working.relationFailure ≠ none) : s.LeavesByForce
    (s.reverting.recomputeCore.tableEvent (s.table.abandonSweep.rowChange s.working.rows s.committed.rows)) where
  awake := s.reverting.recomputeCore_spec.awake
  overrides := s.reverting.recomputeCore_spec.overrides
  idle := s.table.abandonSweep_idle
  abandoned := FaultTable.abandonSweep_outcome
  stopped := (congrArg Channel.state (s.reverting.recomputeCore_spec.timers_get .serviceIdle nofun)).trans
    s.endService_stopped
  ramps hs := s.reverting.recomputeCore_spec.haltRamps (.of_moving hs)
  valid hn := absurd hn h
  invalid _ := ⟨s.reverting.recomputeCore_working, s.reverting.recomputeCore_unsaved,
    FaultTable.rowChange_freesDisabled _ _ _⟩
  handsOn v hv ht := by
    refine State.HandsOn.of_event (x := s.reverting.recomputeCore) ?_ ?_ hv
    · rw [ht]
      exact FaultTable.notifies_of_abandonSweep (FaultTable.updateEvent_notifies _ _)
    · exact (State.SameNews.endService s).trans (.trans (.of_owed rfl) (.recomputeCore s.reverting))
  store := by
    have kept : (s.reverting.recomputeCore.tableEvent
        (s.table.abandonSweep.rowChange s.working.rows s.committed.rows)).store = s.reverting.store :=
      State.recomputeCore_store _
    rw [kept]
    rfl

theorem State.leavesByForce (hc : s.control.chip ≠ .standby) :
    s.LeavesByForce (s.forcedLeave s.working.relationFailure) := by
  by_cases h : s.working.relationFailure = none
  · exact State.forcedLeave_valid h ▸ State.leavesByForce_valid h
  · exact State.forcedLeave_invalid hc h ▸ State.leavesByForce_invalid h

/-! ## The command (R103) -/

/-- What a command hands on it hands on from a state before it with the same news and the same table. -/
theorem State.HandsOn.of_sameNews {q : Prop} (h : v.HandsOn t q) (hs : s.SameNews v) (hv : v.table = s.table) :
    s.HandsOn t q := by
  obtain ⟨news, hn, hcount⟩ := h
  exact ⟨news, hv ▸ hn, fun e he => by rw [hcount e he, hs e he]⟩

theorem State.acceptWake_chip (s : State) (on : Bool) : (s.acceptWake on).control.chip = s.control.chip := by
  rw [State.acceptWake_control]

theorem exec_wakeFalling_elsewhere (h : s.control.chip = .loading ∨ s.control.chip = .shutdown) :
    exec .wakeFalling s = .next (s.acceptWake false) := by
  refine congrArg Host.Outcome.next ?_
  rcases h with h | h <;> simp only [State.wakeFell, State.acceptWake_chip, h]

theorem exec_wakeFalling_standby (h : s.control.chip = .standby) :
    exec .wakeFalling s = .next ((s.acceptWake false).stop .gather).shutDown :=
  congrArg Host.Outcome.next (by simp only [State.wakeFell, State.acceptWake_chip, h])

theorem exec_wakeFalling_drive (h : s.control.chip = .drive) :
    exec .wakeFalling s = .next (s.acceptWake false).shutDown :=
  congrArg Host.Outcome.next (by simp only [State.wakeFell, State.acceptWake_chip, h])

theorem exec_wakeFalling_service (h : s.control.chip = .service) : exec .wakeFalling s =
    .next ((s.acceptWake false).forcedLeave (s.acceptWake false).working.relationFailure).shutDown :=
  congrArg Host.Outcome.next (by simp only [State.wakeFell, State.acceptWake_chip, h])

end

/-- Settles O34: the wake flag alone in LOADING and SHUTDOWN; elsewhere `State.shutDown_from`, from SERVICE after
`State.leavesByForce`. -/
theorem wakeFallingShutsDown : Obligations.WakeFallingShutsDown := by
  intro s
  have control : (s.acceptWake false).control = { s.control with awake := false } := s.acceptWake_control false
  have flag : (s.acceptWake false).control.awake = false := by rw [control]
  have moving (h : s.control.applied.level ≠ .halt) : (s.acceptWake false).control.applied.level ≠ .halt := by
    rwa [control]
  cases hc : s.control.chip with
  | loading | shutdown =>
    exact ⟨_, exec_wakeFalling_elsewhere (by simp [hc]), flag, fun _ => s.acceptWake_rest false, nofun⟩
  | standby =>
    have down := ((s.acceptWake false).stop .gather).shutDown_from
    refine ⟨_, exec_wakeFalling_standby hc, down.awake.trans flag, nofun, fun _ => ⟨down.chip, down.target,
      down.applied, fun h => down.ramps (.of_moving (moving h)), fun _ => ?_, fun _ => ⟨?_, ?_⟩, nofun⟩⟩
    · rw [down.timers .gather nofun, State.stop, State.operate_timers_get]
      rfl
    · apply State.ext_fields <;> simp
    · rw [down.overrides, State.stop_control, control]
  | drive =>
    have down := (s.acceptWake false).shutDown_from
    refine ⟨_, exec_wakeFalling_drive hc, down.awake.trans flag, nofun, fun _ => ⟨down.chip, down.target,
      down.applied, fun h => down.ramps (.of_moving (moving h)), nofun, fun _ => ⟨?_, ?_⟩, nofun⟩⟩
    · apply State.ext_fields <;> simp
    · rw [down.overrides, control]
  | service =>
    have left := (s.acceptWake false).leavesByForce (by rw [State.acceptWake_chip, hc]; exact nofun)
    have down := ((s.acceptWake false).forcedLeave (s.acceptWake false).working.relationFailure).shutDown_from
    have table := ((s.acceptWake false).forcedLeave (s.acceptWake false).working.relationFailure).shutDown_table
    have hands := (left.handsOn _ (.shutDown _) table).of_sameNews (.acceptWake s false) (s.acceptWake_table false)
    rw [State.acceptWake_table] at hands
    refine ⟨_, exec_wakeFalling_service hc, (down.awake.trans left.awake).trans flag, nofun, fun _ => ⟨down.chip,
      down.target, down.applied, fun h => down.ramps (left.ramps (moving h)), nofun, nofun, fun _ =>
      ⟨down.overrides.trans left.overrides, ?_, fun h => ?_, ?_, fun h => ?_, fun h => ?_,
        FaultTable.abandonSweep_of_idle, FaultTable.abandonSweep_of_busy, hands, ?_, ?_⟩⟩⟩
    · rw [table, left.idle]
    · rw [table, left.abandoned (by rwa [State.acceptWake_table])]
    · rw [down.timers .serviceIdle nofun, left.stopped]
    · simpa using left.valid (by rwa [State.acceptWake_working])
    · simpa using left.invalid (by rwa [State.acceptWake_working])
    · apply State.ext_fields <;> simp
    · simpa using left.store

end Sys2Proof.Machine
end

section
/-! PROOFS. The stages of one envelope computation (O37): what each makes of its inputs, and the range of its result
(08 R132 to R144). -/

namespace Sys2Proof.Machine

open Sys2Proof

/-! ## Level percent and speed ceiling (08 R130, R132) -/

section
variable {c : Params} {prof : Profile} {a : Drive}

/-- The pair of parameters that a profile selects (R130). -/
theorem profile_selects {pct speed : Nat} (eco : prof = .eco → pct = c.ecoPct ∧ speed = c.ecoSpeed)
    (tour : prof = .tour → pct = c.tourPct ∧ speed = c.tourSpeed)
    (sport : prof = .sport → pct = c.sportPct ∧ speed = c.sportSpeed) :
    pct = profilePct c prof ∧ speed = profileSpeed c prof := by
  cases prof with
  | eco => exact eco rfl
  | tour => exact tour rfl
  | sport => exact sport rfl

/-- The level's share and speed, one pair for each level (R132). -/
theorem level_figures (c : Params) (prof : Profile) (a : Drive) :
    (a.level = .full → levelPercent c prof a = profilePct c prof ∧ levelSpeed c prof a = profileSpeed c prof)
    ∧ (a.level = .derate →
        levelPercent c prof a = profilePct c prof * a.derate / 100 ∧ levelSpeed c prof a = profileSpeed c prof)
    ∧ (a.level = .limp → levelPercent c prof a = min (profilePct c prof) c.limpPct
        ∧ levelSpeed c prof a = min (profileSpeed c prof) c.limpSpeed)
    ∧ (a.level = .walk →
        levelPercent c prof a = min (profilePct c prof) c.walkPct ∧ levelSpeed c prof a = c.walkSpeed)
    ∧ (a.level = .halt → levelPercent c prof a = 0 ∧ levelSpeed c prof a = 0) := by
  refine ⟨?_, ?_, ?_, ?_, ?_⟩ <;> intro h <;> simp only [levelPercent, levelSpeed, h, and_self]

theorem profileSpeed_le (h : c.inRange) (prof : Profile) : profileSpeed c prof ≤ 600 := by
  cases prof with
  | eco => exact h.le_high .ecoSpeed
  | tour => exact h.le_high .tourSpeed
  | sport => exact h.le_high .sportSpeed

theorem levelSpeed_le (h : c.inRange) (prof : Profile) (a : Drive) : levelSpeed c prof a ≤ 600 := by
  have hspeed := profileSpeed_le h prof
  unfold levelSpeed
  split
  · exact hspeed
  · exact hspeed
  · exact (Nat.min_le_left _ _).trans hspeed
  · exact (h.le_high .walkSpeed).trans (by decide)
  · exact Nat.zero_le _

theorem speedCeiling_le (h : c.inRange) (prof : Profile) (a : Drive) (chip : Chip) :
    speedCeiling c prof a chip ≤ 600 := by
  have hlevel := levelSpeed_le h prof a
  unfold speedCeiling
  split
  · exact (Nat.min_le_left _ _).trans hlevel
  · exact hlevel

end

/-! ## Budgets (08 R133, R139) -/

section
variable {o : Observations} {a : Drive}

theorem driveBudget_le_iDis (o : Observations) {p : Nat} (hp : p ≤ 100) : driveBudget o p ≤ o.pack.iDis :=
  Nat.div_le_of_le_mul (Nat.mul_comm 100 _ ▸ Nat.mul_le_mul_left _ hp)

theorem regenBudget_barred (h : a.regenInhibit = true ∨ a.level = .walk ∨ a.level = .halt) :
    regenBudget o a = 0 := by
  rcases h with h | h | h
  · exact if_pos h
  · exact regenBudget_walk (h ▸ Nat.le_refl _)
  · exact regenBudget_walk (h ▸ by decide)

theorem regenBudget_allowed (hi : a.regenInhibit = false) (hw : a.level ≠ .walk) (hh : a.level ≠ .halt) :
    regenBudget o a = o.pack.iChg := by
  cases hl : a.level with
  | full | derate | limp => simp [regenBudget, hi, hl]
  | walk => exact absurd hl hw
  | halt => exact absurd hl hh

theorem regenBudget_le_iChg (o : Observations) (a : Drive) : regenBudget o a ≤ o.pack.iChg := by
  by_cases h : a.regenInhibit = true ∨ a.level = .walk ∨ a.level = .halt
  · exact regenBudget_barred h ▸ Nat.zero_le _
  · obtain ⟨hi, hw, hh⟩ : ¬ a.regenInhibit = true ∧ ¬ a.level = .walk ∧ ¬ a.level = .halt := by
      simpa only [not_or] using h
    exact Nat.le_of_eq (regenBudget_allowed (Bool.eq_false_iff.2 hi) hw hh)

end

/-! ## Thermal factor, shares, motor limits and slew (08 R134 to R138) -/

section
variable {c : Params} {a : Drive} {t : Int}

theorem thermalFactor_cool (h : t ≤ c.thermStart) : thermalFactor c t = 1000 := if_pos h

theorem thermalFactor_hot (h1 : (c.thermStart : Int) < t) (h2 : (c.thermStop : Int) ≤ t) : thermalFactor c t = 0 :=
  (if_neg (Int.not_le.2 h1)).trans (if_pos h2)

theorem thermalFactor_between (h1 : (c.thermStart : Int) < t) (h2 : t < c.thermStop) :
    (thermalFactor c t : Int) = 1000 * ((c.thermStop : Int) - t) / ((c.thermStop : Int) - c.thermStart) := by
  rw [thermalFactor, if_neg (Int.not_le.2 h1), if_neg (Int.not_le.2 h2)]
  exact Int.toNat_of_nonneg (Int.ediv_nonneg (by omega) (by omega))

theorem thermalFactor_le (c : Params) (t : Int) : thermalFactor c t ≤ 1000 := by
  rcases le_or_gt t (c.thermStart : Int) with hcool | hwarm
  · exact Nat.le_of_eq (thermalFactor_cool hcool)
  · rcases le_or_gt (c.thermStop : Int) t with hhot | hbelow
    · exact thermalFactor_hot hwarm hhot ▸ Nat.zero_le _
    · have hdiv : 1000 * ((c.thermStop : Int) - t) / ((c.thermStop : Int) - c.thermStart) ≤ 1000 :=
        Int.ediv_le_of_le_mul (by omega) (by omega)
      have hk := thermalFactor_between hwarm hbelow
      omega

theorem shares_of_neither (hF : a.isoFront = false) (hR : a.isoRear = false) (budget : Nat) :
    shareFront c a budget = budget * c.frontShare / 100
      ∧ shareRear c a budget = budget - shareFront c a budget := by
  simp [shareFront, shareRear, hF, hR]

theorem shareFront_isolated (h : a.isoFront = true) (budget : Nat) : shareFront c a budget = 0 := if_pos h

theorem shareRear_isolated (h : a.isoRear = true) (budget : Nat) : shareRear c a budget = 0 := if_pos h

theorem shareRear_alone (hF : a.isoFront = true) (hR : a.isoRear = false) (budget : Nat) :
    shareRear c a budget = budget := by simp [shareRear, hF, hR]

theorem shareFront_alone (hF : a.isoFront = false) (hR : a.isoRear = true) (budget : Nat) :
    shareFront c a budget = budget := by simp [shareFront, hF, hR]

theorem motorLimit_stale (isolated : Bool) (cap k : Nat) : motorLimit isolated false cap k = 0 := by
  simp [motorLimit]

theorem motorLimit_heard (cap k : Nat) : motorLimit false true cap k = cap * k / 1000 := rfl

theorem slew_falls {target old : Nat} (h : target ≤ old) : slew c target old = target := if_pos h

theorem slew_rises {target old : Nat} (h : old < target) : slew c target old = min target (old + c.slewUp) :=
  if_neg (Nat.not_le.2 h)

end

theorem MotorRecord.view_of_fresh {r : MotorRecord} (h : r.fresh = true) : r.view = r := if_pos h

/-- The stages of one budget with both motor limits written out, the capabilities as given to readers (R134 to
R139). -/
def splitOf (i : EnvelopeInputs) (budget capF capR oldF oldR : Nat) : Split :=
  splitStages i.params i.applied budget
    (motorLimit i.applied.isoFront i.obs.front.fresh capF (thermalFactor i.params i.obs.front.motorTemp))
    (motorLimit i.applied.isoRear i.obs.rear.fresh capR (thermalFactor i.params i.obs.rear.motorTemp)) oldF oldR

/-- Drive and regeneration run through the same stages (R139), a fresh motor's capability being the one reported. -/
theorem compute_splits {i : EnvelopeInputs} {b : Split} {capF capR oldF oldR : Nat}
    (h : (b = (compute i).drive ∧ capF = i.obs.front.cDrive ∧ capR = i.obs.rear.cDrive ∧ oldF = i.slew.pFront
          ∧ oldR = i.slew.pRear)
        ∨ (b = (compute i).regen ∧ capF = i.obs.front.cRegen ∧ capR = i.obs.rear.cRegen ∧ oldF = i.slew.qFront
          ∧ oldR = i.slew.qRear)) :
    ∃ budget viewF viewR, b = splitOf i budget viewF viewR oldF oldR
      ∧ (i.obs.front.fresh = true → viewF = capF) ∧ (i.obs.rear.fresh = true → viewR = capR) := by
  rcases h with ⟨rfl, rfl, rfl, rfl, rfl⟩ | ⟨rfl, rfl, rfl, rfl, rfl⟩
  all_goals exact ⟨_, _, _, rfl, fun h => by rw [MotorRecord.view_of_fresh h],
    fun h => by rw [MotorRecord.view_of_fresh h]⟩

/-! ## Speed, demands and commands (08 R140 to R144) -/

section
variable {o : Observations} {chip : Chip} {brake stand : Bool} {b v : Nat}

theorem tractionSpeed_alike (h : o.front.fresh = o.rear.fresh) :
    tractionSpeed o = max o.front.speed o.rear.speed := by simp [tractionSpeed, h]

theorem tractionSpeed_front (hF : o.front.fresh = true) (hR : o.rear.fresh = false) :
    tractionSpeed o = o.front.speed := by simp [tractionSpeed, hF, hR]

theorem tractionSpeed_rear (hF : o.front.fresh = false) (hR : o.rear.fresh = true) :
    tractionSpeed o = o.rear.speed := by simp [tractionSpeed, hF, hR]

theorem tractionSpeed_le (ho : o.Ok) : tractionSpeed o ≤ 1200 := by
  have hF := ho.front.speed
  have hR := ho.rear.speed
  unfold tractionSpeed
  split
  · exact hF
  · split
    · exact hR
    · exact Nat.max_le.2 ⟨hF, hR⟩

theorem CockpitRecord.view_brake (r : CockpitRecord) : r.view.brake = if r.fresh then r.brake else 0 := by
  unfold CockpitRecord.view
  split <;> rfl

theorem standInterlock_iff : standInterlock chip stand v = true ↔ chip ≠ .service ∧ stand = true ∧ v < 30 := by
  simp [standInterlock, and_assoc]

theorem driveDemand_cut (h : o.cockpit.fresh = false ∨ 0 < b ∨ brake = true
    ∨ (chip ≠ .service ∧ stand = true ∧ v < 30)) : driveDemand o chip brake stand b v = 0 := by
  rw [← standInterlock_iff] at h
  refine if_pos ?_
  simpa [or_assoc] using h

theorem driveDemand_free (hf : o.cockpit.fresh = true) (hb : b = 0) (hl : brake = false)
    (hs : chip = .service ∨ stand = false ∨ 30 ≤ v) : driveDemand o chip brake stand b v = o.cockpit.demand := by
  have hi : ¬ standInterlock chip stand v = true := by
    rw [standInterlock_iff]
    rintro ⟨hchip, hstand, hv⟩
    rcases hs with h | h | h
    · exact hchip h
    · exact absurd (h.symm.trans hstand) (by decide)
    · omega
  refine if_neg ?_
  simp [hf, hb, hl, hi]

end

section
variable {vCeil v cmd : Nat}

theorem taper_over (h : vCeil ≤ v) : taper vCeil v cmd = 0 := if_pos h

theorem taper_within (h1 : v < vCeil) (h2 : vCeil < v + 20) : taper vCeil v cmd = cmd * (vCeil - v) / 20 :=
  (if_neg (Nat.not_le.2 h1)).trans (if_pos h2)

theorem taper_below (h : v + 20 ≤ vCeil) : taper vCeil v cmd = cmd :=
  (if_neg (by omega)).trans (if_neg (Nat.not_lt.2 h))

end

/-- Drive and regeneration are never commanded together (R145): a brake demand leaves no drive demand. -/
theorem compute_drives_or_regenerates (i : EnvelopeInputs) :
    ((compute i).cmdFront = 0 ∧ (compute i).cmdRear = 0) ∨ ((compute i).regFront = 0 ∧ (compute i).regRear = 0) := by
  rcases Nat.eq_zero_or_pos (compute i).b with hb | hb
  · have reg (ceiling : Nat) : regenCommand (compute i).b ceiling = 0 := hb ▸ regenCommand_zero ceiling
    exact .inr ⟨reg _, reg _⟩
  · have hd : (compute i).d = 0 := driveDemand_braking hb _ _ _ _
    have cmd (ceiling vc v : Nat) : driveCommand (compute i).d ceiling vc v = 0 := hd ▸ driveCommand_zero ceiling vc v
    exact .inl ⟨cmd _ _ _, cmd _ _ _⟩

/-- Settles O37: each clause is the rule of its stage, and the ranges are those of `compute_ok` and of the stages. -/
theorem envelopeStagesFollowTheirRules : Obligations.EnvelopeStagesFollowTheirRules := by
  rintro i _ _ rfl rfl
  refine ⟨?level, rfl, regenBudget_barred, regenBudget_allowed, ?thermal, ?split, tractionSpeed_alike,
    tractionSpeed_front, tractionSpeed_rear, ?brake, driveDemand_cut, driveDemand_free, ?command, rfl, rfl,
    compute_drives_or_regenerates i, ?ranges⟩
  case level =>
    intro pct speed eco tour sport
    obtain ⟨rfl, rfl⟩ := profile_selects eco tour sport
    obtain ⟨full, derate, limp, walk, halt⟩ := level_figures i.params i.obs.cockpit.profile i.applied
    exact ⟨_, full, derate, limp, walk, halt, fun h => if_pos h, fun h => if_neg h⟩
  case thermal =>
    rintro _ _ (⟨rfl, rfl⟩ | ⟨rfl, rfl⟩)
    all_goals exact ⟨thermalFactor_cool, thermalFactor_hot, thermalFactor_between⟩
  case split =>
    intro b capF capR oldF oldR h
    obtain ⟨budget, viewF, viewR, rfl, freshF, freshR⟩ := compute_splits h
    refine ⟨fun hF hR => shares_of_neither hF hR budget, fun h => ⟨shareFront_isolated h budget, ?_⟩,
      fun h => ⟨shareRear_isolated h budget, ?_⟩, fun hF hR => shareRear_alone hF hR budget,
      fun hF hR => shareFront_alone hF hR budget, fun h => ?_, fun h => ?_, fun h hf => ?_, fun h hf => ?_,
      rfl, rfl, rfl, rfl, slew_falls, slew_falls, slew_rises, slew_rises⟩
    all_goals dsimp only [splitOf, splitStages, fitShares]
    · rw [h, motorLimit_isolated]
    · rw [h, motorLimit_isolated]
    · rw [h, motorLimit_stale]
    · rw [h, motorLimit_stale]
    · rw [h, hf, freshF hf, motorLimit_heard]; rfl
    · rw [h, hf, freshR hf, motorLimit_heard]; rfl
  case brake => exact congrArg (max · _) (CockpitRecord.view_brake _)
  case command =>
    rintro _ _ (⟨rfl, rfl⟩ | ⟨rfl, rfl⟩)
    all_goals exact ⟨taper_over, taper_within, taper_below⟩
  case ranges =>
    intro ho hc ha
    have hp : (compute i).p ≤ 100 := levelPercent_le hc _ ha
    have ok := compute_ok hc ho ha
    exact ⟨hp, speedCeiling_le hc _ _ _, driveBudget_le_iDis _ hp, ok.limits.1, regenBudget_le_iChg _ _, ok.limits.2,
      thermalFactor_le _ _, thermalFactor_le _ _, tractionSpeed_le ho, brakeDemand_le hc ho _,
      driveDemand_le ho _ _ _ _ _, ok.drive, ok.regen, ok.commands⟩

end Sys2Proof.Machine
end

section
/-! PROOFS. An ENVELOPE expiry (O38): the lead record of the containment set (07 R127), and the grants that one
computation places (08 R129, R146 to R149). -/

namespace Sys2Proof.Machine

open Sys2Proof

/-! ## The containment set (05 R63) -/

theorem FaultRecord.contained_iff {r : FaultRecord} :
    r.contained = true ↔ r.state = .active ∨ r.state = .clearing ∨ r.state = .latched := by
  unfold FaultRecord.contained
  cases r.state <;> decide

theorem FaultTable.mem_contained_iff {t : FaultTable} {r : FaultRecord} :
    r ∈ t.contained ↔ ∃ i, t.slot i = some r ∧ (r.state = .active ∨ r.state = .clearing ∨ r.state = .latched) := by
  rw [FaultTable.contained, List.mem_filter, FaultTable.mem_records_iff_slot, FaultRecord.contained_iff,
    exists_and_right]

theorem FaultRecord.confirmedAge_of_confirmed {r : FaultRecord} {at_ : Time} (h : r.firstConfirmed = some at_)
    (now : Time) : r.confirmedAge now = (now - at_).toNat := by
  rw [FaultRecord.confirmedAge, h, Option.getD_some]

/-! ## The lead record (07 R127) -/

/-- What the lead record is chosen by: the floor of its kind's row, then how long ago it was first confirmed. -/
def leadKey (c : Copy) (now : Time) (r : FaultRecord) : ℕ ×ₗ ℕ :=
  toLex ((c.rows.get r.kind).floor.rank, r.confirmedAge now)

section
variable {c : Copy} {now : Time} {t : FaultTable} {q r : FaultRecord}

theorem leadKey_lt_iff : leadKey c now q < leadKey c now r ↔
    (c.rows.get q.kind).floor.rank < (c.rows.get r.kind).floor.rank
      ∨ ((c.rows.get q.kind).floor.rank = (c.rows.get r.kind).floor.rank ∧ q.confirmedAge now < r.confirmedAge now) :=
  Prod.Lex.toLex_lt_toLex

theorem leadKey_eq_iff : leadKey c now q = leadKey c now r ↔
    (c.rows.get q.kind).floor.rank = (c.rows.get r.kind).floor.rank ∧ q.confirmedAge now = r.confirmedAge now :=
  toLex.injective.eq_iff.trans Prod.mk_inj

/-- Each comparison keeps the record of the greater key, and of two equal ones the one found first. -/
theorem betterLead_eq_argAux (c : Copy) (now : Time) :
    betterLead c now = List.argAux fun b a => leadKey c now a < leadKey c now b := by
  funext best r
  cases best with
  | none => rfl
  | some b => simp only [betterLead, List.argAux, leadKey_lt_iff]

theorem FaultTable.lead_eq_argmax (t : FaultTable) (c : Copy) (now : Time) :
    t.lead c now = t.contained.argmax (leadKey c now) := by
  rw [FaultTable.lead, betterLead_eq_argAux, List.argmax]

theorem FaultTable.lead_eq_none_iff : t.lead c now = none ↔ t.contained = [] := by
  rw [FaultTable.lead_eq_argmax, List.argmax_eq_none]

end

/-- Slot `i` holds `r`, and no lower slot holds a contained record that `f` puts as high as `r`. -/
def LowestSlot (f : FaultRecord → ℕ ×ₗ ℕ) (slots : List (Option FaultRecord)) (r : FaultRecord) (i : Nat) : Prop :=
  slots[i]? = some (some r) ∧ ∀ (j : Nat) q, slots[j]? = some (some q) → q.contained = true → f r ≤ f q → i ≤ j

section
variable {f : FaultRecord → ℕ ×ₗ ℕ} {rest : List (Option FaultRecord)} {r : FaultRecord}

theorem lowestSlot_head : LowestSlot f (some r :: rest) r 0 := ⟨rfl, fun _ _ _ _ _ => Nat.zero_le _⟩

theorem LowestSlot.cons {i : Nat} (h : LowestSlot f rest r i) {o : Option FaultRecord}
    (head : ∀ q, o = some q → q.contained = true → f q < f r) : LowestSlot f (o :: rest) r (i + 1) := by
  obtain ⟨hi, low⟩ := h
  refine ⟨List.getElem?_cons_succ.trans hi, fun j q hj hq hle => ?_⟩
  cases j with
  | zero => exact absurd (head q (by simpa using hj) hq) (not_lt_of_ge hle)
  | succ j => exact Nat.succ_le_succ (low j q (List.getElem?_cons_succ.symm.trans hj) hq hle)

/-- The first of the contained records with the greatest key stands at the lowest slot of those that tie with it. -/
theorem exists_lowestSlot_of_argmax {slots : List (Option FaultRecord)}
    (h : ((slots.filterMap id).filter FaultRecord.contained).argmax f = some r) : ∃ i, LowestSlot f slots r i := by
  induction slots generalizing r with
  | nil => cases h
  | cons o rest ih =>
    have later {m} (hm : ((rest.filterMap id).filter FaultRecord.contained).argmax f = some m)
        (head : ∀ q, o = some q → q.contained = true → f q < f m) : ∃ i, LowestSlot f (o :: rest) m i :=
      (ih hm).imp' _ fun _ low => low.cons head
    cases o with
    | none =>
      rw [List.filterMap_cons_none rfl] at h
      exact later h fun _ hq => absurd hq (Option.some_ne_none _).symm
    | some x =>
      by_cases hx : x.contained = true
      · rw [List.filterMap_cons_some (f := id) rfl, List.filter_cons_of_pos hx, List.argmax_cons] at h
        cases hm : ((rest.filterMap id).filter FaultRecord.contained).argmax f with
        | none =>
          rw [hm] at h
          obtain rfl := Option.some.inj h
          exact ⟨0, lowestSlot_head⟩
        | some m =>
          simp only [hm] at h
          split at h
          · next hlt =>
            obtain rfl := Option.some.inj h
            exact later hm fun q hq _ => Option.some.inj hq ▸ hlt
          · obtain rfl := Option.some.inj h
            exact ⟨0, lowestSlot_head⟩
      · rw [List.filterMap_cons_some (f := id) rfl, List.filter_cons_of_neg hx] at h
        exact later h fun q hq hc => absurd (Option.some.inj hq ▸ hc) hx

end

section
variable {c : Copy} {now : Time} {t : FaultTable} {r : FaultRecord}

/-- The lead record has the most restrictive floor, of those the earliest first confirmed time, of those the lowest
slot. -/
theorem FaultTable.lead_outranks (h : t.lead c now = some r) : ∃ i, t.slot i = some r ∧ r ∈ t.contained
    ∧ ∀ j q, t.slot j = some q → q ∈ t.contained →
      (c.rows.get q.kind).floor.rank < (c.rows.get r.kind).floor.rank
      ∨ ((c.rows.get q.kind).floor.rank = (c.rows.get r.kind).floor.rank
        ∧ (q.confirmedAge now < r.confirmedAge now ∨ (q.confirmedAge now = r.confirmedAge now ∧ i ≤ j))) := by
  rw [FaultTable.lead_eq_argmax] at h
  obtain ⟨i, hi, low⟩ := exists_lowestSlot_of_argmax h
  refine ⟨i, FaultTable.slot_eq_some_iff.2 hi, List.argmax_mem h, fun j q hj hq => ?_⟩
  rcases (List.le_of_mem_argmax hq h).lt_or_eq with hlt | heq
  · exact (leadKey_lt_iff.1 hlt).imp_right fun ⟨hfloor, hage⟩ => ⟨hfloor, .inl hage⟩
  · obtain ⟨hfloor, hage⟩ := leadKey_eq_iff.1 heq
    exact .inr ⟨hfloor, .inr ⟨hage, low j q (FaultTable.slot_eq_some_iff.1 hj) (List.mem_filter.1 hq).2 heq.ge⟩⟩

end

/-! ## The expiry and its grants (08 R129, R146) -/

theorem LinkPort.placeGrant_down {x : LinkPort} (h : x.link = .down) (g : Grant) : x.placeGrant g = x := if_pos h

theorem LinkPort.placeGrant_heard {x : LinkPort} (h : x.link ≠ .down) (g : Grant) : x.placeGrant g = { x with
    grant := some g
    counters := { x.counters with
      replaced := if x.grant.isSome then bump x.counters.replaced else x.counters.replaced } } := if_neg h

section
variable {s : State}

/-- An ENVELOPE expiry after LOADING is one computation from the inputs as they stood, with its grants and its slew
state (R129). -/
theorem exec_envelopeExpiry (hf : s.expiryInForce .envelope = true) (hc : s.control.chip ≠ .loading) :
    exec .envelopeExpiry s = .next { s.afterExpiry .envelope with
      ports := s.placeGrants (compute s.envelopeInputs), envelope := (compute s.envelopeInputs).envelope } :=
  congrArg Host.Outcome.next ((if_pos hf).trans (if_neg hc))

end

/-- Settles O38: the grants port by port, and the lead record from `FaultTable.lead_outranks`. -/
theorem envelopeExpiryPlacesGrants : Obligations.EnvelopeExpiryPlacesGrants := by
  intro s hf hc
  refine ⟨_, compute s.envelopeInputs, exec_envelopeExpiry hf hc, rfl, rfl, rfl, rfl, rfl, rfl, rfl, rfl, rfl,
    fun p hp => ?down, fun p hp => ⟨s.grantFor (compute s.envelopeInputs) p, ?heard, ?_, ?_, ?_, ?status⟩,
    fun r => ⟨FaultTable.mem_contained_iff, fun _ h => r.confirmedAge_of_confirmed h s.now⟩, rfl⟩
  case down => exact (s.placeGrants_get p _).trans (LinkPort.placeGrant_down hp _)
  case heard => exact (s.placeGrants_get p _).trans (LinkPort.placeGrant_heard hp _)
  case status =>
    rintro rfl
    refine ⟨_, rfl, Option.map_eq_none_iff.trans FaultTable.lead_eq_none_iff, fun u k hlead => ?_⟩
    obtain ⟨r, hr, hpair⟩ := Option.map_eq_some_iff.1 hlead
    obtain ⟨rfl, rfl⟩ := Prod.mk.inj hpair
    obtain ⟨i, hi, hm, outranks⟩ := FaultTable.lead_outranks hr
    exact ⟨i, r, hi, hm, rfl, rfl, outranks⟩
  all_goals rintro rfl; rfl

end Sys2Proof.Machine
end

section
/-! PROOFS. Invariant of the service controller (O60): every step keeps `State.DeferredOk`. -/

namespace Sys2Proof.Machine

open Sys2Proof

/-! ## The busy flag: the store's own progress leaves it alone (09 R161, R162, 10 R178) -/

@[simp] theorem State.updStore_store (s : State) (f : Store → Store) : (s.updStore f).store = f s.store := rfl

@[simp] theorem State.beginPending_busy (s : State) : s.beginPending.store.busy = s.store.busy := by
  unfold State.beginPending
  repeat' split
  all_goals rfl

@[simp] theorem State.endOperation_busy (s : State) : s.endOperation.store.busy = s.store.busy :=
  State.beginPending_busy _

@[simp] theorem State.endReported_busy (s : State) (d : Delivery) (e : StoreEnd) :
    (s.endReported d e).store.busy = s.store.busy := State.endOperation_busy _

@[simp] theorem State.saveFailed_busy (s : State) : s.saveFailed.store.busy = s.store.busy :=
  State.endReported_busy _ _ _

@[simp] theorem State.saveMatched_busy (s : State) : s.saveMatched.store.busy = s.store.busy :=
  State.endReported_busy _ _ _

@[simp] theorem State.loadResults_busy (s : State) (i : ImageOutcome) (l : LatchOutcome) :
    (s.loadResults i l).store.busy = s.store.busy := by simp [State.loadResults]

@[simp] theorem State.storeWaited_busy (s : State) : s.storeWaited.store.busy = s.store.busy := by
  unfold State.storeWaited
  split
  · rfl
  · exact State.endOperation_busy _
  all_goals rfl

@[simp] theorem State.reloadEnd_busy (s : State) (i : ImageOutcome) : (s.reloadEnd i).store.busy = s.store.busy := by
  cases i with
  | valid c => simp [State.reloadEnd]
  | noMemory | crc | invalid => exact State.endReported_busy _ _ _

@[simp] theorem State.completeWrite_busy (s : State) : s.completeWrite.store.busy = s.store.busy := by
  unfold State.completeWrite
  split <;> rfl

@[simp] theorem State.completeWrite_deferred (s : State) : s.completeWrite.deferred = s.deferred := by
  unfold State.completeWrite
  split <;> rfl

@[simp] theorem State.revertIfInvalid_busy (s : State) (f : Option Failure) :
    (s.revertIfInvalid f).store.busy = s.store.busy := by
  cases f with
  | none => rfl
  | some _ => simp [State.revertIfInvalid]

@[simp] theorem State.wakeFell_busy (s : State) : s.wakeFell.store.busy = s.store.busy := by
  unfold State.wakeFell
  split
  · simp
  · simp
  · simp [State.forcedLeave]
  all_goals rfl

section
variable {s t : State}

/-! ## Rules of the invariant: it asks about the deferred reply and the busy flag alone -/

theorem State.DeferredOk.of_eq (h : s.DeferredOk) (hd : t.deferred = s.deferred := by simp)
    (hb : t.store.busy = s.store.busy := by simp) : t.DeferredOk := by
  rw [State.DeferredOk, hd, hb]
  exact h

theorem State.DeferredOk.next (e : Host.Outcome.next (φ := Fault) (ρ := Refusal) s = .next t) (h : s.DeferredOk) :
    t.DeferredOk := by
  cases e; exact h

theorem State.DeferredOk.ite {b : Prop} [Decidable b] (hs : s.DeferredOk) (ht : t.DeferredOk) :
    (if b then s else t).DeferredOk := ite_within (fun _ => hs) ht

/-- Every expiry command takes its expiry and, in force, has one effect. -/
theorem State.DeferredOk.expiry (h : s.DeferredOk) (c : Chan) {b : Prop} [Decidable b] {f : State → State}
    (hf : ∀ u : State, u.DeferredOk → (f u).DeferredOk) :
    (if b then f (s.afterExpiry c) else s.afterExpiry c).DeferredOk := .ite (hf _ h) h

/-! ## The store controller (10): its operations end without a word to the flag -/

theorem State.DeferredOk.loadLatchListReadDone (h : s.DeferredOk) (r : BusRead)
    (e : execLoadLatchListReadDone r s = .next t) : t.DeferredOk := by
  refine .next e ?_
  split
  · exact h.of_eq
  all_goals exact h

theorem State.DeferredOk.savePageWriteDone (h : s.DeferredOk) (a : Bool) (e : execSavePageWriteDone a s = .next t) :
    t.DeferredOk := by
  refine .next e ?_
  split
  · exact .ite h.of_eq h.of_eq
  all_goals exact h

/-! ## The hand-over sets both, the end report clears both (09 R152, R161, R162) -/

theorem State.handSave_deferredOk (s : State) (d : Deferred) :
    (State.handSave { s with deferred := some d }).DeferredOk := by
  simp [State.DeferredOk, State.handSave]

theorem State.handReload_deferredOk (s : State) (d : Deferred) :
    (State.handReload { s with deferred := some d }).DeferredOk := by
  simp [State.DeferredOk, State.handReload]

theorem State.takeStoreEnd_deferredOk (s : State) (e : StoreEnd) : (s.takeStoreEnd e).DeferredOk := by
  unfold State.takeStoreEnd
  split
  · rfl
  · next hd => exact congrArg Option.isSome hd

theorem State.DeferredOk.storeEndReport (h : s.DeferredOk) (e : execStoreEndReport s = .next t) : t.DeferredOk := by
  refine .next e ?_
  split
  · exact State.takeStoreEnd_deferredOk _ _
  · exact h

/-! ## Service commands (09 R153, R154, R157) -/

theorem State.DeferredOk.placed {c : Carried} (h : c.state.DeferredOk) : c.placed.DeferredOk := by
  unfold Carried.placed
  split <;> exact h

theorem State.DeferredOk.finish {c : Carried} (h : c.state.DeferredOk) : c.finish.DeferredOk :=
  State.DeferredOk.placed (c := { c with state := c.state.start .serviceIdle }) h

theorem State.DeferredOk.inService (h : s.DeferredOk) (i : Instr) (seq code : Byte) {f : State → Carried}
    (hf : ∀ u : State, u.DeferredOk → (f u).state.DeferredOk) : (s.inService i seq code f).DeferredOk :=
  .ite (.finish (hf (s.takeCommand i) h)) (.placed h)

/-- The commands the store's progress refuses leave what they find or carry out their effect. -/
theorem State.DeferredOk.unlessBusy (h : s.DeferredOk) (seq code : Byte) {f : State → Carried}
    (hf : (f s).state.DeferredOk) : (s.unlessBusy seq code f).state.DeferredOk :=
  ite_within (P := fun x : Carried => x.state.DeferredOk) (fun _ => h) hf

theorem State.DeferredOk.rowWrite (h : s.DeferredOk) (seq kind : Byte) (b : RowBytes) :
    (s.rowWrite seq kind b).state.DeferredOk := by
  unfold State.rowWrite
  split
  · exact h
  · split
    · exact h
    · split
      · exact h
      · exact h.of_eq

theorem State.DeferredOk.paramWrite (h : s.DeferredOk) (seq number : Byte) (v : Half) :
    (s.paramWrite seq number v).state.DeferredOk := by
  unfold State.paramWrite
  split
  · exact h
  · split <;> exact h

theorem State.DeferredOk.recordClear (h : s.DeferredOk) (seq slot : Byte) :
    (s.recordClear seq slot).state.DeferredOk := by
  unfold State.recordClear
  split
  · split
    · exact h
    · split
      · exact h
      · exact h
      · exact h
      · exact h.of_eq
      · exact h.of_eq
  · exact h

theorem State.DeferredOk.startSweep (h : s.DeferredOk) (seq start unit kind mode count : Byte) :
    (s.startSweep seq start unit kind mode count).state.DeferredOk := by
  unfold State.startSweep
  split
  · exact h
  · split <;> exact h

theorem State.DeferredOk.pushOverride (h : s.DeferredOk) (seq a b l i : Byte) :
    (s.pushOverride seq a b l i).state.DeferredOk := by
  unfold State.pushOverride
  split
  · exact h
  · split
    · exact h
    · exact h.of_eq

theorem State.DeferredOk.popOverride (h : s.DeferredOk) (seq : Byte) : (s.popOverride seq).state.DeferredOk := by
  unfold State.popOverride
  split
  · exact h
  · exact h.of_eq

theorem State.DeferredOk.serviceEnter (h : s.DeferredOk) (seq : Byte) (e : execServiceEnter seq s = .next t) :
    t.DeferredOk := by
  refine .next e ?_
  split
  · exact .ite (.finish h) (.placed h)
  · exact .placed (State.DeferredOk.of_eq (s := s.takeCommand (.serviceEnter seq)) h)

theorem State.DeferredOk.serviceLeave (h : s.DeferredOk) (seq : Byte) : (s.serviceLeave seq).DeferredOk := by
  unfold State.serviceLeave
  dsimp only
  split
  · exact .finish h
  · exact .placed (State.DeferredOk.of_eq (s := s.abandonSweep) h)

/-! ## Every command keeps the invariant -/

theorem exec_keeps_deferredOk (c : Instr) (s t : State) (h : s.DeferredOk) (e : exec c s = .next t) :
    t.DeferredOk := by
  cases c with
  -- the hand-overs and the end report, the commands that move what the invariant speaks of (09 R161, R162)
  | storeSave seq =>
    exact .next e (h.inService _ _ _ fun u hu => hu.unlessBusy _ _ (u.handSave_deferredOk (.save seq)))
  | storeReload seq =>
    exact .next e (h.inService _ _ _ fun u hu => hu.unlessBusy _ _ (u.handReload_deferredOk (.reload seq)))
  | storeEndReport => exact h.storeEndReport e
  | powerOn => exact .next e rfl
  -- the configuration store (10)
  | loadImageReadDone => exact .next e (.ite (.ite h.of_eq h.of_eq) h)
  | loadLatchListReadDone r => exact h.loadLatchListReadDone r e
  | latchRewriteRequest => exact .next e h.of_eq
  | savePageWriteDone a => exact h.savePageWriteDone a e
  | storeWaitExpiry => exact .next e (h.expiry _ fun _ hu => hu.of_eq)
  | saveReadbackDone => exact .next e (.ite (.ite h.of_eq h.of_eq) h)
  | latchPageWriteDone => exact .next e (.ite (.ite h.of_eq h.of_eq) h)
  | reloadReadDone => exact .next e (.ite h.of_eq h)
  -- the other service commands (09)
  | rowWrite => exact .next e (h.inService _ _ _ fun _ hu => hu.unlessBusy _ _ (hu.rowWrite _ _ _))
  | paramWrite => exact .next e (h.inService _ _ _ fun _ hu => hu.unlessBusy _ _ (hu.paramWrite _ _ _))
  | recordClear => exact .next e (h.inService _ _ _ fun _ hu => hu.recordClear _ _)
  | sweepStart => exact .next e (h.inService _ _ _ fun _ hu => hu.startSweep _ _ _ _ _ _)
  | sweepResume | sweepCancel =>
    exact .next e (h.inService _ _ _ fun _ hu =>
      ite_within (P := fun x : Carried => x.state.DeferredOk) (fun _ => hu) hu)
  | overridePush => exact .next e (h.inService _ _ _ fun _ hu => hu.pushOverride _ _ _ _ _)
  | overridePop => exact .next e (h.inService _ _ _ fun _ hu => hu.popOverride _)
  | serviceEnter seq => exact h.serviceEnter seq e
  | serviceLeave seq =>
    exact .next e (.ite (.ite (.finish h) (State.DeferredOk.serviceLeave (s := s.takeCommand _) h seq)) (.placed h))
  | serviceIdleExpiry => exact .next e (h.expiry _ fun _ hu => hu.of_eq (hb := by simp [State.idleLeave]))
  | queryRecords | queryLink | queryRow | queryParam | queryEnvelope | unknownCommand => exact .next e h
  -- what a port hears and sends (01)
  | frameReceived | receiveError | byteReceived => exact .next e (.ite h h.of_eq)
  | lineBreak => exact .next e (.ite h (.ite h.of_eq h.of_eq))
  | breakEnd => exact .next e (.ite h h)
  | transmitterTakeFrame p =>
    refine .next e ?_
    split
    · exact h
    · cases p <;> exact h.of_eq
  -- the other expiries and what the blocks owe each other (02, 03, 05 to 08)
  | freshnessExpiry p => exact .next e (h.expiry p.channel (f := fun u => u.silence p) fun _ hu => hu.of_eq)
  | recordTickExpiry =>
    exact .next e (h.expiry .recordTick (f := fun u => u.tableEvent (s.table.tick s.working)) fun _ hu => hu)
  | envelopeExpiry | checkExpiry | gatherExpiry | haltRampExpiry =>
    exact .next e (h.expiry _ fun _ hu => hu.of_eq)
  | wakeRising => exact .next e (.ite h.of_eq h.of_eq)
  | gatherBatchTaken | endOfLoading => exact .next e (.ite h.of_eq h)
  | sweepExamination => exact .next e (.ite h h)
  | switchChangeAccepted => exact .next e (.ite h (.ite h h))
  | timeBaseStep => exact .next e h
  | arrivalNotice | linkStateNotice | wakeFalling | isolationNotice | containmentAnnouncement =>
    exact .next e h.of_eq

end

/-- Settles O60: the queue plays no part in the invariant, and every command keeps it. -/
theorem everyStepKeepsDeferredReplyMatched : Obligations.EveryStepKeepsDeferredReplyMatched :=
  step_keeps (fun _ _ h => h) exec_keeps_deferredOk

end Sys2Proof.Machine
end

section
/-! PROOFS. The service session: every service command needs SERVICE (O40) but SERVICE_ENTER, which enters it (O41). -/

namespace Sys2Proof.Machine

open Sys2Proof

/-! ## A service command in SERVICE and outside (09 R153, R154, R157) -/

section
variable {s : State}

/-- In SERVICE a service command is carried out, and ends with the restart of SERVICE_IDLE. -/
theorem State.inService_serving (h : s.control.chip = .service) (i : Instr) (seq code : Byte) (f : State → Carried) :
    s.inService i seq code f = (f (s.takeCommand i)).finish := if_pos h

/-- The commands that R165 lists are refused BUSY in SERVICE while a save or a reload runs (R154). -/
theorem State.inService_busy (h : s.control.chip = .service) (hb : s.store.busy = true) (i : Instr) (seq code : Byte)
    (f : State → Carried) : s.inService i seq code (fun x => x.unlessBusy seq code f)
      = ((s.takeCommand i).start .serviceIdle).placeReply (plainReply seq code .busy) := by
  rw [State.inService_serving h]
  exact congrArg Carried.finish (if_pos hb)

theorem State.inService_free (h : s.control.chip = .service) (hb : s.store.busy = false) (i : Instr) (seq code : Byte)
    (f : State → Carried) :
    s.inService i seq code (fun x => x.unlessBusy seq code f) = (f (s.takeCommand i)).finish := by
  rw [State.inService_serving h]
  exact congrArg Carried.finish (if_neg (show ¬ s.store.busy = true by simp [hb]))

/-- The reply to an INVALID command names what failed (11 R195). -/
theorem invalidReply_byte (seq code : Byte) (c : CheckClass) (a : Byte) :
    invalidReply seq code ⟨c, a.toNat⟩ = ⟨[[seq, code, 13#8, 1#8, byteOf c.code, a]]⟩ := by
  unfold invalidReply
  rw [byteOf_toNat]
  rfl

/-- Outside STANDBY a recomputation makes no DRIVE test (07 R106, R112). -/
theorem State.recompute_eq (h : s.control.chip ≠ .standby) : s.recompute = s.recomputeCore :=
  State.testDrive_stays (.inl (by rwa [State.recomputeCore_chip]))

theorem State.recompute_recomputes (h : s.control.chip ≠ .standby) : s.Recomputes s.recompute := by
  rw [State.recompute_eq h]
  exact State.recomputeCore_spec _

end

/-- Settles O40: all eleven commands make the test of R154 first. -/
theorem serviceCommandsNeedService : Obligations.ServiceCommandsNeedService := by
  intro s c seq code hc h
  rcases h with ⟨k, b, rfl, rfl⟩ | ⟨n, v, rfl, rfl⟩ | ⟨rfl, rfl⟩ | ⟨rfl, rfl⟩ | ⟨n, rfl, rfl⟩
    | ⟨a, u, k, m, n, rfl, rfl⟩ | ⟨rfl, rfl⟩ | ⟨rfl, rfl⟩ | ⟨f, r, l, i, rfl, rfl⟩ | ⟨rfl, rfl⟩ | ⟨rfl, rfl⟩
  all_goals exact congrArg Host.Outcome.next (if_neg hc)

/-! ## The checks of SERVICE_ENTER, the first to fail (09 R156) -/

section
variable {s : State}

theorem State.enterCheck_chip (hd : s.control.chip ≠ .drive) (hs : s.control.chip ≠ .standby) :
    s.enterCheck = some .refusedState := if_pos ⟨hd, hs⟩

/-- A reader finds the demand of a stale cockpit record 0 (02 R27). -/
theorem CockpitRecord.view_demand_eq_zero (r : CockpitRecord) :
    r.view.demand = 0 ↔ r.fresh = false ∨ r.demand = 0 := by
  unfold CockpitRecord.view
  cases r.fresh <;> simp

/-- What counts as moving: a wheel at 10 or more in a fresh record. -/
abbrev State.wheelMoves (s : State) : Prop :=
  (s.obs.front.fresh = true ∧ 10 ≤ s.obs.front.speed) ∨ (s.obs.rear.fresh = true ∧ 10 ≤ s.obs.rear.speed)

theorem State.not_wheelMoves (hf : s.obs.front.fresh = false ∨ s.obs.front.speed < 10)
    (hr : s.obs.rear.fresh = false ∨ s.obs.rear.speed < 10) : ¬ s.wheelMoves := by
  rintro (⟨hfresh, hspeed⟩ | ⟨hfresh, hspeed⟩)
  · exact hf.elim (by simp [hfresh]) hspeed.not_gt
  · exact hr.elim (by simp [hfresh]) hspeed.not_gt

section
variable (hc : s.control.chip = .drive ∨ s.control.chip = .standby)
include hc

theorem State.enterCheck_notParked (hp : s.switches.stand.asserted = false) : s.enterCheck = some .notParked :=
  (if_neg (not_and_or.2 (hc.imp not_not.2 not_not.2))).trans (if_pos hp)

theorem State.enterCheck_parked (hp : s.switches.stand.asserted = true) : s.enterCheck =
    if s.wheelMoves then some .moving else if s.obs.cockpit.view.demand ≠ 0 then some .demandHeld else none :=
  (if_neg (not_and_or.2 (hc.imp not_not.2 not_not.2))).trans (if_neg (by simp [hp]))

end

/-! ## The command and the entry to SERVICE (09 R156, 07 R107, R111) -/

/-- The checks read nothing of what is owed. -/
theorem State.enterCheck_takeCommand (s : State) (i : Instr) : (s.takeCommand i).enterCheck = s.enterCheck := rfl

section
variable (seq : Byte)

theorem exec_serviceEnter_refused {r : Result} (hk : s.enterCheck = some r) (hc : s.control.chip ≠ .service) :
    exec (.serviceEnter seq) s
      = .next ((s.takeCommand (.serviceEnter seq)).placeReply (plainReply seq 0x10#8 r)) := by
  simp only [exec, execServiceEnter, State.enterCheck_takeCommand, hk]
  exact congrArg Host.Outcome.next (if_neg hc)

theorem exec_serviceEnter_serving (hc : s.control.chip = .service) : exec (.serviceEnter seq) s
    = .next (((s.takeCommand (.serviceEnter seq)).start .serviceIdle).placeReply
        (plainReply seq 0x10#8 .refusedState)) := by
  have hk : s.enterCheck = some .refusedState := State.enterCheck_chip (by simp [hc]) (by simp [hc])
  simp only [exec, execServiceEnter, State.enterCheck_takeCommand, hk]
  exact congrArg Host.Outcome.next (if_pos hc)

theorem exec_serviceEnter_enters (hk : s.enterCheck = none) : exec (.serviceEnter seq) s
    = .next ((s.takeCommand (.serviceEnter seq)).enterService.placeReply (plainReply seq 0x10#8 .ok)) := by
  simp only [exec, execServiceEnter, State.enterCheck_takeCommand, hk]
  rfl

end

/-- The state in which the entry to SERVICE recomputes the target: GATHER is stopped on leaving STANDBY (07 R107). -/
theorem State.stopGather_setChip (s : State) : s.stopGatherIfStandby.setChip .service
    = if s.control.chip = .standby then (s.setChip .service).stop .gather else s.setChip .service := by
  unfold State.stopGatherIfStandby
  split <;> rfl

theorem State.enterService_eq (s : State) :
    s.enterService = (s.stopGatherIfStandby.setChip .service).recomputeCore.start .serviceIdle := by
  unfold State.enterService
  rw [State.recompute_eq (by simp [State.setChip])]

end

/-- Settles O41: the check that fails first gives the refusal, and with none the entry is one recomputation. -/
theorem serviceEnterChecksAndEnters : Obligations.ServiceEnterChecksAndEnters := by
  rintro seq s s1 rfl
  refine ⟨fun hc => ?_, exec_serviceEnter_serving seq, fun hc => ⟨fun hp => ?_, fun hp => ?_⟩⟩
  · have hk : s.enterCheck = some .refusedState := by
      rcases hc with hc | hc <;> exact State.enterCheck_chip (by simp [hc]) (by simp [hc])
    exact exec_serviceEnter_refused seq hk (by rcases hc with hc | hc <;> simp [hc])
  all_goals have outside : s.control.chip ≠ .service := by rcases hc with hc | hc <;> simp [hc]
  · exact exec_serviceEnter_refused seq (State.enterCheck_notParked hc hp) outside
  have hk := State.enterCheck_parked hc hp
  refine ⟨fun hm => exec_serviceEnter_refused seq (hk.trans (if_pos hm)) outside, fun hf hr => ?_⟩
  rw [if_neg (State.not_wheelMoves hf hr)] at hk
  refine ⟨fun hfresh hd => ?_, fun hd => ?_⟩
  · have held : s.obs.cockpit.view.demand ≠ 0 := by
      rw [Ne, CockpitRecord.view_demand_eq_zero]
      simp [hfresh, hd.ne']
    exact exec_serviceEnter_refused seq (hk.trans (if_pos held)) outside
  · rw [if_neg (not_not.2 ((CockpitRecord.view_demand_eq_zero _).2 hd))] at hk
    refine ⟨((s.takeCommand (.serviceEnter seq)).stopGatherIfStandby.setChip .service).recomputeCore, ?_, ?_, ?_⟩
    · rw [exec_serviceEnter_enters seq hk, State.enterService_eq]
      rfl
    · exact State.stopGather_setChip (s.takeCommand (.serviceEnter seq)) ▸ State.recomputeCore_spec _
    · exact State.recomputeCore_chip _

end Sys2Proof.Machine
end

section
/-! PROOFS. ROW_WRITE and PARAM_WRITE (O42): the checks in order, and what a write that passes changes. -/

namespace Sys2Proof.Machine

open Sys2Proof

/-! ## A row written (09 R159, 04 R53, R54) -/

@[simp] theorem Rows.get_set (r : Rows) (k : Kind) (x : Row) : (r.set k x).get k = x := by simp [Rows.set_eq]

/-- A row written frees the PENDING and DORMANT records of its own kind, if it disables it. -/
theorem FaultTable.rowChange_set_slot {t : FaultTable} {i : Nat} {q : FaultRecord} (hi : t.slot i = some q)
    (old : Rows) (k : Kind) (r : Row) : (t.rowChange old (old.set k r)).table.slot i
      = if q.kind = k ∧ (q.state = .pending ∨ q.state = .dormant)
          ∧ (old.get k).enabled = true ∧ r.enabled = false then none else some q := by
  rw [(FaultTable.rowChange_freesDisabled t old _).records i q hi]
  refine if_congr ?_ rfl rfl
  by_cases hk : q.kind = k
  · subst hk
    simp
  · rw [Rows.get_set_ne old r hk]
    simp +contextual [hk]

section
variable {s : State} {seq kind : Byte} {b : RowBytes} {k : Kind}

theorem State.rowWrite_unknown (hk : 28 ≤ kind.toNat) :
    s.rowWrite seq kind b = s.refused seq 0x11#8 .badArgument := by
  unfold State.rowWrite
  rw [Kind.ofCode_none hk]

section
variable (hk : kind.toNat = k.code)
include hk

theorem State.rowWrite_locked (hl : k.isLocked = true) :
    s.rowWrite seq kind b = s.refused seq 0x11#8 .lockedRow := by
  unfold State.rowWrite
  rw [hk, Kind.ofCode_code]
  exact if_pos hl

theorem State.rowWrite_outOfRange (hl : k.isLocked = false) (hb : Row.decode b = none) :
    s.rowWrite seq kind b = ⟨s, some (invalidReply seq 0x11#8 ⟨.rowRange, kind.toNat⟩)⟩ := by
  unfold State.rowWrite
  rw [hk, Kind.ofCode_code, hb]
  exact if_neg (by simp [hl])

theorem State.rowWrite_done {r : Row} (hl : k.isLocked = false) (hb : Row.decode b = some r) :
    s.rowWrite seq kind b = (s.writeRow k r).done seq 0x11#8 := by
  unfold State.rowWrite
  rw [hk, Kind.ofCode_code, hb]
  exact if_neg (by simp [hl])

end

theorem exec_rowWrite (hc : s.control.chip = .service) (hb : s.store.busy = false) : exec (.rowWrite seq kind b) s
    = .next ((s.takeCommand (.rowWrite seq kind b)).rowWrite seq kind b).finish :=
  congrArg Host.Outcome.next (State.inService_free hc hb ..)

end

/-! ## A parameter written (09 R160) -/

section
variable {s : State} {seq number : Byte} {value : Half} {p : Param}

theorem State.paramWrite_unknown (hn : 29 ≤ number.toNat) :
    s.paramWrite seq number value = s.refused seq 0x12#8 .badArgument := by
  unfold State.paramWrite
  rw [Param.ofNumber_none hn]

theorem State.paramWrite_outOfRange (hn : number.toNat = p.number) (hv : p.inRange value.toNat = false) :
    s.paramWrite seq number value = ⟨s, some (invalidReply seq 0x12#8 ⟨.paramRange, number.toNat⟩)⟩ := by
  unfold State.paramWrite
  rw [hn, Param.ofNumber_number]
  exact if_neg (by simp [hv])

theorem State.paramWrite_done (hn : number.toNat = p.number) (hv : p.inRange value.toNat = true) :
    s.paramWrite seq number value = (s.writeParam p value.toNat).done seq 0x12#8 := by
  unfold State.paramWrite
  rw [hn, Param.ofNumber_number]
  exact if_pos hv

theorem exec_paramWrite (hc : s.control.chip = .service) (hb : s.store.busy = false) :
    exec (.paramWrite seq number value) s
      = .next ((s.takeCommand (.paramWrite seq number value)).paramWrite seq number value).finish :=
  congrArg Host.Outcome.next (State.inService_free hc hb ..)

end

/-- Settles O42: each check that fails is a refusal; a row that passes is one recomputation and one row change. -/
theorem rowAndParamWritesChangeWorkingCopy : Obligations.RowAndParamWritesChangeWorkingCopy := by
  constructor
  · rintro seq kind b s s1 rfl hc
    refine ⟨fun hb => congrArg Host.Outcome.next (State.inService_busy hc hb ..), fun hb => ?_⟩
    rw [exec_rowWrite hc hb]
    refine ⟨fun hk => ?_, fun k hk => ⟨fun hl => ?_, fun hl hd => ?_, fun hl r hd => ?_⟩⟩
    · rw [State.rowWrite_unknown hk]
      rfl
    · rw [State.rowWrite_locked hk hl]
      rfl
    · rw [State.rowWrite_outOfRange hk hl hd, invalidReply_byte]
      rfl
    · set s1 : State := { s.takeCommand (.rowWrite seq kind b) with unsaved := true } with hs1
      set c : Copy := { s.working with rows := s.working.rows.set k r }
      refine ⟨State.recomputeCore { s1 with working := c }, s1.changeCopy c, ?_, State.recomputeCore_spec _,
        Rows.get_set _ _ _, fun j hj => Rows.get_set_ne _ _ hj, ?_⟩
      · rw [State.rowWrite_done hk hl hd]
        rfl
      rw [State.changeCopy_eq (s := s1) (by simp [hs1, hc])]
      exact ⟨rfl, ⟨_, rfl, FaultTable.updateEvent_notifies _ _⟩, FaultTable.update_tableFull_iff,
        (FaultTable.rowChange_freesDisabled s.table _ _).places, fun i q hi => FaultTable.rowChange_set_slot hi _ k r⟩
  · rintro seq number value s s1 rfl hc
    refine ⟨fun hb => congrArg Host.Outcome.next (State.inService_busy hc hb ..), fun hb => ?_⟩
    rw [exec_paramWrite hc hb]
    refine ⟨fun hn => ?_, fun p hn => ⟨fun hv => ?_, fun hlow hhigh => ?_, Params.get_set _ _ _,
      fun q hq => Params.get_set_ne _ _ hq⟩⟩
    · rw [State.paramWrite_unknown hn]
      rfl
    · have out : p.inRange value.toNat = false := by
        simp only [Param.inRange, Bool.and_eq_false_iff, decide_eq_false_iff_not, Nat.not_le]
        exact hv
      rw [State.paramWrite_outOfRange hn out, invalidReply_byte]
      rfl
    · rw [State.paramWrite_done hn (by simp [Param.inRange, hlow, hhigh])]
      rfl

end Sys2Proof.Machine
end

section
/-! PROOFS. STORE_SAVE and STORE_RELOAD (O43): what a hand-over begins, and the end report that answers it. -/

namespace Sys2Proof.Machine

open Sys2Proof

/-! ## Arbitration (10 R178) -/

section
variable {s : State}

theorem State.beginPending_running (h : s.store.op ≠ .none) : s.beginPending = s := if_neg h

section
variable (h : s.store.op = .none)
include h

theorem State.beginPending_latch (hl : s.store.latchPending = true) : s.beginPending = s.beginLatch :=
  (if_pos h).trans (if_pos hl)

section
variable (hl : s.store.latchPending = false)
include hl

theorem State.beginPending_save (hs : s.store.savePending = true) :
    s.beginPending = (s.updStore fun x => { x with savePending := false }).setOp (.savePage 0) :=
  (if_pos h).trans ((if_neg (by simp [hl])).trans (if_pos hs))

theorem State.beginPending_reload (hs : s.store.savePending = false) (hr : s.store.reloadPending = true) :
    s.beginPending = (s.updStore fun x => { x with reloadPending := false }).setOp .reloadRead :=
  (if_pos h).trans ((if_neg (by simp [hl])).trans ((if_neg (by simp [hs])).trans (if_pos hr)))

end
end
end

/-- What an operation begins with is the image buffer as it stands. -/
@[simp] theorem State.beginPending_imageBuffer (s : State) :
    s.beginPending.store.imageBuffer = s.store.imageBuffer := by
  unfold State.beginPending
  repeat' split
  all_goals rfl

@[simp] theorem State.beginPending_replaced (s : State) : s.beginPending.store.replaced = s.store.replaced := by
  unfold State.beginPending
  repeat' split
  all_goals rfl

/-! ## The hand-overs (09 R161, R163, R164) -/

section
variable {s : State}

theorem State.handSave_store (s : State) : s.handSave.store.imageBuffer = encodeImage s.working
    ∧ s.handSave.store.replaced = false ∧ s.handSave.store.busy = true := by
  simp [State.handSave]

theorem State.handReload_store (s : State) :
    s.handReload.store.imageBuffer = s.store.imageBuffer ∧ s.handReload.store.busy = true := by
  simp [State.handReload]

/-- A free store with nothing pending begins what it is handed. -/
theorem State.handSave_begins (h : s.store.op = .none) (hl : s.store.latchPending = false) :
    s.handSave.store.op = .savePage 0 ∧ s.handSave.store.savePending = false := by
  have begun : s.handSave = State.setOp _ (.savePage 0) := State.beginPending_save (s := s.updStore _) h hl rfl
  rw [begun]
  exact ⟨rfl, rfl⟩

theorem State.handReload_begins (h : s.store.op = .none) (hl : s.store.latchPending = false)
    (hs : s.store.savePending = false) :
    s.handReload.store.op = .reloadRead ∧ s.handReload.store.reloadPending = false := by
  have begun : s.handReload = State.setOp _ .reloadRead := State.beginPending_reload (s := s.updStore _) h hl hs rfl
  rw [begun]
  exact ⟨rfl, rfl⟩

/-- What is handed to a store at work waits. -/
theorem State.handSave_waits (h : s.store.op ≠ .none) :
    s.handSave.store.op = s.store.op ∧ s.handSave.store.savePending = true := by
  have kept : s.handSave = s.updStore _ := State.beginPending_running (s := s.updStore _) h
  rw [kept]
  exact ⟨rfl, rfl⟩

theorem State.handReload_waits (h : s.store.op ≠ .none) :
    s.handReload.store.op = s.store.op ∧ s.handReload.store.reloadPending = true := by
  have kept : s.handReload = s.updStore _ := State.beginPending_running (s := s.updStore _) h
  rw [kept]
  exact ⟨rfl, rfl⟩

/-- A rewrite of the latch list that is pending goes first. -/
theorem State.handSave_yields (h : s.store.op = .none) (hl : s.store.latchPending = true) :
    s.handSave.store.op = .latchPage ∧ s.handSave.store.savePending = true := by
  have begun : s.handSave = State.beginLatch _ := State.beginPending_latch (s := s.updStore _) h hl
  rw [begun]
  exact ⟨rfl, rfl⟩

theorem State.handReload_yields (h : s.store.op = .none) (hl : s.store.latchPending = true) :
    s.handReload.store.op = .latchPage ∧ s.handReload.store.reloadPending = true := by
  have begun : s.handReload = State.beginLatch _ := State.beginPending_latch (s := s.updStore _) h hl
  rw [begun]
  exact ⟨rfl, rfl⟩

/-- The state that a STORE_SAVE hands over, with its deferred reply (R163). -/
def State.saving (s : State) (seq : Byte) : State :=
  { s.takeCommand (.storeSave seq) with deferred := some (.save seq) }

/-- The state that a STORE_RELOAD hands over, with its deferred reply (R164). -/
def State.reloading (s : State) (seq : Byte) : State :=
  { s.takeCommand (.storeReload seq) with deferred := some (.reload seq) }

section
variable (seq : Byte) (hc : s.control.chip = .service)
include hc

theorem exec_storeSave (hb : s.store.busy = false) : exec (.storeSave seq) s
    = .next ((s.saving seq).handSave.start .serviceIdle) :=
  congrArg Host.Outcome.next (State.inService_free hc hb ..)

theorem exec_storeReload (hb : s.store.busy = false) : exec (.storeReload seq) s
    = .next ((s.reloading seq).handReload.start .serviceIdle) :=
  congrArg Host.Outcome.next (State.inService_free hc hb ..)

end
end

/-! ## The end report (09 R162) -/

/-- The first end report owed is the one taken. -/
theorem firstStoreEnd_of_first {before : List Owed} (h : ∀ x ∈ before, Owed.isStoreEnd x = false) (e : StoreEnd)
    (after : List Owed) : firstStoreEnd (before ++ .storeEnd e :: after) = some e := by
  induction before with
  | nil => rfl
  | cons x before ih =>
    obtain ⟨hx, hrest⟩ := List.forall_mem_cons.1 h
    cases x with
    | storeEnd _ => cases hx
    | _ => exact ih hrest

theorem exec_storeEndReport {s : State} {before after : List Owed} {e : StoreEnd}
    (ho : s.owed = before ++ .storeEnd e :: after) (h : ∀ x ∈ before, Owed.isStoreEnd x = false) :
    exec .storeEndReport s = .next (State.takeStoreEnd { s with owed := before ++ after } e) := by
  have taken : s.took Owed.isStoreEnd = { s with owed := before ++ after } := by
    rw [State.took, ho, List.eraseP_append_right _ (by simpa using h), List.eraseP_cons_of_pos rfl]
  simp only [exec, execStoreEndReport, ho, firstStoreEnd_of_first h, taken]

theorem State.takeStoreEnd_deferred {s : State} {d : Deferred} (h : s.deferred = some d) (e : StoreEnd) :
    s.takeStoreEnd e = { State.placeReply { s with store := { s.store with busy := false } } (d.reply e) with
      deferred := none } := by
  unfold State.takeStoreEnd
  rw [h]
  rfl

/-- Settles O43: a hand-over is `State.handSave` or `State.handReload` with its deferred reply, and the end report
places `Deferred.reply`. -/
theorem saveAndReloadAnswerAtTheirEnd : Obligations.SaveAndReloadAnswerAtTheirEnd := by
  constructor
  · intro seq s hc
    refine ⟨fun hb => ⟨congrArg Host.Outcome.next (State.inService_busy hc hb ..),
      congrArg Host.Outcome.next (State.inService_busy hc hb ..)⟩, fun hb => ?_⟩
    obtain ⟨himage, hreplaced, hsave⟩ := (s.saving seq).handSave_store
    obtain ⟨hbuffer, hreload⟩ := (s.reloading seq).handReload_store
    refine ⟨_, _, exec_storeSave seq hc hb, exec_storeReload seq hc hb, State.handSave_deferred _,
      State.handReload_deferred _, himage, hreplaced, hsave, hbuffer, hreload, fun ho hl hs => ?_, fun ho => ?_,
      fun ho hl => ?_, fun v hv => ?_⟩
    · obtain ⟨hop, hpending⟩ := State.handSave_begins (s := s.saving seq) ho hl
      exact ⟨hop, hpending, State.handReload_begins (s := s.reloading seq) ho hl hs⟩
    · obtain ⟨hop, hpending⟩ := State.handSave_waits (s := s.saving seq) ho
      exact ⟨hop, hpending, State.handReload_waits (s := s.reloading seq) ho⟩
    · obtain ⟨hop, hpending⟩ := State.handSave_yields (s := s.saving seq) ho hl
      exact ⟨hop, hpending, State.handReload_yields (s := s.reloading seq) ho hl⟩
    · rcases hv with rfl | rfl
      · refine ⟨?_, ?_⟩
        · simp [State.start_timers, State.saving, Chan.reloadValue]
        · apply State.ext_fields <;> simp [State.saving]
      · refine ⟨?_, ?_⟩
        · simp [State.start_timers, State.reloading, Chan.reloadValue]
        · apply State.ext_fields <;> simp [State.reloading]
  · intro s before after e d seq code ho hfirst hd hcode
    refine ⟨d.reply e, ?_, ?_⟩
    · rw [exec_storeEndReport ho hfirst, State.takeStoreEnd_deferred (s := { s with owed := before ++ after }) hd]
    · rcases hcode with ⟨rfl, rfl⟩ | ⟨rfl, rfl⟩
      all_goals exact ⟨fun he => by rw [he]; rfl, fun he => by rw [he]; rfl, fun f he => by rw [he]; rfl⟩

end Sys2Proof.Machine
end

section
/-! PROOFS. RECORD_CLEAR (O44): a released record is freed, and the controller takes the change before the reply. -/

namespace Sys2Proof.Machine

open Sys2Proof

/-! ## A released record freed (05 R75, R78) -/

section
variable {t : FaultTable} {i : Nat} {r : FaultRecord}

/-- The freeing of a record clears TABLE_FULL. -/
theorem FaultTable.free_table (h : t.slot i = some r) :
    (t.free i).table = { t with slots := (t.free i).table.slots, tableFull := false } := by
  simp [FaultTable.free, h]

theorem FaultTable.free_request (h : t.slot i = some r) : (t.free i).request = (r.policy == .workshop) := by
  simp [FaultTable.free, FaultTable.evictsWorkshop, h]

theorem FaultTable.free_announce : (t.free i).announce = true ↔ t.ContainmentChange (t.free i).table :=
  announces_iff (List.length_set ..)

/-- A record freed from LATCHED leaves the containment set, and TABLE_FULL may go with any record. -/
theorem FaultTable.free_announces (h : t.slot i = some r) (hr : r.state = .latched ∨ t.tableFull = true) :
    (t.free i).announce = true := by
  refine FaultTable.free_announce.2 ?_
  rcases hr with hr | hr
  · refine .inr (.inr ⟨i, fun latched => ?_⟩)
    obtain ⟨q, hq, -⟩ := latched.1 ⟨r, h, hr⟩
    rw [FaultTable.slot_free, if_pos rfl] at hq
    cases hq
  · exact .inl (by rw [FaultTable.free_table h, hr]; exact nofun)

theorem FaultTable.free_silent (h : t.slot i = some r) (hr : r.state = .dormant) (hf : t.tableFull = false) :
    (t.free i).announce = false := by
  rw [← Bool.not_eq_true, FaultTable.free_announce, FaultTable.containmentChange_iff]
  rintro (hfull | ⟨j, hj⟩)
  · exact hfull (by rw [FaultTable.free_table h, hf])
  · rw [FaultTable.slot_free] at hj
    split at hj
    · next hji => exact hj (by rw [hji, h]; simp [slotView, FaultRecord.contained, hr])
    · exact hj rfl

end

/-! ## The command (09 R153, R166) -/

section
variable {s : State} {seq slot : Byte} {r : FaultRecord} {i : Nat}

/-- The state of a record freed, its rewrite request owed, before the controller takes the change. -/
def State.freed (s : State) (i : Nat) : State := { s with
  table := (s.table.free i).table
  owed := s.owed ++ (if (s.table.free i).request then [.latchRequest] else []) }

/-- The controller takes what would be announced (log 7). -/
theorem State.freeSlot_eq (s : State) (i : Nat) :
    s.freeSlot i = if (s.table.free i).announce then (s.freed i).recompute else s.freed i := rfl

theorem exec_recordClear (hc : s.control.chip = .service) : exec (.recordClear seq slot) s
    = .next ((s.takeCommand (.recordClear seq slot)).recordClear seq slot).finish :=
  congrArg Host.Outcome.next (State.inService_serving hc ..)

theorem State.recordClear_noSlot (h : 40 ≤ slot.toNat) :
    s.recordClear seq slot = s.refused seq 0x15#8 .badArgument := if_neg (Nat.not_lt.2 h)

section
variable (h : slot.toNat < 40)
include h

theorem State.recordClear_empty (hr : s.table.slot slot.toNat = none) :
    s.recordClear seq slot = s.refused seq 0x15#8 .noRecord := by
  refine (if_pos h).trans ?_
  rw [hr]

theorem State.recordClear_live (hr : s.table.slot slot.toNat = some r)
    (hs : r.state = .pending ∨ r.state = .active ∨ r.state = .clearing) :
    s.recordClear seq slot = s.refused seq 0x15#8 .stillLive := by
  refine (if_pos h).trans ?_
  rw [hr]
  rcases hs with hs | hs | hs <;> simp only [hs]

theorem State.recordClear_frees (hr : s.table.slot slot.toNat = some r)
    (hs : r.state = .latched ∨ r.state = .dormant) :
    s.recordClear seq slot = (s.freeSlot slot.toNat).done seq 0x15#8 := by
  refine (if_pos h).trans ?_
  rw [hr]
  rcases hs with hs | hs <;> simp only [hs]

end
end

/-- Settles O44: a released record is `State.freed`, and `FaultTable.free` says when the target is recomputed. -/
theorem recordClearFreesReleasedRecord : Obligations.RecordClearFreesReleasedRecord := by
  rintro seq slot s s1 rfl hc
  rw [exec_recordClear hc]
  set s1 := s.takeCommand (.recordClear seq slot)
  refine ⟨fun h => ?_, fun h => ⟨fun hr => ?_, fun r (hr : s1.table.slot slot.toNat = some r) =>
    ⟨fun hs => ?_, fun hs => ?_⟩⟩⟩
  · rw [State.recordClear_noSlot h]
    rfl
  · rw [State.recordClear_empty (s := s1) h hr]
    rfl
  · rw [State.recordClear_live h hr hs]
    rfl
  refine ⟨s1.freed slot.toNat, s1.freeSlot slot.toNat, ?_, rfl, ?_, ?_, fun i hi => ?_, FaultTable.free_table hr,
    fun change => ?_, fun hd hf => ?_⟩
  · rw [State.recordClear_frees h hr hs]
    rfl
  · simp [State.freed, FaultTable.free_request hr]
  · exact (FaultTable.slot_free _ _).trans (if_pos rfl)
  · exact (FaultTable.slot_free _ _).trans (if_neg hi)
  · rw [State.freeSlot_eq, if_pos (FaultTable.free_announces hr change)]
    exact State.recompute_recomputes (s := s1.freed slot.toNat) (ne_of_eq_of_ne hc nofun)
  · rw [State.freeSlot_eq, FaultTable.free_silent hr hd hf]
    rfl

end Sys2Proof.Machine
end

section
/-! PROOFS. The sweep commands (O45): the arguments that name a value, and the sweep state each command asks for. -/

namespace Sys2Proof.Machine

open Sys2Proof

/-! ## The arguments of SWEEP_START (09 R167, 11 R192) -/

theorem FaultUnit.le_of_ofCode {n : Nat} {u : FaultUnit} (h : FaultUnit.ofCode n = some u) : n ≤ 4 := by
  unfold FaultUnit.ofCode at h
  split at h
  case h_6 => cases h
  all_goals omega

theorem SweepMode.le_of_ofCode {n : Nat} {m : SweepMode} (h : SweepMode.ofCode n = some m) : n ≤ 1 := by
  unfold SweepMode.ofCode at h
  split at h
  case h_3 => cases h
  all_goals omega

section
variable {b : Byte}

theorem unitFilterArg_any (h : b.toNat = 255) : unitFilterArg b = some none := if_pos (BitVec.eq_of_toNat_eq h)

theorem unitFilterArg_unit {u : FaultUnit} (h : b.toNat = u.code) : unitFilterArg b = some (some u) := by
  have hne : b ≠ 255#8 := by
    rintro rfl
    cases u <;> cases h
  rw [unitFilterArg, if_neg hne, h, FaultUnit.ofCode_code]
  rfl

theorem unitFilterArg_range {x : Option FaultUnit} (h : unitFilterArg b = some x) : b.toNat ≤ 4 ∨ b.toNat = 255 := by
  unfold unitFilterArg at h
  split at h
  · next hb => exact .inr (by rw [hb]; rfl)
  · obtain ⟨u, hu, -⟩ := Option.map_eq_some_iff.1 h
    exact .inl (FaultUnit.le_of_ofCode hu)

theorem kindFilterArg_any (h : b.toNat = 255) : kindFilterArg b = some none := if_pos (BitVec.eq_of_toNat_eq h)

theorem kindFilterArg_kind {k : Kind} (h : b.toNat = k.code) : kindFilterArg b = some (some k) := by
  have hne : b ≠ 255#8 := by
    rintro rfl
    cases k <;> cases h
  rw [kindFilterArg, if_neg hne, h, Kind.ofCode_code]
  rfl

theorem kindFilterArg_range {x : Option Kind} (h : kindFilterArg b = some x) : b.toNat ≤ 27 ∨ b.toNat = 255 := by
  unfold kindFilterArg at h
  split at h
  · next hb => exact .inr (by rw [hb]; rfl)
  · obtain ⟨k, hk, -⟩ := Option.map_eq_some_iff.1 h
    refine .inl (Nat.le_of_lt_succ (Nat.not_le.1 fun hn => ?_))
    rw [Kind.ofCode_none hn] at hk
    cases hk

end

section
variable {t y : FaultTable} {start unit kind mode count : Byte}

/-- Arguments that are taken lie in the ranges of R192. -/
theorem sweepArgs_range (h : sweepArgs t start unit kind mode count = some y) :
    start.toNat < 40 ∧ (unit.toNat ≤ 4 ∨ unit.toNat = 255) ∧ (kind.toNat ≤ 27 ∨ kind.toNat = 255)
      ∧ mode.toNat ≤ 1 ∧ 1 ≤ count.toNat ∧ count.toNat ≤ 40 := by
  unfold sweepArgs at h
  split at h
  · next hunit hkind hmode =>
    split at h
    · next hrange =>
      obtain ⟨hstart, hone, hcount⟩ := hrange
      exact ⟨hstart, unitFilterArg_range hunit, kindFilterArg_range hkind, SweepMode.le_of_ofCode hmode, hone, hcount⟩
    · cases h
  · cases h

theorem sweepArgs_eq {uf : Option FaultUnit} {kf : Option Kind} {m : SweepMode} (hu : unitFilterArg unit = some uf)
    (hk : kindFilterArg kind = some kf) (hm : SweepMode.ofCode mode.toNat = some m) (hs : start.toNat < 40)
    (h1 : 1 ≤ count.toNat) (h40 : count.toNat ≤ 40) :
    sweepArgs t start unit kind mode count = some (t.sweepStart uf kf m start.toNat count.toNat) := by
  unfold sweepArgs
  rw [hu, hk, hm]
  exact if_pos ⟨hs, h1, h40⟩

end

/-! ## The commands (09 R167, R168) -/

section
variable {s : State} {seq : Byte}

theorem exec_sweepStart (hc : s.control.chip = .service) (start unit kind mode count : Byte) :
    exec (.sweepStart seq start unit kind mode count) s
      = .next ((s.takeCommand (.sweepStart seq start unit kind mode count)).startSweep seq start unit kind mode
          count).finish :=
  congrArg Host.Outcome.next (State.inService_serving hc ..)

theorem exec_sweepResume (hc : s.control.chip = .service) :
    exec (.sweepResume seq) s = .next ((s.takeCommand (.sweepResume seq)).resumeSweep seq).finish :=
  congrArg Host.Outcome.next (State.inService_serving hc ..)

theorem exec_sweepCancel (hc : s.control.chip = .service) :
    exec (.sweepCancel seq) s = .next ((s.takeCommand (.sweepCancel seq)).cancelSweep seq).finish :=
  congrArg Host.Outcome.next (State.inService_serving hc ..)

section
variable {start unit kind mode count : Byte}

theorem State.startSweep_badArgument (h : sweepArgs s.table start unit kind mode count = none) :
    s.startSweep seq start unit kind mode count = s.refused seq 0x16#8 .badArgument := by
  unfold State.startSweep
  rw [h]

section
variable {t : FaultTable} (h : sweepArgs s.table start unit kind mode count = some t)
include h

theorem State.startSweep_busy (hs : s.table.sweep.state ≠ .idle) :
    s.startSweep seq start unit kind mode count = s.refused seq 0x16#8 .busy := by
  unfold State.startSweep
  rw [h]
  exact if_neg hs

theorem State.startSweep_starts (hs : s.table.sweep.state = .idle) :
    s.startSweep seq start unit kind mode count = State.done { s with table := t } seq 0x16#8 := by
  unfold State.startSweep
  rw [h]
  exact if_pos hs

end
end

theorem State.resumeSweep_refused (h : s.table.sweep.state ≠ .suspended) :
    s.resumeSweep seq = s.refused seq 0x17#8 .refusedState := if_neg h

theorem State.resumeSweep_runs (h : s.table.sweep.state = .suspended) : s.resumeSweep seq = State.done
    { s with table := { s.table with sweep := { s.table.sweep with state := .running } } } seq 0x17#8 := if_pos h

theorem State.cancelSweep_refused (h : s.table.sweep.state = .idle) :
    s.cancelSweep seq = s.refused seq 0x18#8 .refusedState := if_pos h

theorem State.cancelSweep_ends (h : s.table.sweep.state ≠ .idle) :
    s.cancelSweep seq = State.done { s with table := s.table.endSweep .cancelled } seq 0x18#8 := if_neg h

end

/-- Settles O45: the ranges of the arguments, and then the one test each command makes of the sweep state. -/
theorem sweepCommandsMoveTheSweep : Obligations.SweepCommandsMoveTheSweep := by
  intro seq s hc
  refine ⟨fun start unit kind mode count h => ?_, fun start unit kind mode count uf kf m hu hk hm hs h1 h40 => ?_,
    fun h => ?_, fun h => ?_, fun h => ?_, fun h => ?_⟩
  · have bad : sweepArgs s.table start unit kind mode count = none := by
      refine Option.eq_none_iff_forall_ne_some.2 fun y hy => ?_
      have range := sweepArgs_range hy
      omega
    rw [exec_sweepStart hc, State.startSweep_badArgument (s := s.takeCommand _) bad]
    rfl
  · have unitTaken : unitFilterArg unit = some uf := by
      rcases hu with ⟨h, rfl⟩ | ⟨u, h, rfl⟩
      · exact unitFilterArg_any h
      · exact unitFilterArg_unit h
    have kindTaken : kindFilterArg kind = some kf := by
      rcases hk with ⟨h, rfl⟩ | ⟨k, h, rfl⟩
      · exact kindFilterArg_any h
      · exact kindFilterArg_kind h
    have modeTaken : SweepMode.ofCode mode.toNat = some m := by
      rcases hm with ⟨h, rfl⟩ | ⟨h, rfl⟩ <;> rw [h] <;> rfl
    have taken := sweepArgs_eq (t := s.table) unitTaken kindTaken modeTaken hs h1 h40
    rw [exec_sweepStart hc]
    refine ⟨fun h => ?_, fun h => ?_⟩
    · rw [State.startSweep_busy (s := s.takeCommand _) taken h]
      rfl
    · rw [State.startSweep_starts (s := s.takeCommand _) taken h]
      rfl
  · rw [exec_sweepResume hc, State.resumeSweep_refused (s := s.takeCommand _) h]
    rfl
  · rw [exec_sweepResume hc, State.resumeSweep_runs (s := s.takeCommand _) h]
    rfl
  · rw [exec_sweepCancel hc, State.cancelSweep_refused (s := s.takeCommand _) h]
    rfl
  · rw [exec_sweepCancel hc, State.cancelSweep_ends (s := s.takeCommand _) h]
    rfl

end Sys2Proof.Machine
end

section
/-! PROOFS. OVERRIDE_PUSH and OVERRIDE_POP (O46): the entry that four bytes spell, and the stack moved. -/

namespace Sys2Proof.Machine

open Sys2Proof

/-! ## The entry (09 R169, 11 R192) -/

theorem boolArg_flagByte (f : Bool) : boolArg (flagByte f) = some f := by cases f <;> rfl

theorem boolArg_range {b : Byte} {f : Bool} (h : boolArg b = some f) : b.toNat ≤ 1 := by
  unfold boolArg at h
  split_ifs at h with h0 h1
  · rw [h0]
    exact Nat.zero_le 1
  · rw [h1]
    exact Nat.le_refl 1

theorem Level.ofCode_byte (l : Level) : Level.ofCode (byteOf l.rank).toNat = some l := by cases l <;> rfl

theorem Level.le_of_ofCode {n : Nat} {l : Level} (h : Level.ofCode n = some l) : n ≤ 4 := by
  rw [← Level.rank_of_ofCode h]
  cases l <;> decide

theorem overrideArgs_range {f r l i : Byte} {o : Override} (h : overrideArgs f r l i = some o) :
    f.toNat ≤ 1 ∧ r.toNat ≤ 1 ∧ l.toNat ≤ 4 ∧ i.toNat ≤ 1 := by
  unfold overrideArgs at h
  split at h
  · next hf hr hl hi => exact ⟨boolArg_range hf, boolArg_range hr, Level.le_of_ofCode hl, boolArg_range hi⟩
  · cases h

theorem overrideArgs_eq (f r i : Bool) (l : Level) :
    overrideArgs (flagByte f) (flagByte r) (byteOf l.rank) (flagByte i) = some ⟨f, r, l, i⟩ := by
  unfold overrideArgs
  rw [boolArg_flagByte, boolArg_flagByte, Level.ofCode_byte, boolArg_flagByte]

/-! ## The commands (09 R169, R170, 07 R116) -/

section
variable {s : State} {seq : Byte}

theorem exec_overridePush (hc : s.control.chip = .service) (f r l i : Byte) : exec (.overridePush seq f r l i) s
    = .next ((s.takeCommand (.overridePush seq f r l i)).pushOverride seq f r l i).finish :=
  congrArg Host.Outcome.next (State.inService_serving hc ..)

theorem exec_overridePop (hc : s.control.chip = .service) :
    exec (.overridePop seq) s = .next ((s.takeCommand (.overridePop seq)).popOverride seq).finish :=
  congrArg Host.Outcome.next (State.inService_serving hc ..)

theorem State.pushOverride_badArgument {f r l i : Byte} (h : overrideArgs f r l i = none) :
    s.pushOverride seq f r l i = s.refused seq 0x19#8 .badArgument := by
  unfold State.pushOverride
  rw [h]

section
variable {f r l i : Byte} {o : Override} (h : overrideArgs f r l i = some o)
include h

theorem State.pushOverride_full (hl : 8 ≤ s.control.overrides.length) :
    s.pushOverride seq f r l i = s.refused seq 0x19#8 .stackFull := by
  unfold State.pushOverride
  rw [h]
  exact if_pos hl

theorem State.pushOverride_pushes (hl : s.control.overrides.length < 8) :
    s.pushOverride seq f r l i = (s.setOverrides (o :: s.control.overrides)).done seq 0x19#8 := by
  unfold State.pushOverride
  rw [h]
  exact if_neg (Nat.not_le.2 hl)

end

theorem State.popOverride_empty (h : s.control.overrides = []) :
    s.popOverride seq = s.refused seq 0x1A#8 .stackEmpty := by
  unfold State.popOverride
  rw [h]

theorem State.popOverride_top {top : Override} {rest : List Override} (h : s.control.overrides = top :: rest) :
    s.popOverride seq = (s.setOverrides rest).done seq 0x1A#8 := by
  unfold State.popOverride
  rw [h]

/-- Outside STANDBY a change of the stack is one recomputation. -/
theorem State.setOverrides_recomputes (hc : s.control.chip ≠ .standby) (os : List Override) :
    State.Recomputes { s with control := { s.control with overrides := os } } (s.setOverrides os) :=
  State.recompute_recomputes (s := { s with control := { s.control with overrides := os } }) hc

end

/-- Settles O46: the ranges of the four bytes, the test of the stack, and one recomputation. -/
theorem overridesMoveTheStack : Obligations.OverridesMoveTheStack := by
  intro seq s hc
  have inService : s.control.chip ≠ .standby := ne_of_eq_of_ne hc nofun
  refine ⟨fun f r l i h => ?_, ?_, fun h => ?_, fun top rest h => ⟨(s.takeCommand (.overridePop seq)).setOverrides rest,
    ?_, State.setOverrides_recomputes (s := s.takeCommand (.overridePop seq)) inService rest⟩⟩
  · have bad : overrideArgs f r l i = none := by
      refine Option.eq_none_iff_forall_ne_some.2 fun o ho => ?_
      have range := overrideArgs_range ho
      omega
    rw [exec_overridePush hc, State.pushOverride_badArgument bad]
    rfl
  · rintro f r i l c rfl
    have entry := overrideArgs_eq f r i l
    rw [exec_overridePush hc]
    refine ⟨fun h => ?_, fun h => ⟨_, ?_, State.setOverrides_recomputes (s := s.takeCommand _) inService _⟩⟩
    · rw [State.pushOverride_full (s := s.takeCommand _) entry h]
      rfl
    · rw [State.pushOverride_pushes (s := s.takeCommand _) entry h]
      rfl
  · rw [exec_overridePop hc, State.popOverride_empty (s := s.takeCommand _) h]
    rfl
  · rw [exec_overridePop hc, State.popOverride_top (s := s.takeCommand _) h]
    rfl

end Sys2Proof.Machine
end

section
/-! PROOFS. The leaves of SERVICE to STANDBY (O47): SERVICE_LEAVE and the leave that a SERVICE_IDLE expiry forces. -/

namespace Sys2Proof.Machine

open Sys2Proof

/-! ## Events taken off what is owed (05 R78, R80) -/

theorem count_eraseP_of_false {p : Owed → Bool} {e : Owed} (h : p e = false) (l : List Owed) :
    (l.eraseP p).count e = l.count e := by
  rcases List.exists_or_eq_self_of_eraseP p l with hl | ⟨a, l₁, l₂, -, ha, hl, hl'⟩
  · rw [hl]
  · have hne : a ≠ e := by
      rintro rfl
      simp [h] at ha
    rw [hl', hl, List.count_append, List.count_append, List.count_cons_of_ne hne]

section
variable {s t v : State}

theorem State.SameNews.took (s : State) {f : Owed → Bool} (ha : f .announcement = false)
    (hr : f .latchRequest = false) : s.SameNews (s.took f) := by
  rintro e (rfl | rfl)
  · exact count_eraseP_of_false ha _
  · exact count_eraseP_of_false hr _

theorem State.SameNews.afterExpiry (s : State) (c : Chan) : s.SameNews (s.afterExpiry c) := by
  rintro e (rfl | rfl)
  all_goals exact count_eraseP_of_false rfl _

/-- A leave found after a command or an expiry was taken is a leave from the state before. -/
theorem State.LeavesToStandby.of_taken (h : v.LeavesToStandby t) (hs : s.SameNews v)
    (hv : v = { s with timers := v.timers, owed := v.owed }) : s.LeavesToStandby t := by
  have ports : v.ports = s.ports := by rw [hv]
  have table : v.table = s.table := by rw [hv]
  have test : s.DriveTestHolds false ↔ v.DriveTestHolds false := by simp only [State.DriveTestHolds, ports]
  exact { h with
    drive := fun hd => h.drive (test.1 hd)
    standby := fun hd => h.standby (mt test.2 hd)
    notices := table ▸ h.notices.of_sameNews hs table
    rest := h.rest.trans (by rw [hv]) }

/-! ## The validation before the leave (09 R172, 04 R58, R59) -/

/-- The committed copy in the place of a working copy that failed, before its row change (04 R58). -/
def State.idleReverting (s : State) : State :=
  { s.abandonSweep with unsaved := false, store := { s.store with replaced := true }, working := s.committed }

theorem State.idleLeave_valid (h : s.working.relationFailure = none) :
    s.idleLeave = s.abandonSweep.leaveToStandby := by
  unfold State.idleLeave
  dsimp only
  rw [State.abandonSweep_working, h]
  rfl

theorem State.idleLeave_invalid (hc : s.control.chip ≠ .standby) (h : s.working.relationFailure ≠ none) :
    s.idleLeave = (s.idleReverting.recomputeCore.tableEvent
      (s.table.abandonSweep.rowChange s.working.rows s.committed.rows)).leaveToStandby := by
  obtain ⟨f, hf⟩ := Option.ne_none_iff_exists'.1 h
  unfold State.idleLeave
  dsimp only
  rw [State.abandonSweep_working, hf]
  exact congrArg State.leaveToStandby (State.changeCopy_eq
    (s := { s.abandonSweep with unsaved := false, store := { s.store with replaced := true } }) hc s.committed)

theorem State.SameNews.leaveToStandby (s : State) : s.SameNews s.leaveToStandby :=
  (State.SameNews.stop s.emptyOverrides _).trans (.enterStandby _)

theorem State.leaveToStandby_awake (s : State) : s.leaveToStandby.control.awake = s.control.awake := by
  obtain ⟨-, -, -, -, hawake, -⟩ := State.enterStandby_spec (s.emptyOverrides.stop .serviceIdle) _ rfl
  exact hawake

/-- What the validation at a leave leaves of the copies, the fault table and the store. -/
structure State.LeavesValidated (s t : State) : Prop where
  awake   : t.control.awake = s.control.awake
  sweep   : t.table.sweep = s.table.abandonSweep.sweep
  valid   : s.working.relationFailure = none → t.working = s.working ∧ t.unsaved = s.unsaved
    ∧ t.table = s.table.abandonSweep ∧ t.store = s.store
  invalid : s.working.relationFailure ≠ none → t.working = s.committed ∧ t.unsaved = false
    ∧ t.store = { s.store with replaced := true }
    ∧ s.table.abandonSweep.FreesDisabled t.table s.working.rows s.committed.rows
  handsOn : s.HandsOn t (s.table.LosesWorkshop t.table)

/-- A working copy that passes stays, and the table hands on nothing. -/
theorem State.leavesValidated_valid (h : s.working.relationFailure = none) : s.LeavesValidated s.idleLeave := by
  rw [State.idleLeave_valid h]
  refine ⟨State.leaveToStandby_awake _, by simp [State.abandonSweep], fun _ => by simp [State.abandonSweep],
    fun hn => absurd h hn, [], ?_, State.SameNews.leaveToStandby s.abandonSweep⟩
  rw [State.leaveToStandby_table]
  exact FaultTable.notifies_of_abandonSweep FaultTable.notifies_self

/-- One that fails gives way to the committed copy, as one recomputation and one row change. -/
theorem State.leavesValidated_invalid (hc : s.control.chip ≠ .standby) (h : s.working.relationFailure ≠ none) :
    s.LeavesValidated s.idleLeave := by
  rw [State.idleLeave_invalid hc h]
  refine ⟨?_, ?_, fun hn => absurd hn h, fun _ => ⟨?_, ?_, ?_, ?_⟩, ?_⟩
  · exact (State.leaveToStandby_awake _).trans s.idleReverting.recomputeCore_spec.awake
  · rw [State.leaveToStandby_table]
    rfl
  · simp [State.idleReverting]
  · simp [State.idleReverting]
  · simp [State.idleReverting]
  · rw [State.leaveToStandby_table]
    exact FaultTable.rowChange_freesDisabled _ _ _
  · refine State.HandsOn.of_event (x := s.idleReverting.recomputeCore) ?_ ?_ (.leaveToStandby _)
    · rw [State.leaveToStandby_table]
      exact FaultTable.notifies_of_abandonSweep (FaultTable.updateEvent_notifies _ _)
    · exact State.SameNews.trans (t := s.idleReverting) (.of_owed rfl) (.recomputeCore _)

theorem State.leavesValidated (hc : s.control.chip ≠ .standby) : s.LeavesValidated s.idleLeave := by
  by_cases h : s.working.relationFailure = none
  · exact State.leavesValidated_valid h
  · exact State.leavesValidated_invalid hc h

/-- The validation touches nothing of the store but `replaced`. -/
theorem State.LeavesValidated.store (h : s.LeavesValidated t) :
    t.store = { s.store with replaced := t.store.replaced } := by
  by_cases hf : s.working.relationFailure = none
  · obtain ⟨-, -, -, hstore⟩ := h.valid hf
    rw [hstore]
  · obtain ⟨-, -, hstore, -⟩ := h.invalid hf
    rw [hstore]

/-! ## The entry to STANDBY (07 R105, R111, R116) -/

/-- A controller with gather done off and an empty stack keeps of another, beside what a recomputation sets, the wake
flag alone. -/
theorem Control.eq_of_left {c d : Control} (hawake : d.awake = c.awake) (hdone : d.gatherDone = false)
    (hover : d.overrides = []) : d = { c with
      chip := d.chip, gatherDone := false, target := d.target, applied := d.applied, ramp := d.ramp, overrides := []
      permitFront := d.permitFront, permitRear := d.permitRear, packOpen := d.packOpen, warn := d.warn } := by
  cases d
  cases hawake
  cases hdone
  cases hover
  rfl

theorem State.idleLeave_leaves (hc : s.control.chip ≠ .standby) : s.LeavesToStandby s.idleLeave := by
  have left := State.leavesValidated hc
  set x := s.abandonSweep.revertIfInvalid s.abandonSweep.working.relationFailure with hx
  have test : (x.emptyOverrides.stop .serviceIdle).DriveTestHolds false ↔ s.DriveTestHolds false := by
    simp [State.DriveTestHolds, hx]
  obtain ⟨hdrive, hstandby, hdone, hover, -, htarget, hcovers, -, htimers⟩ :=
    State.enterStandby_spec (x.emptyOverrides.stop .serviceIdle) s.idleLeave rfl
  have table : s.idleLeave.table = x.table := State.leaveToStandby_table x
  have working : s.idleLeave.working = x.working := State.leaveToStandby_working x
  refine ⟨fun hd => hdrive (test.2 hd), fun hd => ?_, hdone, hover, ?_, ?_, ?_, hcovers, left.handsOn, ?_⟩
  · rw [working]
    exact hstandby (mt test.1 hd)
  · rw [htimers .serviceIdle nofun nofun, State.stop, State.operate_timers_get]
    rfl
  · rw [left.sweep]
    exact s.table.abandonSweep_idle
  · rw [table, working]
    exact htarget
  · apply State.ext_fields
    case h12 => exact Control.eq_of_left left.awake hdone hover
    case h15 => exact left.store
    all_goals simp

/-! ## The commands (09 R157, R158, R171, R172) -/

section
variable {seq : Byte}

theorem exec_serviceLeave_busy (hc : s.control.chip = .service) (hb : s.store.busy = true) :
    exec (.serviceLeave seq) s
      = .next ((s.takeCommand (.serviceLeave seq)).refused seq 0x1B#8 .busy).finish :=
  congrArg Host.Outcome.next ((if_pos hc).trans (if_pos hb))

theorem exec_serviceLeave_free (hc : s.control.chip = .service) (hb : s.store.busy = false) :
    exec (.serviceLeave seq) s = .next ((s.takeCommand (.serviceLeave seq)).serviceLeave seq) :=
  congrArg Host.Outcome.next ((if_pos hc).trans (if_neg (show ¬ s.store.busy = true by simp [hb])))

theorem State.serviceLeave_invalid {f : Failure} (h : s.working.relationFailure = some f) :
    s.serviceLeave seq = (s.abandonSweep.start .serviceIdle).placeReply (invalidReply seq 0x1B#8 f) := by
  unfold State.serviceLeave
  dsimp only
  rw [State.abandonSweep_working, h]
  rfl

/-- A leave that passes is the forced one with a reply. -/
theorem State.serviceLeave_valid (h : s.working.relationFailure = none) :
    s.serviceLeave seq = s.idleLeave.placeReply (plainReply seq 0x1B#8 .ok) := by
  rw [State.idleLeave_valid h]
  unfold State.serviceLeave
  dsimp only
  rw [State.abandonSweep_working, h]
  rfl

end

theorem exec_serviceIdleExpiry_serving (hf : s.expiryInForce .serviceIdle = true) (hc : s.control.chip = .service) :
    exec .serviceIdleExpiry s = .next (s.afterExpiry .serviceIdle).idleLeave :=
  congrArg Host.Outcome.next (if_pos ⟨hf, hc⟩)

theorem exec_serviceIdleExpiry_elsewhere (hc : s.control.chip ≠ .service) :
    exec .serviceIdleExpiry s = .next (s.afterExpiry .serviceIdle) :=
  congrArg Host.Outcome.next (if_neg fun h => hc h.2)

end

/-- Settles O47: both leaves are `State.idleLeave`, taken as a command that passes validation or as an expiry. -/
theorem leavesOfServiceValidate : Obligations.LeavesOfServiceValidate := by
  constructor
  · rintro seq s s1 rfl hc
    refine ⟨exec_serviceLeave_busy hc, fun hb => ⟨fun f hf => ?_, fun hf => ?_⟩, FaultTable.abandonSweep_of_idle,
      FaultTable.abandonSweep_of_busy⟩
    · rw [exec_serviceLeave_free hc hb, State.serviceLeave_invalid (s := s.takeCommand _) hf]
      rfl
    · set s1 := s.takeCommand (.serviceLeave seq)
      have inService : s1.control.chip ≠ .standby := ne_of_eq_of_ne hc nofun
      obtain ⟨-, -, table, -⟩ := (State.leavesValidated inService).valid hf
      refine ⟨s1.idleLeave, ?_, table, (State.idleLeave_leaves inService).of_taken (.took s rfl rfl) rfl⟩
      rw [exec_serviceLeave_free hc hb, State.serviceLeave_valid (s := s1) hf]
      rfl
  · intro s hf
    refine ⟨exec_serviceIdleExpiry_elsewhere, fun hc => ?_⟩
    have inService : (s.afterExpiry .serviceIdle).control.chip ≠ .standby := ne_of_eq_of_ne hc nofun
    have left := State.leavesValidated inService
    exact ⟨_, exec_serviceIdleExpiry_serving hf hc, left.sweep, left.valid, left.invalid,
      (State.idleLeave_leaves inService).of_taken (.afterExpiry s _) rfl⟩

end Sys2Proof.Machine
end

section
/-! PROOFS. Invariant of the external memory (O54): every step keeps `State.MemoryOk`; and its bus (O53): one
transaction to a step of an operation, refused as it begins where the memory writes. -/

namespace Sys2Proof.Machine

open Sys2Proof

/-! ## The part of a state that the bus and the invariant speak of (10 R176) -/

/-- What the memory and its bus are asked about: the content and the internal write of the memory, and the operation,
the refusal and the latch buffer of the store. -/
structure BusPart where
  memory      : Memory
  memoryBusy  : Nat
  op          : StoreOp
  refused     : Bool
  latchBuffer : List Byte

def State.busPart (s : State) : BusPart :=
  ⟨s.memory, s.memoryBusy, s.store.op, s.store.refused, s.store.latchBuffer⟩

/-- A transaction is refused exactly if the memory writes as it stands on the bus. -/
def State.BusAnswers (s : State) : Prop :=
  s.store.refused = true ↔ s.store.bus.isSome = true ∧ 0 < s.memoryBusy

/-- What one command does to the memory and its bus: a sound memory stays sound, and the step of an operation that it
leaves is either begun by it, or the one it found with no new internal write of the memory. -/
structure State.BusMoves (s t : State) : Prop where
  canonical : s.MemoryOk → t.memory.wf = true
  latch     : s.MemoryOk → t.store.latchBuffer.length ≤ Config.latchLength
  page      : s.MemoryOk → t.store.op.pageOk
  bus       : t.BusAnswers
    ∨ (t.store.op = s.store.op ∧ t.store.refused = s.store.refused ∧ t.memoryBusy ≤ s.memoryBusy)

section
variable {s t u : State}

theorem State.BusMoves.refl (s : State) : s.BusMoves s :=
  ⟨fun h => h.canonical, fun h => h.latch, fun h => h.page, .inr ⟨rfl, rfl, Nat.le_refl _⟩⟩

/-- The invariant holds after a step that is begun as the bus answers, and after one that waits on. -/
theorem State.BusMoves.memoryOk (h : s.BusMoves t) (hs : s.MemoryOk) : t.MemoryOk := by
  refine ⟨h.canonical hs, h.latch hs, h.page hs, ?_, ?_⟩
  all_goals rcases h.bus with answers | ⟨hop, hrefused, hbusy⟩
  · exact fun hbus hpos => answers.2 ⟨hbus, hpos⟩
  · intro hbus hpos
    rw [Store.bus_isSome_congr hop] at hbus
    rw [hrefused]
    exact hs.writing hbus (Nat.lt_of_lt_of_le hpos hbusy)
  · exact fun href => (answers.1 href).1
  · intro href
    rw [Store.bus_isSome_congr hop]
    exact hs.refusal (hrefused ▸ href)

/-- A step begun by the command is begun as the bus answers. -/
theorem State.BusMoves.answers (h : s.BusMoves t) (hop : t.store.op ≠ s.store.op) : t.BusAnswers :=
  h.bus.resolve_right fun kept => hop kept.1

/-! ## Rules of the moves -/

theorem State.BusMoves.of_part (h : s.BusMoves u) (e : t.busPart = u.busPart := by simp [State.busPart]) :
    s.BusMoves t := by
  obtain ⟨hm, hb, hop, hr, hl⟩ := (BusPart.mk.injEq ..).mp e
  have hbus : t.store.bus.isSome = u.store.bus.isSome := Store.bus_isSome_congr hop
  obtain ⟨canonical, latch, page, bus⟩ := h
  exact ⟨by rwa [hm], by rwa [hl], by rwa [hop], by rwa [State.BusAnswers, hbus, hop, hr, hb]⟩

theorem State.BusMoves.next (e : Host.Outcome.next (φ := Fault) (ρ := Refusal) u = .next t) (h : s.BusMoves u) :
    s.BusMoves t := by
  cases e; exact h

theorem State.BusMoves.ite {b : Prop} [Decidable b] (ht : s.BusMoves t) (hu : s.BusMoves u) :
    s.BusMoves (if b then t else u) := ite_within (fun _ => ht) hu

/-- Every expiry command takes its expiry and, in force, has one effect. -/
theorem State.BusMoves.expiry (h : s.BusMoves u) (c : Chan) {b : Prop} [Decidable b] {f : State → State}
    (hf : ∀ v : State, s.BusMoves v → s.BusMoves (f v)) :
    s.BusMoves (if b then f (u.afterExpiry c) else u.afterExpiry c) := .ite (hf _ h.of_part) h.of_part

/-! ## The store controller (10 R178 to R185) -/

/-- A step of an operation begun is refused exactly where its transaction meets a memory that writes. -/
theorem State.setOp_answers (s : State) (op : StoreOp) : (s.setOp op).BusAnswers := s.setOp_refused op

theorem State.BusMoves.setOp (h : s.BusMoves u) {op : StoreOp} (hop : op.pageOk) : s.BusMoves (u.setOp op) :=
  ⟨h.canonical, h.latch, fun _ => hop, .inl (u.setOp_answers op)⟩

theorem FaultTable.snapshot_length_le (t : FaultTable) (now : Time) : (t.snapshot now).length ≤ 8 := by
  rw [FaultTable.snapshot, List.length_map]
  exact List.length_take_le _ _

theorem State.BusMoves.beginLatch (h : s.BusMoves u) : s.BusMoves u.beginLatch :=
  ⟨h.canonical, fun _ => (encodeLatches_length (FaultTable.snapshot_length_le _ _)).le, fun _ => trivial,
    .inl (State.setOp_answers _ _)⟩

theorem State.BusMoves.beginPending (h : s.BusMoves u) : s.BusMoves u.beginPending := by
  unfold State.beginPending
  refine .ite (.ite h.beginLatch (.ite ?_ (.ite ?_ h))) h
  · exact State.BusMoves.setOp h.of_part (Nat.zero_le 7)
  · exact State.BusMoves.setOp h.of_part trivial

theorem State.BusMoves.endOperation (h : s.BusMoves u) : s.BusMoves u.endOperation :=
  (h.setOp (op := .none) trivial).beginPending

theorem State.BusMoves.endReported (h : s.BusMoves u) (d : Delivery) (e : StoreEnd) :
    s.BusMoves (u.endReported d e) := State.BusMoves.endOperation h.of_part

theorem State.BusMoves.loadResults (h : s.BusMoves u) (i : ImageOutcome) (l : LatchOutcome) :
    s.BusMoves (u.loadResults i l) := State.BusMoves.endOperation h.of_part

theorem State.BusMoves.reloadEnd (h : s.BusMoves u) (i : ImageOutcome) : s.BusMoves (u.reloadEnd i) := by
  cases i with
  | valid c => exact State.BusMoves.endReported h.of_part _ _
  | noMemory | crc | invalid => exact h.endReported _ _

/-- The memory's own write is over where the step of the operation has no transaction. -/
theorem State.BusMoves.memoryReady (h : s.BusMoves u) (hbus : u.store.bus = none) : s.BusMoves u.memoryReady := by
  have silent : ¬ u.store.bus.isSome = true := by simp [hbus]
  refine ⟨h.canonical, h.latch, h.page, h.bus.imp (fun answers => ?_) fun ⟨hop, hr, _⟩ => ⟨hop, hr, Nat.zero_le _⟩⟩
  exact ⟨fun hr => absurd (answers.1 hr).1 silent, fun hb => absurd hb.1 silent⟩

theorem State.BusMoves.storeWaited (h : s.BusMoves u) : s.BusMoves u.storeWaited := by
  unfold State.storeWaited
  split
  · next n hop =>
    refine (h.memoryReady (Store.bus_saveWait hop)).setOp ?_
    split
    · next hn => exact Nat.succ_le_of_lt hn
    · trivial
  · next hop => exact State.BusMoves.endOperation (h.memoryReady (Store.bus_latchWait hop)).of_part
  all_goals exact h

/-- Every page write stays inside the memory: a page of the image below 256, the latch list below 539. -/
theorem State.MemoryOk.pageWrite_fits (h : s.MemoryOk) {a : Nat} {data : List Byte}
    (hbus : s.store.bus = some (.pageWrite a data)) : a + data.length ≤ Config.memorySize := by
  have hpage := h.page
  have hlatch := h.latch
  cases hop : s.store.op with
  | savePage n =>
    rw [Store.bus_savePage hop] at hbus
    obtain ⟨rfl, rfl⟩ := (BusTransaction.pageWrite.injEq ..).mp (Option.some.inj hbus)
    have hn : n ≤ 7 := by rwa [hop] at hpage
    have hdata : (pageBytes s.store.imageBuffer n).length ≤ 32 := List.length_take_le _ _
    simp only [Config.memorySize]
    omega
  | latchPage =>
    rw [Store.bus_latchPage hop] at hbus
    obtain ⟨rfl, rfl⟩ := (BusTransaction.pageWrite.injEq ..).mp (Option.some.inj hbus)
    simp only [Config.latchLength, Config.memorySize] at hlatch ⊢
    omega
  | none | loadImage | loadLatches _ | saveWait _ | saveReadback | reloadRead | latchWait =>
    simp [Store.bus, hop] at hbus

theorem State.completeWrite_store (s : State) : s.completeWrite.store = s.store := by
  unfold State.completeWrite
  split <;> rfl

theorem State.MemoryOk.completeWrite_canonical (h : s.MemoryOk) : s.completeWrite.memory.wf = true := by
  unfold State.completeWrite
  split
  · next hbus => exact Memory.wf_writeAll h.canonical (h.pageWrite_fits hbus)
  all_goals exact h.canonical

/-- The page write in progress completes, and the wait for the memory follows. -/
theorem State.completeWrite_moves (s : State) {op : StoreOp} (hop : s.MemoryOk → op.pageOk) :
    s.BusMoves (s.completeWrite.setOp op) where
  canonical h := h.completeWrite_canonical
  latch h := by rw [State.setOp_latchBuffer, State.completeWrite_store]; exact h.latch
  page := hop
  bus := .inl (State.setOp_answers _ _)

/-- A sequential read brings as many bytes as it asks for. -/
theorem State.readBus_length {a n : Nat} (hbus : s.store.bus = some (.sequentialRead a n)) {r : BusRead}
    {bytes : List Byte} (h : s.readBus r = some bytes) : bytes.length = n := by
  unfold State.readBus at h
  rw [hbus] at h
  split at h
  · cases h
  · cases r with
    | noAcknowledge => cases h
    | returned altered =>
      obtain rfl := Option.some.inj h
      exact returnedBytes_length _ _ _ _

/-- The state once the image buffer holds what a read of the image left in it (R179). -/
def State.imageRead (s : State) (r : BusRead) : State :=
  s.updStore fun x => { x with imageBuffer := (readImage s.store.imageBuffer (s.readBus r)).2 }

/-- The state once the latch buffer holds what a read of the latch list left in it (R180). -/
def State.latchesRead (s : State) (r : BusRead) : State :=
  s.updStore fun x => { x with latchBuffer := (readLatches s.store.latchBuffer (s.readBus r)).2 }

theorem State.imageRead_moves (s : State) (r : BusRead) : s.BusMoves (s.imageRead r) :=
  (State.BusMoves.refl s).of_part rfl

/-- The latch buffer holds the 27 bytes of the list that was read, or what it held. -/
theorem State.latchesRead_moves {i : ImageOutcome} (hop : s.store.op = .loadLatches i) (r : BusRead) :
    s.BusMoves (s.latchesRead r) := by
  refine ⟨fun h => h.canonical, fun h => ?_, fun h => h.page, .inr ⟨rfl, rfl, le_rfl⟩⟩
  show (readLatches s.store.latchBuffer (s.readBus r)).2.length ≤ Config.latchLength
  cases hread : s.readBus r with
  | none => exact h.latch
  | some bytes => exact (State.readBus_length (Store.bus_loadLatches hop) hread).le

theorem State.loadImageReadDone_moves (r : BusRead) (e : execLoadImageReadDone r s = .next t) : s.BusMoves t :=
  have read := s.imageRead_moves r
  .next e (.ite (.ite (read.loadResults _ _) (read.setOp trivial)) (.refl s))

theorem State.loadLatchListReadDone_moves (r : BusRead) (e : execLoadLatchListReadDone r s = .next t) :
    s.BusMoves t := by
  refine .next e ?_
  split
  · next hop => exact (State.latchesRead_moves hop r).loadResults _ _
  all_goals exact .refl s

theorem State.savePageWriteDone_moves (ack : Bool) (e : execSavePageWriteDone ack s = .next t) : s.BusMoves t := by
  refine .next e ?_
  split
  · next hop => exact .ite (s.completeWrite_moves fun h => (hop ▸ h.page :)) ((State.BusMoves.refl s).endReported _ _)
  all_goals exact .refl s

theorem State.latchPageWriteDone_moves (ack : Bool) (e : execLatchPageWriteDone ack s = .next t) : s.BusMoves t :=
  .next e (.ite (.ite (s.completeWrite_moves fun _ => trivial)
    (State.BusMoves.endOperation (State.BusMoves.refl s).of_part)) (.refl s))

theorem State.storeEndReport_moves (e : execStoreEndReport s = .next t) : s.BusMoves t := by
  refine .next e ?_
  split
  · refine (State.BusMoves.refl s).of_part ?_
    unfold State.takeStoreEnd
    split <;> rfl
  · exact .refl s

/-! ## Power-on: a transfer cut short stays inside the memory (10 R187, R188) -/

theorem State.MemoryOk.cut_canonical (h : s.MemoryOk) (torn : Option (List Byte)) :
    (memoryAfterCut s.store s.memory torn).wf = true := by
  unfold memoryAfterCut
  split
  · next a n l htransfer =>
    refine Memory.wf_writeAll h.canonical ?_
    have hpage := h.page
    have hl : (l.take n).length ≤ n := List.length_take_le _ _
    obtain ⟨-, ⟨k, hop, rfl, rfl⟩ | ⟨-, rfl, rfl⟩⟩ := Store.transfer_eq_some.1 htransfer
    · have hk : k ≤ 7 := by rwa [hop] at hpage
      simp only [Config.memorySize]
      omega
    · simp only [Config.memorySize]
      omega
  · exact h.canonical

theorem State.powerOn_moves (cause : ResetCause) (torn : Option (List Byte)) (e : execPowerOn cause torn s = .next t) :
    s.BusMoves t :=
  .next e ⟨fun h => h.cut_canonical torn, fun _ => Nat.zero_le _, fun _ => trivial,
    .inl ⟨fun h => ⟨rfl, of_decide_eq_true h⟩, fun h => decide_eq_true h.2⟩⟩

/-! ## Service commands (09): the hand-overs alone reach the store -/

theorem State.BusMoves.placed {c : Carried} (h : s.BusMoves c.state) : s.BusMoves c.placed := by
  unfold Carried.placed
  split
  · exact h.of_part
  · exact h

theorem State.BusMoves.finish {c : Carried} (h : s.BusMoves c.state) : s.BusMoves c.finish :=
  State.BusMoves.placed (c := { c with state := c.state.start .serviceIdle }) h.of_part

theorem State.BusMoves.inService (h : s.BusMoves u) (i : Instr) (seq code : Byte) {f : State → Carried}
    (hf : ∀ v : State, s.BusMoves v → s.BusMoves (f v).state) : s.BusMoves (u.inService i seq code f) :=
  .ite (.finish (hf _ h.of_part)) (.placed (h.of_part (t := (u.takeCommand i))))

/-- The commands the store's progress refuses leave what they find or carry out their effect. -/
theorem State.BusMoves.unlessBusy (h : s.BusMoves u) (seq code : Byte) {f : State → Carried}
    (hf : s.BusMoves (f u).state) : s.BusMoves (u.unlessBusy seq code f).state :=
  ite_within (P := fun x : Carried => s.BusMoves x.state) (fun _ => h) hf

theorem State.BusMoves.rowWrite (h : s.BusMoves u) (seq kind : Byte) (b : RowBytes) :
    s.BusMoves (u.rowWrite seq kind b).state := by
  unfold State.rowWrite
  split
  · exact h
  · split
    · exact h
    · split
      · exact h
      · exact h.of_part (by simp [State.busPart, State.done])

theorem State.BusMoves.paramWrite (h : s.BusMoves u) (seq number : Byte) (v : Half) :
    s.BusMoves (u.paramWrite seq number v).state := by
  unfold State.paramWrite
  split
  · exact h
  · split
    · exact h.of_part rfl
    · exact h

theorem State.BusMoves.recordClear (h : s.BusMoves u) (seq slot : Byte) :
    s.BusMoves (u.recordClear seq slot).state := by
  have freed : s.BusMoves (u.freeSlot slot.toNat) := h.of_part
  unfold State.recordClear
  split
  · split
    · exact h
    · split
      · exact h
      · exact h
      · exact h
      · exact freed
      · exact freed
  · exact h

theorem State.BusMoves.withTable (h : s.BusMoves u) (x : FaultTable) : s.BusMoves { u with table := x } := h.of_part

theorem State.BusMoves.startSweep (h : s.BusMoves u) (seq start unit kind mode count : Byte) :
    s.BusMoves (u.startSweep seq start unit kind mode count).state := by
  unfold State.startSweep
  split
  · exact h
  · split
    · exact h.withTable _
    · exact h

theorem State.BusMoves.pushOverride (h : s.BusMoves u) (seq a b l i : Byte) :
    s.BusMoves (u.pushOverride seq a b l i).state := by
  unfold State.pushOverride
  split
  · exact h
  · split
    · exact h
    · exact h.of_part (by simp [State.busPart, State.done])

theorem State.BusMoves.popOverride (h : s.BusMoves u) (seq : Byte) : s.BusMoves (u.popOverride seq).state := by
  unfold State.popOverride
  split
  · exact h
  · exact h.of_part (by simp [State.busPart, State.done])

theorem State.BusMoves.serviceEnter (h : s.BusMoves u) (seq : Byte) (e : execServiceEnter seq u = .next t) :
    s.BusMoves t := by
  have taken : s.BusMoves (u.takeCommand (.serviceEnter seq)) := h.of_part
  refine .next e ?_
  split
  · exact .ite (.finish taken) (.placed taken)
  · exact .placed (taken.of_part (by simp [State.busPart, State.done]))

theorem State.revertIfInvalid_busPart (s : State) (f : Option Failure) :
    (s.revertIfInvalid f).busPart = s.busPart := by
  cases f with
  | none => rfl
  | some _ => simp [State.revertIfInvalid, State.busPart]

theorem State.BusMoves.leave (h : s.BusMoves u) : s.BusMoves u.leaveToStandby := h.of_part

theorem State.BusMoves.serviceLeave (h : s.BusMoves u) (seq : Byte) : s.BusMoves (u.serviceLeave seq) := by
  have abandoned : s.BusMoves u.abandonSweep := h.of_part
  unfold State.serviceLeave
  dsimp only
  split
  · exact .finish abandoned
  · exact .placed abandoned.leave

theorem State.BusMoves.idleLeave (h : s.BusMoves u) : s.BusMoves u.idleLeave :=
  have abandoned : s.BusMoves u.abandonSweep := h.of_part
  (abandoned.of_part (State.revertIfInvalid_busPart _ _)).leave

theorem State.BusMoves.shutDown (h : s.BusMoves u) : s.BusMoves u.shutDown := h.of_part

theorem State.BusMoves.wakeFell (h : s.BusMoves u) : s.BusMoves u.wakeFell := by
  unfold State.wakeFell
  split
  · exact State.BusMoves.shutDown h.of_part
  · exact h.shutDown
  · have stopped : s.BusMoves (u.emptyOverrides.stop .serviceIdle).abandonSweep := h.of_part
    exact (stopped.of_part (State.revertIfInvalid_busPart _ _)).shutDown
  all_goals exact h

/-! ## Every command -/

/-- The commands of the store controller, the hand-overs, POWER_ON and the time base move the memory and its bus; every
other command leaves both alone. -/
theorem exec_busMoves (c : Instr) (s t : State) (e : exec c s = .next t) : s.BusMoves t := by
  have h := State.BusMoves.refl s
  cases c with
  -- the configuration store (10)
  | loadImageReadDone r => exact s.loadImageReadDone_moves r e
  | loadLatchListReadDone r => exact s.loadLatchListReadDone_moves r e
  | latchRewriteRequest => exact .next e (State.BusMoves.beginPending h.of_part)
  | savePageWriteDone a => exact s.savePageWriteDone_moves a e
  | storeWaitExpiry => exact .next e (h.expiry .storeWait fun _ hv => hv.storeWaited)
  | saveReadbackDone =>
    exact .next e (.ite (.ite (State.BusMoves.endReported h.of_part _ _) (h.endReported _ _)) h)
  | latchPageWriteDone a => exact s.latchPageWriteDone_moves a e
  | reloadReadDone => exact .next e (.ite (State.BusMoves.reloadEnd h.of_part _) h)
  | storeEndReport => exact s.storeEndReport_moves e
  | storeSave seq =>
    exact .next e (h.inService _ _ _ fun _ hv => hv.unlessBusy _ _ (State.BusMoves.beginPending hv.of_part))
  | storeReload seq =>
    exact .next e (h.inService _ _ _ fun _ hv => hv.unlessBusy _ _ (State.BusMoves.beginPending hv.of_part))
  -- power-on and the time base (00_scope.md, 03)
  | powerOn cause torn => exact s.powerOn_moves cause torn e
  | timeBaseStep =>
    exact .next e ⟨fun h => h.canonical, fun h => h.latch, fun h => h.page, .inr ⟨rfl, rfl, Nat.sub_le _ _⟩⟩
  -- the other service commands and the leaves (09)
  | rowWrite => exact .next e (h.inService _ _ _ fun _ hv => hv.unlessBusy _ _ (hv.rowWrite _ _ _))
  | paramWrite => exact .next e (h.inService _ _ _ fun _ hv => hv.unlessBusy _ _ (hv.paramWrite _ _ _))
  | recordClear => exact .next e (h.inService _ _ _ fun _ hv => hv.recordClear _ _)
  | sweepStart => exact .next e (h.inService _ _ _ fun _ hv => hv.startSweep _ _ _ _ _ _)
  | sweepResume =>
    exact .next e (h.inService _ _ _ fun _ hv =>
      ite_within (P := fun x : Carried => s.BusMoves x.state) (fun _ => hv.withTable _) hv)
  | sweepCancel =>
    exact .next e (h.inService _ _ _ fun _ hv =>
      ite_within (P := fun x : Carried => s.BusMoves x.state) (fun _ => hv) (hv.withTable _))
  | overridePush => exact .next e (h.inService _ _ _ fun _ hv => hv.pushOverride _ _ _ _ _)
  | overridePop => exact .next e (h.inService _ _ _ fun _ hv => hv.popOverride _)
  | serviceEnter seq => exact h.serviceEnter seq e
  | serviceLeave seq =>
    have taken : s.BusMoves (s.takeCommand (.serviceLeave seq)) := h.of_part
    exact .next e (.ite (.ite (.finish taken) (taken.serviceLeave seq)) (.placed taken))
  | serviceIdleExpiry => exact .next e (h.expiry .serviceIdle fun _ hv => hv.idleLeave)
  | wakeFalling => exact .next e (State.BusMoves.wakeFell h.of_part)
  | queryRecords | queryLink | queryRow | queryParam | queryEnvelope | unknownCommand =>
    exact .next e (h.of_part rfl)
  -- what a port hears and sends (01)
  | frameReceived | receiveError | byteReceived => exact .next e (.ite h h.of_part)
  | lineBreak => exact .next e (.ite h (.ite h.of_part h.of_part))
  | breakEnd p => exact .next e (.ite h.of_part h)
  | transmitterTakeFrame p =>
    refine .next e ?_
    split
    · exact h.of_part
    · cases p <;> exact h.of_part
  -- the other expiries and what the blocks owe each other (02, 03, 05 to 08)
  | freshnessExpiry p => exact .next e (h.expiry p.channel (f := fun u => u.silence p) fun _ hv => hv.of_part)
  | recordTickExpiry =>
    exact .next e (h.expiry .recordTick (f := fun u => u.tableEvent (s.table.tick s.working)) fun _ hv => hv.of_part)
  | envelopeExpiry | checkExpiry | gatherExpiry | haltRampExpiry =>
    exact .next e (h.expiry _ fun _ hv => hv.of_part)
  | wakeRising => exact .next e (.ite h.of_part h.of_part)
  | gatherBatchTaken | endOfLoading => exact .next e (.ite h.of_part h.of_part)
  | sweepExamination => exact .next e (.ite h.of_part h)
  | switchChangeAccepted => exact .next e (.ite h.of_part (.ite h h.of_part))
  | arrivalNotice | linkStateNotice | isolationNotice | containmentAnnouncement => exact .next e h.of_part

end

/-- Settles O54: the queue plays no part in the invariant, and every command moves the bus soundly. -/
theorem everyStepKeepsMemoryOk : Obligations.EveryStepKeepsMemoryOk :=
  step_keeps (fun _ _ h => ⟨h.canonical, h.latch, h.page, h.writing, h.refusal⟩)
    fun c s t h e => (exec_busMoves c s t e).memoryOk h

end Sys2Proof.Machine
end

section
/-! PROOFS. The bus of the external memory (O53): the transaction of each step, and what a refused one brings. -/

namespace Sys2Proof.Machine

open Sys2Proof

section
variable {s : State} (h : s.store.refused = true)
include h

/-- The end of a refused page write is taken as a missing acknowledge. -/
theorem Store.acknowledged_congr_of_refused (ack : Bool) : s.store.acknowledged ack = s.store.acknowledged false := by
  rw [Store.acknowledged_refused h, Store.acknowledged_refused h]

/-- The end of a refused read is taken as a missing acknowledge. -/
theorem State.readBus_congr_of_refused (r : BusRead) : s.readBus r = s.readBus .noAcknowledge := by
  rw [State.readBus_refused h, State.readBus_noAcknowledge]

theorem exec_writeDone_of_refused (ack : Bool) :
    exec (.savePageWriteDone ack) s = exec (.savePageWriteDone false) s
      ∧ exec (.latchPageWriteDone ack) s = exec (.latchPageWriteDone false) s := by
  simp only [exec, execSavePageWriteDone, execLatchPageWriteDone, Store.acknowledged_congr_of_refused h ack, and_self]

theorem exec_readDone_of_refused (r : BusRead) :
    exec (.loadImageReadDone r) s = exec (.loadImageReadDone .noAcknowledge) s
      ∧ exec (.loadLatchListReadDone r) s = exec (.loadLatchListReadDone .noAcknowledge) s
      ∧ exec (.saveReadbackDone r) s = exec (.saveReadbackDone .noAcknowledge) s
      ∧ exec (.reloadReadDone r) s = exec (.reloadReadDone .noAcknowledge) s := by
  have read := State.readBus_congr_of_refused h r
  have same : s.readbackMatches r = s.readbackMatches .noAcknowledge := by
    rw [State.readbackMatches, State.readbackMatches, read]
  refine ⟨?_, ?_, ?_, ?_⟩
  · simp only [exec, execLoadImageReadDone, read]
  · simp only [exec, execLoadLatchListReadDone, read]
  · simp only [exec, execSaveReadbackDone, same]
  · simp only [exec, execReloadReadDone, read]

end

/-- Settles O53: a step that a command begins is begun as the bus answers (`exec_busMoves`), and the end of a refused
transaction carries nothing. -/
theorem writingMemoryAcknowledgesNothing : Obligations.WritingMemoryAcknowledgesNothing := by
  refine ⟨fun x => ⟨?_, fun i => Store.bus_loadLatches, fun n => Store.bus_savePage, Store.bus_latchPage, ?_⟩,
    fun a n data => ⟨rfl, rfl⟩, fun c s t e hop => (exec_busMoves c s t e).answers hop, fun s ack r h => ?_⟩
  · rintro (h | h | h)
    · exact Store.bus_loadImage h
    · exact Store.bus_saveReadback h
    · exact Store.bus_reloadRead h
  · rintro (h | h | ⟨n, h⟩)
    · exact Store.bus_idle h
    · exact Store.bus_latchWait h
    · exact Store.bus_saveWait h
  · obtain ⟨hsave, hlatch⟩ := exec_writeDone_of_refused h ack
    obtain ⟨himage, hlist, hback, hreload⟩ := exec_readDone_of_refused h r
    exact ⟨hsave, hlatch, himage, hlist, hback, hreload⟩

end Sys2Proof.Machine
end

section
/-! PROOFS. The steps of a SAVE and of a LATCH_WRITE (O50), and a whole SAVE (O51): the page each write puts in memory,
the wait after it, and the end. -/

namespace Sys2Proof.Machine

open Sys2Proof

section
variable {s : State}

/-! ## Transactions that are not acknowledged, or refused (10 R176) -/

theorem Store.acknowledged_lost {x : Store} {ack : Bool} (h : ack = false ∨ x.refused = true) :
    x.acknowledged ack = false := by
  rcases h with rfl | h
  · rfl
  · exact Store.acknowledged_refused h ack

theorem State.readBus_lost {r : BusRead} (h : r = .noAcknowledge ∨ s.store.refused = true) : s.readBus r = none := by
  rcases h with rfl | h
  · exact State.readBus_noAcknowledge s
  · exact State.readBus_refused h r

/-! ## A page write and the wait after it (10 R176, R182, R185) -/

/-- A page write to a canonical memory puts its data at its address and nothing elsewhere. -/
theorem State.writePage_read (hm : s.memory.wf = true) (base : Nat) (data : List Byte) (a : Nat) :
    (s.writePage base data).memory.read a
      = if base ≤ a ∧ a < base + data.length then byteAt data (a - base) else s.memory.read a :=
  Memory.read_writeAll hm base data a

/-- A page of the image holds the bytes of the buffer from its first address on, as far as the buffer goes. -/
theorem byteAt_pageBytes (buffer : List Byte) {n a : Nat} (h1 : 32 * n ≤ a) (h2 : a < 32 * n + 32) :
    byteAt (pageBytes buffer n) (a - 32 * n) = byteAt buffer a := by
  have hin : a - 32 * n < 32 := by omega
  have hback : 32 * n + (a - 32 * n) = a := by omega
  simp [byteAt, pageBytes, Config.pageSize, List.getD, hin, hback]

theorem pageBytes_length (buffer : List Byte) (n : Nat) :
    (pageBytes buffer n).length = min 32 (buffer.length - 32 * n) := by
  rw [pageBytes, List.length_take, List.length_drop]
  rfl

theorem State.writePage_read_page (hm : s.memory.wf = true) (buffer : List Byte) (n a : Nat) :
    (s.writePage (32 * n) (pageBytes buffer n)).memory.read a
      = if 32 * n ≤ a ∧ a < 32 * n + 32 ∧ a < buffer.length then byteAt buffer a else s.memory.read a := by
  rw [State.writePage_read hm, pageBytes_length]
  by_cases h : 32 * n ≤ a ∧ a < 32 * n + 32 ∧ a < buffer.length
  · rw [if_pos (by omega), if_pos h, byteAt_pageBytes buffer h.1 h.2.1]
  · rw [if_neg (by omega), if_neg h]

/-- A step without a transaction has none to refuse. -/
theorem State.setOp_silent {op : StoreOp} (h : Store.bus { s.store with op := op } = none) :
    s.setOp op = { s with store := { s.store with op := op, refused := false } } := by
  simp only [State.setOp, State.updStore, h]
  rfl

/-- What an acknowledged page write and the wait that follows it change, and no more. -/
theorem State.writePage_setOp_eq (hr : s.store.refused = false) {op : StoreOp}
    (hop : Store.bus { s.store with op := op } = none) (a : Nat) (l : List Byte) (t : State)
    (ht : t = (s.writePage a l).setOp op) : t = { s with
      memory := t.memory, memoryBusy := 6, store := { s.store with op := op }
      timers := t.timers, owed := t.owed } := by
  rw [State.setOp_silent (s := s.writePage a l) hop] at ht
  subst ht
  simp only [State.writePage_store, ← hr]
  rfl

/-! ## The commands of a SAVE and of a LATCH_WRITE, step by step -/

theorem exec_savePageWriteDone_acknowledged {n : Nat} (hop : s.store.op = .savePage n) (hr : s.store.refused = false) :
    exec (.savePageWriteDone true) s
      = .next ((s.writePage (32 * n) (pageBytes s.store.imageBuffer n)).setOp (.saveWait n)) := by
  simp only [exec, execSavePageWriteDone, hop, Store.acknowledged_open hr, if_true,
    State.completeWrite_eq (Store.bus_savePage hop)]

theorem exec_savePageWriteDone_failed {n : Nat} (hop : s.store.op = .savePage n) {ack : Bool}
    (hack : ack = false ∨ s.store.refused = true) : exec (.savePageWriteDone ack) s = .next s.saveFailed := by
  simp [exec, execSavePageWriteDone, hop, Store.acknowledged_lost hack]

theorem exec_storeWaitExpiry (h : s.expiryInForce .storeWait = true) :
    exec .storeWaitExpiry s = .next (s.afterExpiry .storeWait).storeWaited :=
  congrArg Host.Outcome.next (if_pos h)

/-- The next page of a SAVE, or its read-back, begins with the memory at rest. -/
theorem State.storeWaited_save {n : Nat} (hop : s.store.op = .saveWait n) : s.storeWaited = { s with
    memoryBusy := 0
    store := { s.store with op := if n < 7 then .savePage (n + 1) else .saveReadback, refused := false } } := by
  simp [State.storeWaited, hop, State.setOp, State.updStore, State.memoryReady]

theorem State.storeWaited_latch (hop : s.store.op = .latchWait) :
    s.storeWaited = (State.deliver { s with memoryBusy := 0 } storeClean).endOperation := by
  simp only [State.storeWaited, hop]
  rfl

theorem exec_saveReadbackDone_matched (hop : s.store.op = .saveReadback) {r : BusRead}
    (h : s.readBus r = some s.store.imageBuffer) : exec (.saveReadbackDone r) s = .next s.saveMatched := by
  simp [exec, execSaveReadbackDone, hop, State.readbackMatches, h]

theorem exec_saveReadbackDone_failed (hop : s.store.op = .saveReadback) {r : BusRead}
    (h : s.readBus r ≠ some s.store.imageBuffer) : exec (.saveReadbackDone r) s = .next s.saveFailed := by
  simp [exec, execSaveReadbackDone, hop, State.readbackMatches, h]

/-- A read-back that matches is answered, with the bytes of the buffer. -/
theorem State.readBus_readback (hop : s.store.op = .saveReadback) (hr : s.store.refused = false)
    (altered : List Host.Cell) : s.readBus (.returned altered) = some (returnedBytes s.memory altered 0 232) :=
  State.readBus_returned hr (Store.bus_saveReadback hop) altered

/-! ## The end of a SAVE or RELOAD (10 R183, R184) -/

theorem State.endReported_table (s : State) (d : Delivery) (e : StoreEnd) :
    (s.endReported d e).table = (s.deliver d).table := by
  simp [State.endReported]

theorem State.endReported_owed (s : State) (d : Delivery) (e : StoreEnd) :
    (s.endReported d e).owed = (s.deliver d).owed ++ [.storeEnd e] := by
  simp [State.endReported, State.owe]

/-- An end that is reported leaves all but the fault table, the store and what is owed as it was. -/
theorem State.endReported_frame (s : State) (d : Delivery) (e : StoreEnd) : s.endReported d e = { s with
    table := (s.endReported d e).table, store := (s.endReported d e).store, owed := (s.endReported d e).owed } := by
  apply State.ext_fields <;> simp

/-- The content of a buffer that a SAVE composed of a sound copy is that copy (10 R183). -/
theorem bufferCopy_encodeImage {c : Copy} (hc : c.Ok) (hr : ∀ k, (c.rows.get k).confirm ≤ 255
    ∧ (c.rows.get k).heal ≤ 255 ∧ (c.rows.get k).recur ≤ 255 ∧ (c.rows.get k).derate ≤ 255) (committed : Copy) :
    bufferCopy (encodeImage c) committed = c := by
  have params : imageParamFailure (encodeImage c) = none := by
    simpa [imageParamFailure, imageParam_encodeImage c (hc.params.get_le _)] using fun p _ => hc.params p
  have builtin_inRange : ∀ k : Kind, k.isLocked = true → (Rows.builtin.get k).inRange = true := by
    intro k; cases k <;> decide
  have locked : imageLockedFailure (encodeImage c) = none := by
    refine Option.map_eq_none_iff.2 (List.find?_eq_none.2 fun k _ => ?_)
    by_cases hk : k.isLocked = true
    · simp [imageRow, rowBytesAt_encodeImage, hc.rows k hk, Row.decode_encode (builtin_inRange k hk)]
    · simp [hk]
  simp only [bufferCopy, params, locked, Option.or_none, imageCopy_encodeImage hc.params hr]

end

/-- The commands that end a SAVE as failed (R182, R183). -/
theorem exec_save_fails {s : State} {c : Instr}
    (h : ((c = .savePageWriteDone false ∨ (c = .savePageWriteDone true ∧ s.store.refused = true))
        ∧ ∃ n, s.store.op = .savePage n)
      ∨ (s.store.op = .saveReadback ∧ (c = .saveReadbackDone .noAcknowledge
        ∨ (s.store.refused = true ∧ ∃ r, c = .saveReadbackDone r)
        ∨ ∃ altered, c = .saveReadbackDone (.returned altered)
          ∧ returnedBytes s.memory altered 0 232 ≠ s.store.imageBuffer))) : exec c s = .next s.saveFailed := by
  rcases h with ⟨rfl | ⟨rfl, hr⟩, n, hop⟩ | ⟨hop, rfl | ⟨hr, r, rfl⟩ | ⟨altered, rfl, hne⟩⟩
  · exact exec_savePageWriteDone_failed hop (.inl rfl)
  · exact exec_savePageWriteDone_failed hop (.inr hr)
  · exact exec_saveReadbackDone_failed hop (by simp [State.readBus_lost (.inl rfl)])
  · exact exec_saveReadbackDone_failed hop (by simp [State.readBus_lost (.inr hr)])
  · refine exec_saveReadbackDone_failed hop ?_
    cases hr : s.store.refused with
    | true => simp [State.readBus_lost (.inr hr)]
    | false => simpa [State.readBus_readback hop hr] using hne

/-- Settles O50. -/
theorem saveWritesPagesAndVerifies : Obligations.SaveWritesPagesAndVerifies := by
  refine ⟨fun n s hop hr hm => ?_, fun n s hop hf => ?_, fun s hop hf => ?_, fun s c h => ?_,
    fun s altered c hop hr hbuffer hc hrows hread => ?_⟩
  · have page := State.writePage_read_page hm s.store.imageBuffer n
    refine ⟨_, exec_savePageWriteDone_acknowledged hop hr, fun a h1 h2 h3 => ?_, fun a h => ?_, rfl,
      State.writePage_setOp_eq hr rfl _ _ _ rfl⟩
    · exact (page a).trans (if_pos ⟨h1, h2, h3⟩)
    · exact (page a).trans (if_neg (by omega))
  · rw [exec_storeWaitExpiry hf, State.storeWaited_save (s := s.afterExpiry .storeWait) hop]
    rfl
  · rw [exec_storeWaitExpiry hf, State.storeWaited_latch (s := s.afterExpiry .storeWait) hop]
  · exact ⟨_, exec_save_fails h, s.endReported_table _ _, s.endReported_owed _ _, s.saveFailed_busy,
      s.endReported_frame _ _⟩
  · have matched : s.readBus (.returned altered) = some s.store.imageBuffer := by
      rw [State.readBus_readback hop hr, hread, hbuffer]
    refine ⟨_, exec_saveReadbackDone_matched hop matched, ?_, ?_, ?_, State.endReported_table _ _ _,
      State.endReported_owed _ _ _, ?_⟩
    · rw [State.saveMatched, State.endReported_committed, hbuffer, bufferCopy_encodeImage hc hrows]
    · rw [State.saveMatched, State.endReported_unsaved]
    · rw [State.saveMatched, State.endReported_working]
    · apply State.ext_fields <;> simp

end Sys2Proof.Machine
end

section
/-! PROOFS. A whole SAVE (O51): eight page writes with their waits, one after another. -/

namespace Sys2Proof.Machine

open Sys2Proof

/-! ## STORE_WAIT with no expiry owed (03 R36, R41) -/

section
variable {s : State} {c : Chan} (h : ∀ f, Owed.expiry c f ∉ s.owed)
include h

theorem State.not_isExpiry_of_none : ∀ e ∈ s.owed, Owed.isExpiry c e = false := by
  intro e he
  cases e with
  | expiry d f =>
    have hd : d ≠ c := fun hd => h f (hd ▸ he)
    simp [Owed.isExpiry, hd]
  | _ => rfl

/-- With no expiry of the channel owed, an operation on the channel changes nothing that is owed. -/
theorem State.voided_of_none : s.owed.map (Owed.voided c) = s.owed :=
  (List.map_congr_left fun e he => Owed.voided_of_not_isExpiry (State.not_isExpiry_of_none h e he)).trans
    (List.map_id _)

/-- With no expiry of the channel owed, its expiry is in force while it runs. -/
theorem State.expiryInForce_of_none (hrun : (s.timers.get c).state = .running) : s.expiryInForce c = true := by
  have hnone : s.owed.find? (Owed.isExpiry c) = none :=
    List.find?_eq_none.2 fun e he => by simp [State.not_isExpiry_of_none h e he]
  simp [State.expiryInForce, hnone, hrun]

theorem State.afterExpiry_owed_of_none : (s.afterExpiry c).owed = s.owed :=
  List.eraseP_of_forall_not fun e he => by simp [State.not_isExpiry_of_none h e he]

end

/-! ## One page written and waited for (10 R182) -/

/-- One page of a SAVE is in the memory, its wait is over, and the next step has begun. -/
structure State.PageSaved (n : Nat) (s t : State) : Prop where
  memory : t.memory = s.memory.writeAll (32 * n) (pageBytes s.store.imageBuffer n)
  store  : t.store = { s.store with op := if n < 7 then .savePage (n + 1) else .saveReadback }
  rest   : t = { s with memory := t.memory, memoryBusy := t.memoryBusy, store := t.store, timers := t.timers }

section
variable {s t : State} {n : Nat}

theorem execAll_page_saved (hop : s.store.op = .savePage n) (hr : s.store.refused = false)
    (ho : ∀ f, Owed.expiry .storeWait f ∉ s.owed) :
    ∃ t, execAll [.savePageWriteDone true, .storeWaitExpiry] s = .next t ∧ State.PageSaved n s t := by
  set w := s.writePage (32 * n) (pageBytes s.store.imageBuffer n)
  have waits : w.setOp (.saveWait n) = { w with store := { s.store with op := .saveWait n, refused := false } } :=
    State.setOp_silent (s := w) rfl
  have owed : (w.setOp (.saveWait n)).owed = s.owed := State.voided_of_none (s := s) ho
  have none_owed : ∀ f, Owed.expiry .storeWait f ∉ (w.setOp (.saveWait n)).owed := owed ▸ ho
  have runs_out : (w.setOp (.saveWait n)).expiryInForce .storeWait = true := State.expiryInForce_of_none none_owed rfl
  set v := (w.setOp (.saveWait n)).afterExpiry .storeWait
  have goes_on := State.storeWaited_save (s := v) (n := n) rfl
  have owed_after : v.owed = s.owed := (State.afterExpiry_owed_of_none none_owed).trans owed
  refine ⟨v.storeWaited, ?_, ?_⟩
  · rw [execAll_cons (exec_savePageWriteDone_acknowledged hop hr), execAll_cons (exec_storeWaitExpiry runs_out)]
    rfl
  · rw [goes_on]
    refine ⟨rfl, ?_, ?_⟩
    · simp only [v, State.afterExpiry_store, waits, ← hr]
    · exact State.ext_fields rfl rfl rfl rfl rfl rfl rfl rfl rfl rfl rfl rfl rfl rfl rfl rfl rfl owed_after rfl

theorem State.PageSaved.canonical (h : State.PageSaved n s t) (hn : n ≤ 7) (hm : s.memory.wf = true) :
    t.memory.wf = true := by
  rw [h.memory]
  refine Memory.wf_writeAll hm ?_
  rw [pageBytes_length, Config.memorySize]
  omega

theorem State.PageSaved.read (h : State.PageSaved n s t) (hm : s.memory.wf = true) (a : Nat) :
    t.memory.read a = if 32 * n ≤ a ∧ a < 32 * n + 32 ∧ a < s.store.imageBuffer.length
      then byteAt s.store.imageBuffer a else s.memory.read a := by
  rw [h.memory]
  exact State.writePage_read_page hm s.store.imageBuffer n a

end

/-! ## The pages that are left (10 R182) -/

/-- The pages of the buffer from page `n` on are in the memory, nothing else is changed there, and the read-back has
begun. -/
structure State.SavedFrom (n : Nat) (s t : State) : Prop where
  store     : t.store = { s.store with op := .saveReadback }
  canonical : t.memory.wf = true
  read      : ∀ a, t.memory.read a = if 32 * n ≤ a ∧ a < 256 ∧ a < s.store.imageBuffer.length
    then byteAt s.store.imageBuffer a else s.memory.read a
  rest      : t = { s with memory := t.memory, memoryBusy := t.memoryBusy, store := t.store, timers := t.timers }

section
variable {s t u : State} {n : Nat}

theorem State.PageSaved.savedFrom_last (h : State.PageSaved 7 s t) (hm : s.memory.wf = true) :
    State.SavedFrom 7 s t where
  store := h.store
  canonical := h.canonical (Nat.le_refl 7) hm
  read := h.read hm
  rest := h.rest

theorem State.PageSaved.savedFrom (h : State.PageSaved n s u) (hm : s.memory.wf = true) (hn : n < 7)
    (later : State.SavedFrom (n + 1) u t) : State.SavedFrom n s t where
  store := by rw [later.store, h.store]
  canonical := later.canonical
  read a := by
    have buffer : u.store.imageBuffer = s.store.imageBuffer := by rw [h.store]
    rw [later.read, h.read hm, buffer]
    split_ifs <;> first | rfl | omega
  rest := later.rest.trans (by rw [h.rest])

/-- The pages from page `n` on, each acknowledged and waited for. -/
theorem execAll_pages_saved {m : Nat} (hcount : n + m = 7) (hop : s.store.op = .savePage n)
    (hr : s.store.refused = false) (hm : s.memory.wf = true) (ho : ∀ f, Owed.expiry .storeWait f ∉ s.owed) :
    ∃ t, execAll (List.replicate (m + 1) [.savePageWriteDone true, .storeWaitExpiry]).flatten s = .next t
      ∧ State.SavedFrom n s t := by
  induction m generalizing n s with
  | zero =>
    obtain rfl : n = 7 := hcount
    obtain ⟨t, run, saved⟩ := execAll_page_saved hop hr ho
    exact ⟨t, run, saved.savedFrom_last hm⟩
  | succ m ih =>
    obtain ⟨u, run, saved⟩ := execAll_page_saved hop hr ho
    have hn : n < 7 := by omega
    have store : u.store = { s.store with op := .savePage (n + 1) } := saved.store.trans (by rw [if_pos hn])
    have owed : u.owed = s.owed := by rw [saved.rest]
    obtain ⟨t, rest, later⟩ := ih (n := n + 1) (s := u) (by omega) (by rw [store]) (by rw [store]; exact hr)
      (saved.canonical hn.le hm) (by rwa [owed])
    refine ⟨t, ?_, saved.savedFrom hm hn later⟩
    rw [List.replicate_succ, List.flatten_cons, execAll_append run, rest]

end

/-! ## The whole image (10 R182, R183) -/

/-- A sequential read finds the bytes of a list that the memory holds from its address on. -/
theorem Memory.readAll_eq_of_read {m : Memory} {l : List Byte} {a : Nat}
    (h : ∀ i, i < l.length → m.read (a + i) = byteAt l i) : m.readAll a l.length = l := by
  induction l generalizing a with
  | nil => rfl
  | cons b bs ih =>
    have head : m.read a = b := h 0 (Nat.succ_pos _)
    have tail : m.readAll (a + 1) bs.length = bs := ih fun i hi => by
      rw [Nat.add_assoc, Nat.add_comm 1 i]
      exact h (i + 1) (Nat.succ_lt_succ hi)
    rw [List.length_cons, Memory.readAll, head, tail]

/-- Settles O51: page by page (`execAll_pages_saved`), and the read-back finds the buffer. -/
theorem wholeSaveLeavesImageInMemory : Obligations.WholeSaveLeavesImageInMemory := by
  intro s hop hr hlen hm ho
  obtain ⟨t, run, saved⟩ := execAll_pages_saved (m := 7) rfl hop hr hm ho
  have buffer : t.store.imageBuffer = s.store.imageBuffer := by rw [saved.store]
  have image : t.memory.readAll 0 232 = s.store.imageBuffer := by
    rw [← hlen]
    refine Memory.readAll_eq_of_read fun i hi => ?_
    rw [Nat.zero_add, saved.read, if_pos (by omega)]
  have readback : t.store.op = .saveReadback := by rw [saved.store]
  have matched : t.readBus (.returned []) = some t.store.imageBuffer := by
    rw [State.readBus_readback readback (by rw [saved.store]; exact hr), returnedBytes_nil, image, buffer]
  refine ⟨t, run, readback, buffer, image, fun a ha => ?_, saved.canonical, saved.rest, _,
    exec_saveReadbackDone_matched readback matched, ?_⟩
  · rw [saved.read, if_neg (by omega)]
  · rw [State.saveMatched, State.endReported_owed]
    exact List.mem_append_right _ (List.mem_singleton_self _)

end Sys2Proof.Machine
end

section
/-! PROOFS. The end of a RELOAD (O52) and the start-up LOAD (O48): what a read brings, and what its outcome hands on. -/

namespace Sys2Proof.Machine

open Sys2Proof

section
variable {s t : State}

/-! ## The copies replaced (10 R181, R184, 04 R59) -/

theorem State.replaceCopies_copies (s : State) (c : Copy) : (s.replaceCopies c).working = c
    ∧ (s.replaceCopies c).committed = c ∧ (s.replaceCopies c).unsaved = false := by
  simp [State.replaceCopies]

theorem State.replaceCopies_table (s : State) (c : Copy) :
    (s.replaceCopies c).table = (s.table.rowChange s.working.rows c.rows).table := rfl

/-! ## The end of an operation (10 R178) -/

/-- A free controller with nothing pending stays free. -/
theorem State.beginPending_nothing (hl : s.store.latchPending = false) (hs : s.store.savePending = false)
    (hr : s.store.reloadPending = false) : s.beginPending = s := by
  simp [State.beginPending, hl, hs, hr]

theorem State.endOperation_nothing (hl : s.store.latchPending = false) (hs : s.store.savePending = false)
    (hr : s.store.reloadPending = false) :
    s.endOperation = { s with store := { s.store with op := .none, refused := false } } :=
  (State.beginPending_nothing (s := s.setOp .none) hl hs hr).trans (State.setOp_silent rfl)

/-- A pending latch-list rewrite begins at the end of an operation, before anything else that is pending. -/
theorem State.endOperation_latch (hl : s.store.latchPending = true) :
    s.endOperation.store.op = .latchPage ∧ s.endOperation.store.latchPending = false := by
  have begun : s.endOperation = (s.setOp .none).beginLatch := State.beginPending_latch (s := s.setOp .none) rfl hl
  rw [begun]
  exact ⟨rfl, rfl⟩

/-! ## What a read of the image brings (10 R179) -/

/-- What a read of the image brings: no memory without an acknowledge, else the outcome of its test. -/
theorem State.readImage_outcome (hbus : s.store.bus = some (.sequentialRead 0 232)) {r : BusRead} {i : ImageOutcome}
    (lost : r = .noAcknowledge ∨ s.store.refused = true → i = .noMemory)
    (read : ∀ altered, r = .returned altered → s.store.refused = false →
      i = testImage (returnedBytes s.memory altered 0 232)) (buffer : List Byte) :
    (readImage buffer (s.readBus r)).1 = i := by
  by_cases h : r = .noAcknowledge ∨ s.store.refused = true
  · rw [State.readBus_lost h, lost h]
    rfl
  · obtain ⟨answered, hr⟩ := not_or.1 h
    cases r with
    | noAcknowledge => exact absurd rfl answered
    | returned altered =>
      have hr := eq_false_of_ne_true hr
      rw [State.readBus_returned hr hbus, read altered rfl hr]
      rfl

/-! ## The end of a RELOAD (10 R184) -/

theorem exec_reloadReadDone (hop : s.store.op = .reloadRead) {r : BusRead} {i : ImageOutcome}
    (hi : (readImage s.store.imageBuffer (s.readBus r)).1 = i) :
    exec (.reloadReadDone r) s = .next ((s.imageRead r).reloadEnd i) := by
  subst hi
  exact congrArg Host.Outcome.next (if_pos hop)

/-- A valid image replaces both copies as one row change, with a clean observation and its end report (R184). -/
theorem State.reloadEnd_valid (s : State) (c : Copy) (t : State) (ht : t = s.reloadEnd (.valid c)) :
    (t.working = c ∧ t.committed = c ∧ t.unsaved = false)
      ∧ t.table = (State.deliver { s with
          working := c, table := (s.table.rowChange s.working.rows c.rows).table } storeClean).table
      ∧ t.owed.getLast? = some (.storeEnd .ok)
      ∧ t = { s with
          working := c, committed := c, unsaved := false, table := t.table, control := t.control
          timers := t.timers, store := t.store, owed := t.owed } := by
  obtain ⟨working, committed, unsaved⟩ := s.replaceCopies_copies c
  obtain rfl : t = (s.replaceCopies c).endReported storeClean .ok := ht
  refine ⟨by simp [working, committed, unsaved], ?_, ?_, ?_⟩
  · rw [State.endReported_table]
    exact State.deliverAll_table_congr [storeClean] (s.replaceCopies_table c) working (s.replaceCopies_now c)
  · rw [State.endReported_owed]
    exact List.getLast?_concat
  · apply State.ext_fields <;> simp [working, committed, unsaved]

/-- The cause and the end report of a RELOAD that brings no copy (R184). -/
theorem State.reloadEnd_failed {i : ImageOutcome} {cause : StoreCause} {e : StoreEnd}
    (h : (i = .noMemory ∧ cause = .noMemory ∧ e = .failed) ∨ (i = .crc ∧ cause = .imageCrc ∧ e = .failed)
      ∨ ∃ f, i = .invalid f ∧ cause = .imageInvalid ∧ e = .invalid f) :
    s.reloadEnd i = s.endReported (storeFault cause) e := by
  rcases h with ⟨rfl, rfl, rfl⟩ | ⟨rfl, rfl, rfl⟩ | ⟨f, rfl, rfl, rfl⟩ <;> rfl

end

/-- Settles O52: a valid image replaces both copies (`State.replaceCopies`), and each end is reported
(`State.endReported`). -/
theorem reloadReplacesBothCopiesOrNone : Obligations.ReloadReplacesBothCopiesOrNone := by
  intro r s i hop lost read
  have outcome := State.readImage_outcome (Store.bus_reloadRead hop) lost read s.store.imageBuffer
  refine ⟨_, exec_reloadReadDone hop outcome, ?_, fun cause e h => ?_⟩
  · rintro c rfl
    obtain ⟨⟨working, committed, unsaved⟩, table, ended, rest⟩ := State.reloadEnd_valid (s.imageRead r) c _ rfl
    exact ⟨working, committed, unsaved, table, ended, rest⟩
  · rw [State.reloadEnd_failed h]
    exact ⟨State.endReported_table _ _ _, State.endReported_owed _ _ _, State.endReported_frame _ _ _⟩

/-! ## The verdicts of a LOAD (10 R181) -/

/-- Where the image has a cause, its evidence comes first and that of the latch list follows. -/
theorem loadVerdicts_of_cause {i : ImageOutcome} {cause : StoreCause} (hi : i ≠ .noMemory) (hc : i.cause = some cause)
    (l : LatchOutcome) : loadVerdicts i l = storeFault cause :: l.cause.toList.map storeFault := by
  cases i with
  | noMemory => exact absurd rfl hi
  | valid | crc | invalid => cases hc <;> rfl

/-! ## What a LOAD hands on (10 R181) -/

section
variable {s t : State}

theorem State.mem_deliverAll_owed {e : Owed} (h : e ∈ s.owed) (ds : List Delivery) : e ∈ (s.deliverAll ds).owed := by
  induction ds generalizing s with
  | nil => exact h
  | cons d ds ih => exact ih (List.mem_append_left _ h)

/-- The bringing back of a list with an entry is announced (05 R65; log 19). -/
theorem FaultTable.restore_announces (x : FaultTable) (now : Time) {es : List LatchEntry} (h : es ≠ []) :
    Owed.announcement ∈ (x.restore now es).owes := by
  cases es with
  | nil => exact absurd rfl h
  | cons e es => exact List.mem_cons_self

theorem State.loadResults_copies (s : State) (i : ImageOutcome) (l : LatchOutcome) :
    (s.loadResults i l).working = i.copy ∧ (s.loadResults i l).committed = i.copy
      ∧ (s.loadResults i l).unsaved = false := by
  obtain ⟨working, committed, unsaved⟩ := s.replaceCopies_copies i.copy
  simp [State.loadResults, working, committed, unsaved]

theorem State.loadResults_loadsInto (s : State) (i : ImageOutcome) (l : LatchOutcome) :
    s.LoadsInto i.copy l.entries (loadVerdicts i l) (s.loadResults i l) := by
  obtain ⟨working, committed, unsaved⟩ := s.loadResults_copies i l
  set restored := (s.replaceCopies i.copy).tableEvent
    ((s.replaceCopies i.copy).table.restore (s.replaceCopies i.copy).now l.entries)
  set ended := (restored.deliverAll (loadVerdicts i l)).owe [.endOfLoading]
  have result : s.loadResults i l = ended.endOperation := rfl
  have store : ended.store = s.store := by simp [ended, restored]
  have owed : (s.loadResults i l).owed = (restored.deliverAll (loadVerdicts i l)).owed ++ [.endOfLoading] :=
    State.endOperation_owed _
  refine ⟨⟨working, committed, unsaved⟩, ?_, ?_, fun h => ?_, fun hl hs hr => ?_, fun hl => ?_, ?_⟩
  · rw [result, State.endOperation_table, State.owe_table]
    exact State.deliverAll_table_congr _
      (congrArg (fun now => (FaultTable.restore _ now _).table) (s.replaceCopies_now _))
      (s.replaceCopies_copies _).1 (s.replaceCopies_now _)
  · rw [owed]
    exact List.mem_append_right _ (List.mem_singleton_self _)
  · rw [owed]
    exact List.mem_append_left _ (State.mem_deliverAll_owed
      (List.mem_append_right _ (FaultTable.restore_announces _ _ h)) _)
  · rw [result, State.endOperation_nothing (by rwa [store]) (by rwa [store]) (by rwa [store])]
  · rw [result]
    exact State.endOperation_latch (by rwa [store])
  · apply State.ext_fields <;> simp

/-- What the buffers held before a LOAD plays no part in what it hands on. -/
theorem State.LoadsInto.of_buffers {f : Store → Store} {c : Copy} {es : List LatchEntry} {vs : List Delivery}
    (h : (s.updStore f).LoadsInto c es vs t) (hl : (f s.store).latchPending = s.store.latchPending)
    (hs : (f s.store).savePending = s.store.savePending) (hr : (f s.store).reloadPending = s.store.reloadPending) :
    s.LoadsInto c es vs t where
  copies := h.copies
  table := h.table.trans (State.deliverAll_table_congr _ rfl rfl rfl)
  ended := h.ended
  told := h.told
  free h1 h2 h3 := h.free (hl.trans h1) (hs.trans h2) (hr.trans h3)
  latch h1 := h.latch (hl.trans h1)
  rest := h.rest

/-! ## The commands of a LOAD -/

theorem exec_loadImageReadDone_lost (hop : s.store.op = .loadImage) {r : BusRead}
    (hr : r = .noAcknowledge ∨ s.store.refused = true) :
    exec (.loadImageReadDone r) s = .next ((s.imageRead r).loadResults .noMemory .noMemory) := by
  have lost : (readImage s.store.imageBuffer (s.readBus r)).1 = .noMemory := by
    rw [State.readBus_lost hr]; rfl
  exact congrArg Host.Outcome.next ((if_pos hop).trans (if_pos lost))

theorem testImage_ne_noMemory (img : List Byte) : testImage img ≠ .noMemory := by
  unfold testImage
  repeat' split
  all_goals nofun

/-- An image that was read is tested, and the latch list is read next. -/
theorem exec_loadImageReadDone_read (hop : s.store.op = .loadImage) (hr : s.store.refused = false)
    (altered : List Host.Cell) : exec (.loadImageReadDone (.returned altered)) s = .next { s with
      store := { s.store with
        imageBuffer := returnedBytes s.memory altered 0 232
        op := .loadLatches (testImage (returnedBytes s.memory altered 0 232))
        refused := decide (0 < s.memoryBusy) } } := by
  have read := State.readBus_returned hr (Store.bus_loadImage hop) altered
  simp only [exec, execLoadImageReadDone, hop, read, readImage, if_neg (testImage_ne_noMemory _)]
  rfl

theorem exec_loadLatchListReadDone {i : ImageOutcome} (hop : s.store.op = .loadLatches i) (r : BusRead) :
    exec (.loadLatchListReadDone r) s
      = .next ((s.latchesRead r).loadResults i (readLatches s.store.latchBuffer (s.readBus r)).1) := by
  simp only [exec, execLoadLatchListReadDone, hop]
  rfl

end

/-! ## The tests of R179 -/

theorem testImage_crc {img : List Byte} (h : imageCrcGood img = false ∨ imageHeaderGood img = false) :
    testImage img = .crc := by
  rcases h with h | h <;> simp [testImage, h]

theorem testImage_of_good {img : List Byte} (hc : imageCrcGood img = true) (hh : imageHeaderGood img = true) :
    (∀ f, imageFailure img = some f → testImage img = .invalid f)
      ∧ (imageFailure img = none → testImage img = .valid (imageCopy img)) := by
  constructor
  · intro f hf
    simp [testImage, hc, hh, hf]
  · intro hf
    simp [testImage, hc, hh, hf]

theorem ImageOutcome.copy_builtin {i : ImageOutcome} (h : ∀ d, i ≠ .valid d) : i.copy = Copy.builtin := by
  cases i with
  | valid c => exact absurd rfl (h c)
  | noMemory | crc | invalid => rfl

theorem LatchOutcome.entries_nil {l : LatchOutcome} (h : ∀ es, l ≠ .valid es) : l.entries = [] := by
  cases l with
  | valid es => exact absurd rfl (h es)
  | noMemory | invalid => rfl

/-- Settles O48. -/
theorem loadReadsImageThenLatchList : Obligations.LoadReadsImageThenLatchList := by
  refine ⟨fun img => ⟨testImage_crc, testImage_of_good⟩,
    fun altered s hop hr => exec_loadImageReadDone_read hop hr altered,
    fun r s hop hr => ⟨_, exec_loadImageReadDone_lost hop hr,
      ((s.imageRead r).loadResults_loadsInto .noMemory .noMemory).of_buffers rfl rfl rfl⟩,
    fun r i s hop hi => ?_⟩
  obtain ⟨l, hl⟩ : ∃ l, (readLatches s.store.latchBuffer (s.readBus r)).1 = l := ⟨_, rfl⟩
  have loads := ((s.latchesRead r).loadResults_loadsInto i l).of_buffers rfl rfl rfl
  have run := exec_loadLatchListReadDone hop r
  rw [hl] at run
  refine ⟨_, l, _, run, ?_, ?_, ?_, ?_, ?_, ?_, _, _, loads, ?_, ImageOutcome.copy_builtin, ?_,
    LatchOutcome.entries_nil⟩
  · intro lost
    rw [← hl, State.readBus_lost lost]
    rfl
  · rintro altered rfl hr
    rw [← hl, State.readBus_returned hr (Store.bus_loadLatches hop)]
    rfl
  · rintro ⟨c, es, rfl, rfl⟩; rfl
  · rintro ⟨c, rfl⟩ rfl; rfl
  · rintro ⟨c, rfl⟩ rfl; rfl
  · intro cause h
    have hc : i.cause = some cause := by rcases h with ⟨rfl, rfl⟩ | ⟨⟨f, rfl⟩, rfl⟩ <;> rfl
    rw [loadVerdicts_of_cause hi hc]
    exact ⟨by rintro ⟨es, rfl⟩; rfl, by rintro rfl; rfl, by rintro rfl; rfl⟩
  · rintro d rfl; rfl
  · rintro fs rfl; rfl

end Sys2Proof.Machine
end

section
/-! PROOFS. The latch-list rewrite (O49): the snapshot, which is the contained WORKSHOP records sorted oldest first, and
the page that holds it. -/

namespace Sys2Proof.Machine

open Sys2Proof

/-! ## The records a snapshot selects, with their slots (05 R81) -/

/-- The contained WORKSHOP records with their slots, in slot order. -/
def FaultTable.workshopSlots (t : FaultTable) : List (Nat × FaultRecord) :=
  (slotsFrom t.slots 0).filter fun x => x.2.policy == .workshop && x.2.contained

theorem map_snd_slotsFrom (l : List (Option FaultRecord)) (n : Nat) :
    (slotsFrom l n).map Prod.snd = l.filterMap id := by
  induction l generalizing n with
  | nil => rfl
  | cons o l ih =>
    cases o with
    | none => exact ih (n + 1)
    | some r => exact congrArg (r :: ·) (ih (n + 1))

theorem FaultTable.map_snd_workshopSlots (t : FaultTable) : t.workshopSlots.map Prod.snd = t.workshopContained := by
  rw [FaultTable.workshopContained, FaultTable.contained, FaultTable.records, List.filter_filter,
    ← map_snd_slotsFrom t.slots 0, List.filter_map]
  rfl

theorem FaultTable.mem_workshopSlots_iff {t : FaultTable} {i : Nat} {r : FaultRecord} :
    (i, r) ∈ t.workshopSlots ↔ t.slot i = some r ∧ r.policy = .workshop
      ∧ (r.state = .active ∨ r.state = .clearing ∨ r.state = .latched) := by
  simp [FaultTable.workshopSlots, mem_slotsFrom, FaultTable.slot_eq_some_iff, FaultRecord.contained_iff]

theorem FaultTable.workshopSlots_pairwise (t : FaultTable) : t.workshopSlots.Pairwise fun a b => a.1 < b.1 :=
  (slotsFrom_pairwise _ _).filter _

/-! ## Oldest first, ties to the lower slot (05 R81) -/

/-- The first of two records with their slots was first confirmed longer ago. -/
abbrev Older (now : Time) (a b : Nat × FaultRecord) : Prop := b.2.confirmedAge now < a.2.confirmedAge now

/-- The order of a snapshot: oldest first confirmed time first, ties to the lower slot. -/
def OldestFirst (now : Time) (a b : Nat × FaultRecord) : Prop :=
  Older now a b ∨ (a.2.confirmedAge now = b.2.confirmedAge now ∧ a.1 < b.1)

section
variable {now : Time} {x : Nat × FaultRecord} {l : List (Nat × FaultRecord)}

theorem OldestFirst.age_le {a b : Nat × FaultRecord} (h : OldestFirst now a b) :
    b.2.confirmedAge now ≤ a.2.confirmedAge now :=
  h.elim Nat.le_of_lt fun tie => tie.1.ge

/-- A record of a higher slot, put before the first that is younger, stands in the order of a snapshot. -/
theorem OldestFirst.orderedInsert (h : l.Pairwise (OldestFirst now)) (low : ∀ y ∈ l, y.1 < x.1) :
    (l.orderedInsert (Older now) x).Pairwise (OldestFirst now) := by
  induction l with
  | nil => exact List.pairwise_singleton _ _
  | cons y l ih =>
    obtain ⟨first, rest⟩ := List.pairwise_cons.1 h
    rw [List.orderedInsert_cons]
    split
    · next older =>
      refine List.pairwise_cons.2 ⟨fun z hz => .inl ?_, h⟩
      rcases List.mem_cons.1 hz with rfl | hz
      · exact older
      · exact Nat.lt_of_le_of_lt (first z hz).age_le older
    · next younger =>
      refine List.pairwise_cons.2 ⟨fun z hz => ?_, ih rest fun z hz => low z (List.mem_cons_of_mem y hz)⟩
      rcases (List.mem_orderedInsert _).1 hz with rfl | hz
      · rcases (Nat.not_lt.1 younger).lt_or_eq with older | tie
        · exact .inl older
        · exact .inr ⟨tie.symm, low y List.mem_cons_self⟩
      · exact first z hz

/-- Taken one by one in slot order, records are sorted into the order of a snapshot. -/
theorem OldestFirst.insertionSort (h : l.Pairwise fun a b => b.1 < a.1) :
    (l.insertionSort (Older now)).Pairwise (OldestFirst now) := by
  induction l with
  | nil => exact .nil
  | cons x l ih =>
    obtain ⟨first, rest⟩ := List.pairwise_cons.1 h
    exact OldestFirst.orderedInsert (ih rest) fun y hy => first y ((List.mem_insertionSort _).1 hy)

end

/-- The contained WORKSHOP records with their slots, in the order of a snapshot. -/
def FaultTable.workshopSorted (t : FaultTable) (now : Time) : List (Nat × FaultRecord) :=
  t.workshopSlots.reverse.insertionSort (Older now)

/-! ## The snapshot (05 R81) -/

/-- The entry of the latch list that a record makes. -/
def FaultRecord.latchEntry (r : FaultRecord) : LatchEntry := ⟨r.unit, r.kind, r.occurrences⟩

/-- What a snapshot sorts: the entry of a record, by how long ago the record was first confirmed. -/
def latchKeyed (now : Time) (x : Nat × FaultRecord) : Nat × LatchEntry := (x.2.confirmedAge now, x.2.latchEntry)

theorem insertOldest_eq_orderedInsert (x : Nat × LatchEntry) (l : List (Nat × LatchEntry)) :
    insertOldest x l = l.orderedInsert (fun a b => b.1 < a.1) x := by
  induction l with
  | nil => rfl
  | cons y l ih => rw [insertOldest, List.orderedInsert_cons, ih]

section
variable (t : FaultTable) (now : Time)

theorem FaultTable.workshopSorted_perm : (t.workshopSorted now).Perm t.workshopSlots :=
  (List.perm_insertionSort _ _).trans (List.reverse_perm _)

theorem FaultTable.workshopSorted_pairwise : (t.workshopSorted now).Pairwise (OldestFirst now) :=
  OldestFirst.insertionSort (List.pairwise_reverse.2 t.workshopSlots_pairwise)

theorem FaultTable.map_snd_workshopSorted_perm : ((t.workshopSorted now).map Prod.snd).Perm t.workshopContained :=
  t.map_snd_workshopSlots ▸ (t.workshopSorted_perm now).map Prod.snd

/-- A snapshot is the first eight of the sorted records. -/
theorem FaultTable.snapshot_eq :
    t.snapshot now = ((t.workshopSorted now).take 8).map fun x => x.2.latchEntry := by
  have found : t.workshopContained.map (fun r => (r.confirmedAge now, r.latchEntry))
      = t.workshopSlots.map (latchKeyed now) := by
    rw [← t.map_snd_workshopSlots, List.map_map]
    rfl
  have sorted : (t.workshopSlots.map (latchKeyed now)).foldl (fun l x => insertOldest x l) []
      = (t.workshopSorted now).map (latchKeyed now) := by
    simp only [insertOldest_eq_orderedInsert]
    rw [List.foldl_eq_foldr_reverse, ← List.map_reverse]
    exact (List.map_insertionSort (Older now) (fun a b => b.1 < a.1) (latchKeyed now) _ fun _ _ _ _ => Iff.rfl).symm
  calc t.snapshot now
      = (((t.workshopSlots.map (latchKeyed now)).foldl (fun l x => insertOldest x l) []).take 8).map Prod.snd := by
        rw [← found]; rfl
    _ = ((t.workshopSorted now).take 8).map fun x => x.2.latchEntry := by
        rw [sorted, ← List.map_take, List.map_map]
        rfl

variable {t now}

theorem FaultTable.mem_snapshot {e : LatchEntry} (h : e ∈ t.snapshot now) :
    ∃ r ∈ t.workshopContained, e = r.latchEntry := by
  rw [FaultTable.snapshot_eq] at h
  obtain ⟨x, hx, rfl⟩ := List.mem_map.1 h
  exact ⟨x.2, (t.map_snd_workshopSorted_perm now).mem_iff.1 (List.mem_map_of_mem (List.mem_of_mem_take hx)), rfl⟩

/-- Where no more than eight are found, the snapshot holds all of them. -/
theorem FaultTable.mem_snapshot_of_few (few : t.workshopContained.length ≤ 8) {r : FaultRecord}
    (h : r ∈ t.workshopContained) : r.latchEntry ∈ t.snapshot now := by
  have perm := t.map_snd_workshopSorted_perm now
  have all : (t.workshopSorted now).take 8 = t.workshopSorted now :=
    List.take_of_length_le (by rw [← List.length_map (f := Prod.snd), perm.length_eq]; exact few)
  obtain ⟨x, hx, rfl⟩ := List.mem_map.1 (perm.mem_iff.2 h)
  rw [FaultTable.snapshot_eq, all]
  exact List.mem_map_of_mem hx

theorem FaultTable.mem_workshopContained_iff {r : FaultRecord} :
    r ∈ t.workshopContained ↔ r ∈ t.contained ∧ r.policy = .workshop := by
  simp [FaultTable.workshopContained]

end

/-! ## The request (10 R178) -/

section
variable {s : State}

theorem exec_latchRewriteRequest_waits (h : s.store.op ≠ .none) : exec .latchRewriteRequest s = .next { s with
    owed := s.owed.erase .latchRequest, store := { s.store with latchPending := true } } := by
  simp only [exec, execLatchRewriteRequest, State.took_eq_erase]
  exact congrArg Host.Outcome.next (State.beginPending_running h)

theorem exec_latchRewriteRequest_begins (h : s.store.op = .none) : exec .latchRewriteRequest s = .next { s with
    owed := s.owed.erase .latchRequest
    store := { s.store with
      op := .latchPage, latchPending := false, latchBuffer := encodeLatches (s.table.snapshot s.now)
      refused := decide (0 < s.memoryBusy) } } := by
  simp only [exec, execLatchRewriteRequest, State.took_eq_erase]
  exact congrArg Host.Outcome.next (State.beginPending_latch h rfl)

/-! ## The page of the latch list (10 R185) -/

theorem exec_latchPageWriteDone_acknowledged (hop : s.store.op = .latchPage) (hr : s.store.refused = false) :
    exec (.latchPageWriteDone true) s = .next ((s.writePage 512 s.store.latchBuffer).setOp .latchWait) := by
  simp only [exec, execLatchPageWriteDone, hop, Store.acknowledged_open hr, if_true,
    State.completeWrite_eq (Store.bus_latchPage hop)]

theorem exec_latchPageWriteDone_failed (hop : s.store.op = .latchPage) {ack : Bool}
    (hack : ack = false ∨ s.store.refused = true) :
    exec (.latchPageWriteDone ack) s = .next (s.deliver (storeFault .saveVerify)).endOperation := by
  simp [exec, execLatchPageWriteDone, hop, Store.acknowledged_lost hack]

end

/-- Settles O49: the snapshot is `FaultTable.workshopSorted` cut to eight. -/
theorem latchWriteStoresSnapshot : Obligations.LatchWriteStoresSnapshot := by
  refine ⟨fun s => ⟨exec_latchRewriteRequest_waits, exec_latchRewriteRequest_begins⟩,
    fun t now => ⟨t.snapshot_length_le now, fun e he => ?_, fun few r hr hp => ?_, ?_,
      fun r at_ hat => FaultRecord.confirmedAge_of_confirmed hat now⟩,
    fun s hop hlen hm => ⟨fun hr => ?_, fun ack hack => ?_⟩⟩
  · obtain ⟨r, hr, rfl⟩ := FaultTable.mem_snapshot he
    obtain ⟨contained, workshop⟩ := FaultTable.mem_workshopContained_iff.1 hr
    exact ⟨r, contained, workshop, rfl⟩
  · exact FaultTable.mem_snapshot_of_few few (FaultTable.mem_workshopContained_iff.2 ⟨hr, hp⟩)
  · exact ⟨t.workshopSorted now, t.workshopSorted_pairwise now,
      fun i r => (t.workshopSorted_perm now).mem_iff.trans FaultTable.mem_workshopSlots_iff,
      t.map_snd_workshopSorted_perm now, t.snapshot_eq now⟩
  · have page : ∀ a, (s.writePage 512 s.store.latchBuffer).memory.read a
        = if 512 ≤ a ∧ a < 539 then byteAt s.store.latchBuffer (a - 512) else s.memory.read a := fun a => by
      rw [State.writePage_read hm, hlen]
    have rest := State.writePage_setOp_eq (op := .latchWait) hr rfl 512 s.store.latchBuffer _ rfl
    refine ⟨_, exec_latchPageWriteDone_acknowledged hop hr, fun a h1 h2 => ?_, fun a ha => ?_,
      congrArg State.store rest, rfl, rfl, ?_⟩
    · exact (page a).trans (if_pos ⟨h1, h2⟩)
    · exact (page a).trans (if_neg (by omega))
    · apply State.ext_fields <;> rfl
  · refine ⟨_, exec_latchPageWriteDone_failed hop hack, State.endOperation_table _, State.endOperation_memory _,
      State.endOperation_owed _, fun hl hs hr => ?_, ?_⟩
    · rw [State.endOperation_nothing (s := s.deliver _) hl hs hr]
      rfl
    · apply State.ext_fields <;> simp

end Sys2Proof.Machine
end

section
/-! PROOFS. The queue: a step runs the command at its front (O1), and every command completes and leaves the waiting
commands alone (O2). -/

namespace Sys2Proof.Machine

open Sys2Proof

/-! ## The step by the queue it finds (log 1, 2) -/

theorem step_front {s : State} {c : Instr} {rest : List Instr} (h : s.pending = c :: rest) :
    step s = exec c { s with pending := rest } := by
  rw [step, h]

theorem step_idle {s : State} (h : s.pending = []) : step s = .next s := by
  rw [step, h]

/-- Settles O1: one equation of `step` for each form of the queue. -/
theorem stepRunsFrontCommand : Obligations.StepRunsFrontCommand :=
  ⟨fun _ _ _ => step_front, fun _ => step_idle⟩

/-! ## What service commands are built from leaves the queue alone (09 R153, R154, R157) -/

@[simp] theorem Carried.placed_pending (x : Carried) : x.placed.pending = x.state.pending := by
  unfold Carried.placed
  split <;> simp

@[simp] theorem Carried.finish_pending (x : Carried) : x.finish.pending = x.state.pending :=
  Carried.placed_pending _

@[simp] theorem State.answer_pending (s : State) (i : Instr) (r : Reply) : (s.answer i r).pending = s.pending := rfl

@[simp] theorem State.completeWrite_pending (s : State) : s.completeWrite.pending = s.pending := by
  unfold State.completeWrite
  split <;> simp

section
variable {s t u : State}

/-- A choice between two states that have the queue of `s` has it too. -/
theorem State.ite_pending {b : Prop} [Decidable b] (ht : t.pending = s.pending := by simp)
    (hu : u.pending = s.pending := by simp) : (if b then t else u).pending = s.pending :=
  ite_within (P := fun x : State => x.pending = s.pending) (fun _ => ht) hu

/-- A choice between two ends of a service command, both with the queue of `s`. -/
theorem Carried.ite_pending {b : Prop} [Decidable b] {x y : Carried} (hx : x.state.pending = s.pending := by simp)
    (hy : y.state.pending = s.pending := by simp) : (if b then x else y).state.pending = s.pending :=
  ite_within (P := fun z : Carried => z.state.pending = s.pending) (fun _ => hx) hy

theorem State.inService_pending (i : Instr) (seq code : Byte) {f : State → Carried}
    (hf : ∀ v : State, (f v).state.pending = v.pending) : (s.inService i seq code f).pending = s.pending :=
  State.ite_pending ((Carried.finish_pending _).trans (hf (s.takeCommand i)))

theorem State.unlessBusy_pending (seq code : Byte) {f : State → Carried} (hf : (f s).state.pending = s.pending) :
    (s.unlessBusy seq code f).state.pending = s.pending :=
  Carried.ite_pending rfl hf

end

/-! ## The service commands (09 R156, R159, R160, R166 to R171) -/

theorem State.rowWrite_pending (s : State) (seq kind : Byte) (b : RowBytes) :
    (s.rowWrite seq kind b).state.pending = s.pending := by
  unfold State.rowWrite
  split
  · rfl
  · split
    · rfl
    · split
      · rfl
      · simp

theorem State.paramWrite_pending (s : State) (seq number : Byte) (v : Half) :
    (s.paramWrite seq number v).state.pending = s.pending := by
  unfold State.paramWrite
  split
  · rfl
  · exact Carried.ite_pending rfl rfl

theorem State.recordClear_pending (s : State) (seq slot : Byte) :
    (s.recordClear seq slot).state.pending = s.pending := by
  unfold State.recordClear
  split
  · split
    · rfl
    · split <;> simp
  · rfl

theorem State.startSweep_pending (s : State) (seq start unit kind mode count : Byte) :
    (s.startSweep seq start unit kind mode count).state.pending = s.pending := by
  unfold State.startSweep
  split
  · rfl
  · exact Carried.ite_pending rfl rfl

theorem State.pushOverride_pending (s : State) (seq isolateFront isolateRear floor inhibit : Byte) :
    (s.pushOverride seq isolateFront isolateRear floor inhibit).state.pending = s.pending := by
  unfold State.pushOverride
  split
  · rfl
  · exact Carried.ite_pending

theorem State.popOverride_pending (s : State) (seq : Byte) : (s.popOverride seq).state.pending = s.pending := by
  unfold State.popOverride
  split <;> simp

theorem State.serviceLeave_pending (s : State) (seq : Byte) : (s.serviceLeave seq).pending = s.pending := by
  unfold State.serviceLeave
  dsimp only
  split <;> simp

/-! ## Every command -/

section
variable {s t : State}

/-- A command that answers a next state with the queue it found completes and keeps the queue. -/
theorem completes_keeping_queue (h : t.pending = s.pending := by simp) :
    ∃ u, Host.Outcome.next (φ := Fault) (ρ := Refusal) t = .next u ∧ u.pending = s.pending :=
  ⟨t, rfl, h⟩

/-- Every expiry command takes its expiry and, in force, has one effect. -/
theorem State.expiry_pending (c : Chan) {b : Prop} [Decidable b] {f : State → State}
    (hf : ∀ v : State, (f v).pending = v.pending := by simp) :
    (if b then f (s.afterExpiry c) else s.afterExpiry c).pending = s.pending :=
  State.ite_pending (hf (s.afterExpiry c))

theorem exec_completes_keeping_queue (c : Instr) (s : State) : ∃ t, exec c s = .next t ∧ t.pending = s.pending := by
  cases c with
  -- power-on, the time base and the switch inputs (00, 02, 03)
  | powerOn => exact completes_keeping_queue rfl
  | timeBaseStep => exact completes_keeping_queue rfl
  | switchChangeAccepted => exact completes_keeping_queue (State.ite_pending rfl (State.ite_pending rfl rfl))
  -- what a port hears and sends (01)
  | frameReceived | receiveError | byteReceived => exact completes_keeping_queue State.ite_pending
  | lineBreak => exact completes_keeping_queue (State.ite_pending rfl State.ite_pending)
  | breakEnd => exact completes_keeping_queue State.ite_pending
  | transmitterTakeFrame p =>
    refine completes_keeping_queue ?_
    split
    · simp
    · cases p <;> simp
  -- the expiries (01, 03, 05 to 10)
  | freshnessExpiry p => exact completes_keeping_queue (State.expiry_pending p.channel (f := fun v => v.silence p))
  | recordTickExpiry =>
    exact completes_keeping_queue
      (State.expiry_pending .recordTick (f := fun v => v.tableEvent (s.table.tick s.working)))
  | envelopeExpiry | checkExpiry | gatherExpiry | haltRampExpiry | storeWaitExpiry | serviceIdleExpiry =>
    exact completes_keeping_queue (State.expiry_pending _)
  -- what the blocks owe each other (05 to 07)
  | arrivalNotice | linkStateNotice | isolationNotice | containmentAnnouncement | wakeFalling =>
    exact completes_keeping_queue
  | wakeRising | gatherBatchTaken | endOfLoading | sweepExamination =>
    exact completes_keeping_queue State.ite_pending
  -- the configuration store (10)
  | loadImageReadDone => exact completes_keeping_queue (State.ite_pending State.ite_pending rfl)
  | loadLatchListReadDone | storeEndReport =>
    refine completes_keeping_queue ?_
    split <;> simp
  | latchRewriteRequest => exact completes_keeping_queue
  | savePageWriteDone =>
    refine completes_keeping_queue ?_
    split
    · exact State.ite_pending
    all_goals rfl
  | saveReadbackDone | latchPageWriteDone =>
    exact completes_keeping_queue (State.ite_pending State.ite_pending rfl)
  | reloadReadDone => exact completes_keeping_queue State.ite_pending
  -- queries (09)
  | queryRecords | queryLink | queryRow | queryParam | queryEnvelope | unknownCommand =>
    exact completes_keeping_queue
  -- service commands (09)
  | serviceEnter =>
    refine completes_keeping_queue ?_
    split
    · exact State.ite_pending
    · simp
  | serviceLeave seq =>
    exact completes_keeping_queue
      (State.ite_pending (State.ite_pending (by simp) (State.serviceLeave_pending (s.takeCommand _) seq)))
  | rowWrite =>
    exact completes_keeping_queue (State.inService_pending _ _ _ fun v =>
      State.unlessBusy_pending _ _ (v.rowWrite_pending _ _ _))
  | paramWrite =>
    exact completes_keeping_queue (State.inService_pending _ _ _ fun v =>
      State.unlessBusy_pending _ _ (v.paramWrite_pending _ _ _))
  | storeSave | storeReload =>
    exact completes_keeping_queue (State.inService_pending _ _ _ fun v =>
      State.unlessBusy_pending _ _ (by simp [State.beginSave, State.beginReload]))
  | recordClear => exact completes_keeping_queue (State.inService_pending _ _ _ fun v => v.recordClear_pending _ _)
  | sweepStart =>
    exact completes_keeping_queue (State.inService_pending _ _ _ fun v => v.startSweep_pending _ _ _ _ _ _)
  | sweepResume | sweepCancel =>
    exact completes_keeping_queue (State.inService_pending _ _ _ fun _ => Carried.ite_pending rfl rfl)
  | overridePush =>
    exact completes_keeping_queue (State.inService_pending _ _ _ fun v => v.pushOverride_pending _ _ _ _ _)
  | overridePop => exact completes_keeping_queue (State.inService_pending _ _ _ fun v => v.popOverride_pending _)

end

/-- Settles O2, by cases on the command. -/
theorem everyCommandCompletesAndKeepsQueue : Obligations.EveryCommandCompletesAndKeepsQueue :=
  exec_completes_keeping_queue

end Sys2Proof.Machine
end
